-- ==== Sys2Proof/Word.lean ====
section
/-! DEFINITION. The words of the CT-4: what the manual itself treats as bits of a fixed width. Counts, volumes and
indexes are `Nat` elsewhere. -/

namespace Sys2Proof

/-- A byte of a request frame, a response frame or a record (R164, R166). -/
abbrev Byte := BitVec 8

/-- A value of the 48-bit tick counter (R1); differences wrap modulo 2^48. -/
abbrev Tick := BitVec 48

/-- A 32-bit count of seconds: uptime (R3) or station time (R4). -/
abbrev Seconds := BitVec 32

end Sys2Proof
end

