-- ==== Sys2Proof/Syntax.lean ====
section
/-! DEFINITION. The commands of the CT-4: one constructor per row of spec/opcode_table.json. A request command stands
for the end event of a whole transaction that carried that request (R168); its `args` are the argument bytes of the
frame (R164), as many as the frame declared, so that a wrong number of them has its answer (R169). -/

namespace Sys2Proof

/-- The four meter runs (00_scope.md, Conventions). -/
inductive Run where
  | run1 | run2 | run3 | run4
deriving DecidableEq, Repr

/-- The three ports (R162). -/
inductive Port where
  | opr | wit | sup
deriving DecidableEq, Repr

/-- The two prover detector switches (R104). -/
inductive Detector where
  | det1 | det2
deriving DecidableEq, Repr

/-- An edge of SCK; at a rising edge the port takes in the level of SDI (R163). -/
inductive SckEdge where
  | rising (sdi : Bool)
  | falling
deriving DecidableEq, Repr

/-- The commands, one per row of the table. -/
inductive Instr where
  /-- RESET: power-on or a low RESETn (R190). -/
  | reset
  /-- RESTORE_COMPLETE: the restore completion event (R190). -/
  | restoreComplete
  /-- EDGE_EVENT: an accepted change of a run's pair of levels to `a`, `b`, with the edge's tick (R5, R6). -/
  | edgeEvent (run : Run) (a b : Bool) (tick : Tick)
  /-- INTEGRITY_BLOCK_END: the run's 1000th classified cycle, an error cycle or not, ends its integrity block (R12). -/
  | integrityBlockEnd (run : Run) (isError : Bool)
  /-- WINDOW_EXPIRY: the run's window deadline is reached (R2). -/
  | windowExpiry (run : Run)
  /-- PULSE_END: the grab pulse ends (R154). -/
  | pulseEnd
  /-- GAP_END: the gap after a grab pulse ends (R154). -/
  | gapEnd
  /-- RCVHI_CHANGE: the level of RCVHI is accepted as `level` (R152). -/
  | rcvhiChange (level : Bool)
  /-- ONE_SECOND_EVENT: 10 000 000 ticks have passed (R3). -/
  | oneSecondEvent
  /-- PROPOSAL_EXPIRY: the one-second event at the proposal table (R144). -/
  | proposalExpiry
  /-- NO_DETECTOR: the one-second event at the proving session (R122). -/
  | noDetector
  /-- PERIODIC_CHECKPOINT: the one-second event at the retention store (R187). -/
  | periodicCheckpoint
  /-- DETECTOR_EVENT: an accepted active edge of a detector, with the edge's tick (R104, R105). -/
  | detectorEvent (detector : Detector) (tick : Tick)
  /-- PASS_TIMEOUT: 60 s have passed since `tD1` (R113). -/
  | passTimeout (tD1 : Tick)
  /-- JOB_COMPLETE: the write time of the job in progress ends (R186). -/
  | jobComplete
  /-- POWER_FAIL_WARNING: PFAIL is accepted active (R188). -/
  | powerFailWarning
  /-- POWER_FAIL_CLEAR: PFAIL is accepted inactive (R189). -/
  | powerFailClear
  /-- FRAME_ERROR: a transaction that was not well formed ends; `first` is its byte 0, if a whole byte came (R165). -/
  | frameError (port : Port) (first : Option Byte)
  /-- UNKNOWN_REQUEST: a well-formed frame whose code is not in the catalogue (R169). -/
  | unknownRequest (port : Port) (code : Byte)
  /-- NOP: the request NOP (R173). -/
  | nop (port : Port) (args : List Byte)
  /-- IDENTIFY: the request IDENTIFY (R174). -/
  | identify (port : Port) (args : List Byte)
  /-- READ_TIME: the request READ_TIME (R175). -/
  | readTime (port : Port) (args : List Byte)
  /-- READ_EVENTS: the request READ_EVENTS (R179). -/
  | readEvents (port : Port) (args : List Byte)
  /-- TOP_EVENT: the request TOP_EVENT (R180). -/
  | topEvent (port : Port) (args : List Byte)
  /-- CLEAR_EVENTS: the request CLEAR_EVENTS (R181). -/
  | clearEvents (port : Port) (args : List Byte)
  /-- SET_LEVEL: the request SET_LEVEL (R182). -/
  | setLevel (port : Port) (args : List Byte)
  /-- SET_THRESHOLD: the request SET_THRESHOLD (R182). -/
  | setThreshold (port : Port) (args : List Byte)
  /-- READ_RUN: the request READ_RUN (R46). -/
  | readRun (port : Port) (args : List Byte)
  /-- READ_TOTALS: the request READ_TOTALS (R45). -/
  | readTotals (port : Port) (args : List Byte)
  /-- READ_CURVE: the request READ_CURVE (R57). -/
  | readCurve (port : Port) (args : List Byte)
  /-- RUN_ENABLE: the request RUN_ENABLE (R20). -/
  | runEnable (port : Port) (args : List Byte)
  /-- RUN_ENABLE_OFF: the RUN_ENABLE frame with on = 0 (R21). -/
  | runEnableOff (port : Port) (run : Byte)
  /-- SET_CUTOFF: the request SET_CUTOFF (R19). -/
  | setCutoff (port : Port) (args : List Byte)
  /-- SET_INTEGRITY_LIMIT: the request SET_INTEGRITY_LIMIT (R14). -/
  | setIntegrityLimit (port : Port) (args : List Byte)
  /-- READ_BATCH: the request READ_BATCH (R83). -/
  | readBatch (port : Port) (args : List Byte)
  /-- READ_QUEUE: the request READ_QUEUE (R65). -/
  | readQueue (port : Port) (args : List Byte)
  /-- PLAN_ADD: the request PLAN_ADD (R62). -/
  | planAdd (port : Port) (args : List Byte)
  /-- PLAN_REMOVE: the request PLAN_REMOVE (R63). -/
  | planRemove (port : Port) (args : List Byte)
  /-- PLAN_CLEAR: the request PLAN_CLEAR (R64). -/
  | planClear (port : Port) (args : List Byte)
  /-- BATCH_OPEN: the request BATCH_OPEN (R67). -/
  | batchOpen (port : Port) (args : List Byte)
  /-- BATCH_CLOSE: the request BATCH_CLOSE (R74). -/
  | batchClose (port : Port) (args : List Byte)
  /-- READ_RECORD: the request READ_RECORD (R90). -/
  | readRecord (port : Port) (args : List Byte)
  /-- FIND_PARCEL: the request FIND_PARCEL (R94). -/
  | findParcel (port : Port) (args : List Byte)
  /-- SET_CURSOR: the request SET_CURSOR (R92). -/
  | setCursor (port : Port) (args : List Byte)
  /-- READ_PROVING: the request READ_PROVING (R127). -/
  | readProving (port : Port) (args : List Byte)
  /-- READ_PASS: the request READ_PASS (R128). -/
  | readPass (port : Port) (args : List Byte)
  /-- PROVE_START: the request PROVE_START (R102). -/
  | proveStart (port : Port) (args : List Byte)
  /-- PROVE_ABORT: the request PROVE_ABORT (R119). -/
  | proveAbort (port : Port) (args : List Byte)
  /-- PROVE_POST: the request PROVE_POST (R126). -/
  | provePost (port : Port) (args : List Byte)
  /-- READ_PROPOSAL: the request READ_PROPOSAL (R148). -/
  | readProposal (port : Port) (args : List Byte)
  /-- PROPOSE: the request PROPOSE (R133). -/
  | propose (port : Port) (args : List Byte)
  /-- CONCUR: the request CONCUR (R137). -/
  | concur (port : Port) (args : List Byte)
  /-- REJECT: the request REJECT (R138). -/
  | reject (port : Port) (args : List Byte)
  /-- WITHDRAW: the request WITHDRAW (R142). -/
  | withdraw (port : Port) (args : List Byte)
  /-- READ_SAMPLER: the request READ_SAMPLER (R161). -/
  | readSampler (port : Port) (args : List Byte)
  /-- SAMPLER_HOLD: the request SAMPLER_HOLD (R156). -/
  | samplerHold (port : Port) (args : List Byte)
  /-- SAMPLER_OUTPUT: the request SAMPLER_OUTPUT (R155). -/
  | samplerOutput (port : Port) (args : List Byte)
  /-- RECEIVER_SWAP: the request RECEIVER_SWAP (R157). -/
  | receiverSwap (port : Port) (args : List Byte)
  /-- SET_TIME: the request SET_TIME (R4). -/
  | setTime (port : Port) (args : List Byte)
  /-- TRANSACTION_BEGIN: a port's select line is accepted low (R163). -/
  | transactionBegin (port : Port)
  /-- SCK_EDGE: an edge of a port's SCK line (R163). -/
  | sckEdge (port : Port) (edge : SckEdge)
deriving DecidableEq, Repr

end Sys2Proof
end

