-- ==== Sys2Proof/Machine/Catalogue.lean ====
section
/-! DEFINITION. The request catalogue (the table before R173): for each request its code, the ports that may send it
(R171) and its argument length. -/

namespace Sys2Proof.Machine

/-- The three sets of ports a request is permitted on (R171). -/
inductive PortSet where
  | allPorts | custodyPorts | supOnly
deriving DecidableEq, Repr

/-- Whether a port belongs to the set (R171). -/
def PortSet.has : PortSet → Port → Bool
  | .allPorts, _ => true
  | .custodyPorts, p => p != .sup
  | .supOnly, p => p == .sup

/-- A row of the catalogue; `length` is none for PROPOSE, whose length its kind gives (R133, R169). -/
structure CatalogueRow where
  code   : Byte
  ports  : PortSet
  length : Option Nat
deriving DecidableEq, Repr

namespace Catalogue

/-- NOP (R173). -/
def nop : CatalogueRow := ⟨0x00, .allPorts, some 0⟩
/-- IDENTIFY (R174). -/
def identify : CatalogueRow := ⟨0x01, .allPorts, some 0⟩
/-- READ_TIME (R175). -/
def readTime : CatalogueRow := ⟨0x02, .allPorts, some 0⟩
/-- READ_EVENTS (R179). -/
def readEvents : CatalogueRow := ⟨0x03, .allPorts, some 0⟩
/-- TOP_EVENT (R180). -/
def topEvent : CatalogueRow := ⟨0x04, .allPorts, some 0⟩
/-- CLEAR_EVENTS (R181). -/
def clearEvents : CatalogueRow := ⟨0x05, .allPorts, some 2⟩
/-- SET_LEVEL (R182). -/
def setLevel : CatalogueRow := ⟨0x06, .allPorts, some 2⟩
/-- SET_THRESHOLD (R182). -/
def setThreshold : CatalogueRow := ⟨0x07, .allPorts, some 1⟩
/-- READ_RUN (R46, R47). -/
def readRun : CatalogueRow := ⟨0x10, .allPorts, some 2⟩
/-- READ_TOTALS (R45). -/
def readTotals : CatalogueRow := ⟨0x11, .allPorts, some 2⟩
/-- READ_CURVE (R57). -/
def readCurve : CatalogueRow := ⟨0x12, .allPorts, some 1⟩
/-- RUN_ENABLE, with on = 1 or on = 0 (R20, R21). -/
def runEnable : CatalogueRow := ⟨0x18, .supOnly, some 2⟩
/-- SET_CUTOFF (R19). -/
def setCutoff : CatalogueRow := ⟨0x19, .supOnly, some 3⟩
/-- SET_INTEGRITY_LIMIT (R14). -/
def setIntegrityLimit : CatalogueRow := ⟨0x1A, .supOnly, some 3⟩
/-- READ_BATCH (R83). -/
def readBatch : CatalogueRow := ⟨0x20, .allPorts, some 1⟩
/-- READ_QUEUE (R65). -/
def readQueue : CatalogueRow := ⟨0x21, .allPorts, some 1⟩
/-- PLAN_ADD (R62). -/
def planAdd : CatalogueRow := ⟨0x22, .supOnly, some 16⟩
/-- PLAN_REMOVE (R63). -/
def planRemove : CatalogueRow := ⟨0x23, .supOnly, some 4⟩
/-- PLAN_CLEAR (R64). -/
def planClear : CatalogueRow := ⟨0x24, .supOnly, some 0⟩
/-- BATCH_OPEN (R67). -/
def batchOpen : CatalogueRow := ⟨0x25, .supOnly, some 0⟩
/-- BATCH_CLOSE (R74). -/
def batchClose : CatalogueRow := ⟨0x26, .supOnly, some 0⟩
/-- READ_RECORD (R90). -/
def readRecord : CatalogueRow := ⟨0x28, .allPorts, some 6⟩
/-- FIND_PARCEL (R94). -/
def findParcel : CatalogueRow := ⟨0x29, .allPorts, some 6⟩
/-- SET_CURSOR (R92). -/
def setCursor : CatalogueRow := ⟨0x2A, .allPorts, some 4⟩
/-- READ_PROVING (R127). -/
def readProving : CatalogueRow := ⟨0x30, .allPorts, some 1⟩
/-- READ_PASS (R128). -/
def readPass : CatalogueRow := ⟨0x31, .allPorts, some 1⟩
/-- PROVE_START (R102). -/
def proveStart : CatalogueRow := ⟨0x32, .supOnly, some 6⟩
/-- PROVE_ABORT (R119). -/
def proveAbort : CatalogueRow := ⟨0x33, .supOnly, some 0⟩
/-- PROVE_POST (R126). -/
def provePost : CatalogueRow := ⟨0x34, .supOnly, some 1⟩
/-- READ_PROPOSAL (R148). -/
def readProposal : CatalogueRow := ⟨0x38, .allPorts, some 2⟩
/-- PROPOSE (R133). -/
def propose : CatalogueRow := ⟨0x39, .allPorts, none⟩
/-- CONCUR (R137). -/
def concur : CatalogueRow := ⟨0x3A, .custodyPorts, some 2⟩
/-- REJECT (R138). -/
def reject : CatalogueRow := ⟨0x3B, .custodyPorts, some 2⟩
/-- WITHDRAW (R142). -/
def withdraw : CatalogueRow := ⟨0x3C, .allPorts, some 2⟩
/-- READ_SAMPLER (R161). -/
def readSampler : CatalogueRow := ⟨0x40, .allPorts, some 0⟩
/-- SAMPLER_HOLD (R156). -/
def samplerHold : CatalogueRow := ⟨0x41, .supOnly, some 1⟩
/-- SAMPLER_OUTPUT (R155). -/
def samplerOutput : CatalogueRow := ⟨0x42, .supOnly, some 3⟩
/-- RECEIVER_SWAP (R157). -/
def receiverSwap : CatalogueRow := ⟨0x43, .supOnly, some 0⟩
/-- SET_TIME (R4). -/
def setTime : CatalogueRow := ⟨0x48, .supOnly, some 4⟩

/-- Every row. -/
def rows : List CatalogueRow :=
  [nop, identify, readTime, readEvents, topEvent, clearEvents, setLevel, setThreshold, readRun, readTotals, readCurve,
   runEnable, setCutoff, setIntegrityLimit, readBatch, readQueue, planAdd, planRemove, planClear, batchOpen, batchClose,
   readRecord, findParcel, setCursor, readProving, readPass, proveStart, proveAbort, provePost, readProposal, propose,
   concur, reject, withdraw, readSampler, samplerHold, samplerOutput, receiverSwap, setTime]

/-- Whether a request code is in the catalogue (R169). -/
def holds (code : Byte) : Bool := rows.any fun r => r.code == code

end Catalogue

end Sys2Proof.Machine
end

