-- ==== Sys2Proof/WellFormed.lean ====
section
/-! DEFINITION. Which commands are well formed: what a frame of the wire can carry (R164, R169), and that the two rows
that share a frame with another row stand only for their own (R20, R21, R169). -/

namespace Sys2Proof

/-- The largest argument length of a frame (R164). -/
def maxArguments : Nat := 60

/-- The argument bytes of a request command fit in a frame (R164). -/
def argsFit (args : List Byte) : Bool := decide (args.length ≤ maxArguments)

/-- Whether argument bytes are those of RUN_ENABLE with on = 0, the row RUN_ENABLE_OFF (R21). -/
def isEnableOff : List Byte → Bool
  | [_, on] => on == 0
  | _ => false

/-- Whether a command is well formed. -/
def Instr.wellFormed : Instr → Bool
  | .reset => true
  | .restoreComplete => true
  | .edgeEvent _ _ _ _ => true
  | .integrityBlockEnd _ _ => true
  | .windowExpiry _ => true
  | .pulseEnd => true
  | .gapEnd => true
  | .rcvhiChange _ => true
  | .oneSecondEvent => true
  | .proposalExpiry => true
  | .noDetector => true
  | .periodicCheckpoint => true
  | .detectorEvent _ _ => true
  | .passTimeout _ => true
  | .jobComplete => true
  | .powerFailWarning => true
  | .powerFailClear => true
  | .frameError _ _ => true
  | .unknownRequest _ code => !Machine.Catalogue.holds code
  | .nop _ args => argsFit args
  | .identify _ args => argsFit args
  | .readTime _ args => argsFit args
  | .readEvents _ args => argsFit args
  | .topEvent _ args => argsFit args
  | .clearEvents _ args => argsFit args
  | .setLevel _ args => argsFit args
  | .setThreshold _ args => argsFit args
  | .readRun _ args => argsFit args
  | .readTotals _ args => argsFit args
  | .readCurve _ args => argsFit args
  | .runEnable _ args => argsFit args && !isEnableOff args
  | .runEnableOff _ _ => true
  | .setCutoff _ args => argsFit args
  | .setIntegrityLimit _ args => argsFit args
  | .readBatch _ args => argsFit args
  | .readQueue _ args => argsFit args
  | .planAdd _ args => argsFit args
  | .planRemove _ args => argsFit args
  | .planClear _ args => argsFit args
  | .batchOpen _ args => argsFit args
  | .batchClose _ args => argsFit args
  | .readRecord _ args => argsFit args
  | .findParcel _ args => argsFit args
  | .setCursor _ args => argsFit args
  | .readProving _ args => argsFit args
  | .readPass _ args => argsFit args
  | .proveStart _ args => argsFit args
  | .proveAbort _ args => argsFit args
  | .provePost _ args => argsFit args
  | .readProposal _ args => argsFit args
  | .propose _ args => argsFit args
  | .concur _ args => argsFit args
  | .reject _ args => argsFit args
  | .withdraw _ args => argsFit args
  | .readSampler _ args => argsFit args
  | .samplerHold _ args => argsFit args
  | .samplerOutput _ args => argsFit args
  | .receiverSwap _ args => argsFit args
  | .setTime _ args => argsFit args
  | .transactionBegin _ => true
  | .sckEdge _ _ => true

end Sys2Proof
end

