-- ==== Sys2Proof/Decode.lean ====
section
/-! DEFINITION. What the wire spells: no row of spec/opcode_table.json gives bits, so no word of the table decodes to a
command; but the serial ports read frames (R164, R165), and the frame decoder, with the encoder after it, stands here. -/

namespace Sys2Proof

/-- The command that a word of the table's bits spells: no row gives bits, so none. -/
def decodeTableWord (_nbits _w : Nat) : Option Instr := none

/-! ### Reading a frame (R164, R165, R169) -/

/-- A byte from eight bits, the most significant first (R163). -/
def byteOfBits (b7 b6 b5 b4 b3 b2 b1 b0 : Bool) : Byte :=
  BitVec.ofNat 8 (b7.toNat * 128 + b6.toNat * 64 + b5.toNat * 32 + b4.toNat * 16 + b3.toNat * 8 + b2.toNat * 4 +
    b1.toNat * 2 + b0.toNat)

/-- The whole bytes of the bits received, and the bits left over (R164). -/
def bytesOfBits : List Bool → List Byte × List Bool
  | b7 :: b6 :: b5 :: b4 :: b3 :: b2 :: b1 :: b0 :: rest =>
    let r := bytesOfBits rest
    (byteOfBits b7 b6 b5 b4 b3 b2 b1 b0 :: r.1, r.2)
  | rest => ([], rest)

/-- The command of a well-formed frame's code and arguments (the request catalogue; R169 step 2). -/
def requestOf (port : Port) (code : Byte) (args : List Byte) : Instr :=
  match code.toNat with
  | 0x00 => .nop port args
  | 0x01 => .identify port args
  | 0x02 => .readTime port args
  | 0x03 => .readEvents port args
  | 0x04 => .topEvent port args
  | 0x05 => .clearEvents port args
  | 0x06 => .setLevel port args
  | 0x07 => .setThreshold port args
  | 0x10 => .readRun port args
  | 0x11 => .readTotals port args
  | 0x12 => .readCurve port args
  | 0x18 => if isEnableOff args then .runEnableOff port (args.headD 0) else .runEnable port args
  | 0x19 => .setCutoff port args
  | 0x1A => .setIntegrityLimit port args
  | 0x20 => .readBatch port args
  | 0x21 => .readQueue port args
  | 0x22 => .planAdd port args
  | 0x23 => .planRemove port args
  | 0x24 => .planClear port args
  | 0x25 => .batchOpen port args
  | 0x26 => .batchClose port args
  | 0x28 => .readRecord port args
  | 0x29 => .findParcel port args
  | 0x2A => .setCursor port args
  | 0x30 => .readProving port args
  | 0x31 => .readPass port args
  | 0x32 => .proveStart port args
  | 0x33 => .proveAbort port args
  | 0x34 => .provePost port args
  | 0x38 => .readProposal port args
  | 0x39 => .propose port args
  | 0x3A => .concur port args
  | 0x3B => .reject port args
  | 0x3C => .withdraw port args
  | 0x40 => .readSampler port args
  | 0x41 => .samplerHold port args
  | 0x42 => .samplerOutput port args
  | 0x43 => .receiverSwap port args
  | 0x48 => .setTime port args
  | _ => .unknownRequest port code

/-- The command that ends a transaction which carried whole bytes: a request, or FRAME_ERROR where the frame is not well
formed (R164, R165). -/
def decodeBytes (port : Port) : List Byte → Instr
  | code :: len :: rest =>
    let l := len.toNat
    if l ≤ maxArguments ∧ l ≤ rest.length ∧ (rest.drop l).all (· == 0xFF) then requestOf port code (rest.take l)
    else .frameError port (some code)
  | bytes => .frameError port bytes.head?

/-- The command that ends a transaction which carried some bits (R164, R165). -/
def decodeFrame (port : Port) (bits : List Bool) : Instr :=
  match bytesOfBits bits with
  | (bytes, []) => decodeBytes port bytes
  | (bytes, _) => .frameError port bytes.head?

/-! ### Writing a frame -/

/-- The port, code and arguments of the frame that a request command stands for; none for an event (R164). An unknown
request is written with no arguments. -/
def frameParts : Instr → Option (Port × Byte × List Byte)
  | .reset => none
  | .restoreComplete => none
  | .edgeEvent _ _ _ _ => none
  | .integrityBlockEnd _ _ => none
  | .windowExpiry _ => none
  | .pulseEnd => none
  | .gapEnd => none
  | .rcvhiChange _ => none
  | .oneSecondEvent => none
  | .proposalExpiry => none
  | .noDetector => none
  | .periodicCheckpoint => none
  | .detectorEvent _ _ => none
  | .passTimeout _ => none
  | .jobComplete => none
  | .powerFailWarning => none
  | .powerFailClear => none
  | .frameError _ _ => none
  | .unknownRequest port code => some (port, code, [])
  | .nop port args => some (port, 0x00, args)
  | .identify port args => some (port, 0x01, args)
  | .readTime port args => some (port, 0x02, args)
  | .readEvents port args => some (port, 0x03, args)
  | .topEvent port args => some (port, 0x04, args)
  | .clearEvents port args => some (port, 0x05, args)
  | .setLevel port args => some (port, 0x06, args)
  | .setThreshold port args => some (port, 0x07, args)
  | .readRun port args => some (port, 0x10, args)
  | .readTotals port args => some (port, 0x11, args)
  | .readCurve port args => some (port, 0x12, args)
  | .runEnable port args => some (port, 0x18, args)
  | .runEnableOff port run => some (port, 0x18, [run, 0])
  | .setCutoff port args => some (port, 0x19, args)
  | .setIntegrityLimit port args => some (port, 0x1A, args)
  | .readBatch port args => some (port, 0x20, args)
  | .readQueue port args => some (port, 0x21, args)
  | .planAdd port args => some (port, 0x22, args)
  | .planRemove port args => some (port, 0x23, args)
  | .planClear port args => some (port, 0x24, args)
  | .batchOpen port args => some (port, 0x25, args)
  | .batchClose port args => some (port, 0x26, args)
  | .readRecord port args => some (port, 0x28, args)
  | .findParcel port args => some (port, 0x29, args)
  | .setCursor port args => some (port, 0x2A, args)
  | .readProving port args => some (port, 0x30, args)
  | .readPass port args => some (port, 0x31, args)
  | .proveStart port args => some (port, 0x32, args)
  | .proveAbort port args => some (port, 0x33, args)
  | .provePost port args => some (port, 0x34, args)
  | .readProposal port args => some (port, 0x38, args)
  | .propose port args => some (port, 0x39, args)
  | .concur port args => some (port, 0x3A, args)
  | .reject port args => some (port, 0x3B, args)
  | .withdraw port args => some (port, 0x3C, args)
  | .readSampler port args => some (port, 0x40, args)
  | .samplerHold port args => some (port, 0x41, args)
  | .samplerOutput port args => some (port, 0x42, args)
  | .receiverSwap port args => some (port, 0x43, args)
  | .setTime port args => some (port, 0x48, args)
  | .transactionBegin _ => none
  | .sckEdge _ _ => none

/-- The bytes of a frame: code, argument length, arguments (R164). -/
def frameBytes (code : Byte) (args : List Byte) : List Byte := code :: BitVec.ofNat 8 args.length :: args

/-- The bits of a byte, the most significant first (R163). -/
def bitsOfByte (b : Byte) : List Bool :=
  [b.getLsbD 7, b.getLsbD 6, b.getLsbD 5, b.getLsbD 4, b.getLsbD 3, b.getLsbD 2, b.getLsbD 1, b.getLsbD 0]

/-- The bits of bytes, in the order they travel (R163). -/
def bitsOfBytes (bytes : List Byte) : List Bool := bytes.flatMap bitsOfByte

/-- The bits on SDI of the transaction that carries a request command with some fill bytes after its frame (R164). -/
def encodeFrame (i : Instr) (fill : Nat) : Option (Port × List Bool) :=
  (frameParts i).map fun x => (x.1, bitsOfBytes (frameBytes x.2.1 x.2.2 ++ List.replicate fill 0xFF))

end Sys2Proof
end

