-- ==== Sys2Proof/Config.lean ====
section
/-! DEFINITION. The values the spec leaves open. Each is an opaque constant without a body: nothing can be proved of
its value, so a claim about it holds for every value. -/

namespace Sys2Proof

/-- At which place of the queue a further event of the same tick is put: the spec lets events of one tick be taken in
either order (R10, R36, R44, R75, R96, R145, R154 and their like). Read at `State.freeIndex`. Log entry 4. -/
opaque Config.sameTickPlace : Nat → Nat

/-- Whether the restore completion event falls at this tick: R190 lets it fall at any tick from reset up to tick
1 500 000. Read at `State.freeIndex`. Log entry 5. -/
opaque Config.restoreEndsNow : Nat → Bool

/-- What a response field of so many bytes carries when the figure it reports does not fit in it: no rule says.
The first argument is the field's size in bytes, the second the figure. Log entry 14. -/
opaque Config.fieldOverflow : Nat → Nat → Nat

/-- What the kind byte (argument 0) and the originator byte (argument 1) of a never-used slot read in the summary of
READ_PROPOSAL: R148 states only the slot's id and state. Log entry 21. -/
opaque Config.unusedSlotByte : Nat → Byte

/-- What the last-spread field of a result reads when no repeatability test was made: R116 says that such a session has
no last spread, and no rule says what the field reads. Log entry 21. -/
opaque Config.absentSpread : Nat

end Sys2Proof
end

