-- ==== Sys2Proof/Machine/State.lean ====
section
/-! DEFINITION. The state of the CT-4 as plain data, every piece of it that the spec names, the outcomes a step may end
in beside a next state, and the state right after reset. INVENTORY.md lists each field with its rule. -/

namespace Sys2Proof.Machine

/-! ### One value per run and one per port -/

/-- One value for each of the four runs. -/
structure PerRun (α : Type) where
  run1 : α
  run2 : α
  run3 : α
  run4 : α
deriving DecidableEq, Repr

/-- The value of one run. -/
def PerRun.get {α : Type} (v : PerRun α) : Run → α
  | .run1 => v.run1
  | .run2 => v.run2
  | .run3 => v.run3
  | .run4 => v.run4

/-- The values with one run's replaced. -/
def PerRun.set {α : Type} (v : PerRun α) (r : Run) (x : α) : PerRun α :=
  match r with
  | .run1 => { v with run1 := x }
  | .run2 => { v with run2 := x }
  | .run3 => { v with run3 := x }
  | .run4 => { v with run4 := x }

/-- The value computed for each run. -/
def PerRun.ofFn {α : Type} (f : Run → α) : PerRun α := ⟨f .run1, f .run2, f .run3, f .run4⟩

/-- The same value for every run. -/
def PerRun.all {α : Type} (x : α) : PerRun α := ⟨x, x, x, x⟩

/-- One value for each of the three ports. -/
structure PerPort (α : Type) where
  opr : α
  wit : α
  sup : α
deriving DecidableEq, Repr

/-- The value of one port. -/
def PerPort.get {α : Type} (v : PerPort α) : Port → α
  | .opr => v.opr
  | .wit => v.wit
  | .sup => v.sup

/-- The values with one port's replaced. -/
def PerPort.set {α : Type} (v : PerPort α) (p : Port) (x : α) : PerPort α :=
  match p with
  | .opr => { v with opr := x }
  | .wit => { v with wit := x }
  | .sup => { v with sup := x }

/-- The value computed for each port. -/
def PerPort.ofFn {α : Type} (f : Port → α) : PerPort α := ⟨f .opr, f .wit, f .sup⟩

/-- The same value for every port. -/
def PerPort.all {α : Type} (x : α) : PerPort α := ⟨x, x, x⟩

/-! ### Meter pulse inputs (R5 to R24) -/

/-- A pair state: the accepted levels of lines A and B (R5). -/
structure Pair where
  a : Bool
  b : Bool
deriving DecidableEq, Repr

/-- The pair state 00. -/
def Pair.zero : Pair := ⟨false, false⟩

/-- Where the channel stands in the walk of its line pair (R5, R6). -/
inductive Tracking where
  /-- The pair is 00 and no cycle is open. -/
  | outside
  /-- The channel joined an excursion in mid-course and waits for 00 (R5). -/
  | waiting
  /-- A cycle is open: its stamp, the pair states visited, and whether a step was a double step (R6). -/
  | inCycle (stamp : Tick) (path : List Pair) (double : Bool)
deriving DecidableEq, Repr

/-- The value of the direction memory, and the direction a pulse is counted in (R7, R8). -/
inductive Direction where
  | forward | reverse
deriving DecidableEq, Repr

/-- The six classes of R7. -/
inductive CycleClass where
  | forwardGood | reverseGood | bMissing | aMissing | coincident | incomplete
deriving DecidableEq, Repr

/-- Counts of reverse pulses and of the four error classes (R9). -/
structure FaultCounts where
  reverse    : Nat
  aMissing   : Nat
  bMissing   : Nat
  coincident : Nat
  dither     : Nat
deriving DecidableEq, Repr

/-- No fault counted. -/
def FaultCounts.zero : FaultCounts := ⟨0, 0, 0, 0, 0⟩

/-- The six counts of a window (R9, R15): N and the reverse and error counts. -/
structure WindowCounts where
  pulses : Nat
  faults : FaultCounts
deriving DecidableEq, Repr

/-- An empty window. -/
def WindowCounts.zero : WindowCounts := ⟨0, .zero⟩

/-- The run states of R17. -/
inductive RunState where
  | offline | standby | flowing
deriving DecidableEq, Repr

/-- The pulse front end of a run, with the run's window deadline (R2, R5 to R24). -/
structure Channel where
  deadline      : Tick
  pair          : Pair
  tracking      : Tracking
  direction     : Direction
  window        : WindowCounts
  carried       : WindowCounts
  held          : FaultCounts
  cumulative    : FaultCounts
  blockCycles   : Nat
  blockErrors   : Nat
  degraded      : Bool
  limit         : Nat
  history       : List Nat
  freq          : Nat
  overspeed     : Bool
  runState      : RunState
  cutoff        : Nat
  offlinePulses : Nat
  offlineSeen   : Bool
deriving DecidableEq, Repr

/-! ### Totalizer (R25 to R47) -/

/-- A figure in pulses, in indicated litres and in gross litres. -/
structure Triple where
  pulses    : Nat
  indicated : Nat
  gross     : Nat
deriving DecidableEq, Repr

/-- Three zeros. -/
def Triple.zero : Triple := ⟨0, 0, 0⟩

/-- The eight accumulators that a window's figures go into (R37, R40). -/
structure Accumulators where
  volume : Triple
  faults : FaultCounts
deriving DecidableEq, Repr

/-- Eight zeros. -/
def Accumulators.zero : Accumulators := ⟨.zero, .zero⟩

/-- The curve status of R26. -/
inductive CurveStatus where
  | noCurve | belowCurve | inRange | aboveCurve
deriving DecidableEq, Repr

/-- The totalizer's state for a run. -/
structure Totalizer where
  kx                 : Nat
  indicatedRemainder : Nat
  grossRemainder     : Nat
  total              : Triple
  rollover           : Triple
  unbatched          : Accumulators
  unbatchedSaturated : Bool
  curveStatus        : CurveStatus
  lastMf             : Option Nat
  curveChanged       : Bool
deriving DecidableEq, Repr

/-- A point of a meter factor curve (R48). -/
structure CurvePoint where
  freq : Nat
  mf   : Nat
deriving DecidableEq, Repr

/-! ### Batches (R60 to R83) -/

/-- The modes of R60. -/
inductive Mode where
  | single | chain | repeating
deriving DecidableEq, Repr

/-- A plan (R60). Bit i of the run set is run i + 1. -/
structure Plan where
  parcel      : Nat
  grade       : Nat
  target      : Nat
  preTarget   : Nat
  runSet      : BitVec 4
  mode        : Mode
  repeatCount : Nat
deriving DecidableEq, Repr

/-- A run's accumulators in the open batch (R37 to R39, R66). -/
structure BatchAccumulators where
  main         : Accumulators
  outsideCurve : Nat
  mfChanges    : Nat
deriving DecidableEq, Repr

/-- A run's batch accumulators at an opening. -/
def BatchAccumulators.zero : BatchAccumulators := ⟨.zero, 0, 0⟩

/-- A run's preceding unbatched litres (R69). -/
structure Preceding where
  indicated : Nat
  gross     : Nat
deriving DecidableEq, Repr

/-- The flags of the open batch (R66). -/
structure BatchFlags where
  saturated        : Bool
  powerInterrupted : Bool
  kChanged         : Bool
  provedDuring     : Bool
  preTargetReached : Bool
deriving DecidableEq, Repr

/-- The open batch (R66). -/
structure OpenBatch where
  plan              : Plan
  repeatIndex       : Nat
  repeatsRemaining  : Nat
  openTime          : Seconds
  openTimeValid     : Bool
  opening           : PerRun Triple
  changeCountAtOpen : Nat
  preceding         : PerRun Preceding
  acc               : PerRun BatchAccumulators
  flags             : BatchFlags
  runningGross      : Nat
deriving DecidableEq, Repr

/-! ### Batch records and history (R84 to R99) -/

/-- The two causes of a close (R76). -/
inductive CloseCause where
  | target | requested
deriving DecidableEq, Repr

/-- The sampler's grab counts of the open batch (R149). -/
structure GrabCounts where
  due       : Nat
  issued    : Nat
  hold      : Nat
  full      : Nat
  overflow  : Nat
  carriedIn : Nat
deriving DecidableEq, Repr

/-- The counts with no batch open (R149), and at an opening but for the carried-in count (R158). -/
def GrabCounts.zero : GrabCounts := ⟨0, 0, 0, 0, 0, 0⟩

/-- A run's part of a record (R77, R86). -/
structure RunPart where
  volume       : Triple
  outsideCurve : Nat
  preceding    : Preceding
  faults       : FaultCounts
  mfChanges    : Nat
  weightedMf   : Nat
  opening      : Triple
  closing      : Triple
deriving DecidableEq, Repr

/-- A closed-batch record (R76, R77, R86). -/
structure BatchRecord where
  seq           : Nat
  parcel        : Nat
  grade         : Nat
  mode          : Mode
  repeatIndex   : Nat
  cause         : CloseCause
  flags         : BatchFlags
  timeValid     : Bool
  runSet        : BitVec 4
  openTime      : Seconds
  closeTime     : Seconds
  target        : Nat
  overshoot     : Nat
  changesOpen   : Nat
  changesClose  : Nat
  grabs         : GrabCounts
  pendingGrabs  : Nat
  fill          : Nat
  runs          : PerRun RunPart
deriving DecidableEq, Repr

/-- The retention state of a record in the ring (R85). -/
inductive RetentionState where
  | pending | retained | notRetained
deriving DecidableEq, Repr

/-- A record in the ring with its retention state (R85). -/
structure RingEntry where
  record    : BatchRecord
  retention : RetentionState
deriving DecidableEq, Repr

/-- The history ring, oldest record first, with each port's cursor and lost count (R84, R87). -/
structure History where
  ring    : List RingEntry
  cursors : PerPort Nat
  lost    : PerPort Nat
deriving DecidableEq, Repr

/-! ### Proving (R100 to R128) -/

/-- The session states of R100. -/
inductive SessionState where
  | idle | waitDet1 | inPass | waitStop | resultPass | resultFail | resultAborted
deriving DecidableEq, Repr

/-- The abort reasons, `none` for a session not aborted (R119 to R122, R167). -/
inductive AbortReason where
  | none | requested | runStopped | paramChanged | noDetector
deriving DecidableEq, Repr

/-- The validity of a pass record (R112, R128). -/
inductive Validity where
  | valid | integrity | reverse | shortPass | timeout | detectorSequence | tooFewPulses | mfOutOfBounds | aborted
deriving DecidableEq, Repr

/-- A pass record (R115); `ni` is the interpolated pulse count times 10 000. -/
structure PassRecord where
  index    : Nat
  validity : Validity
  tD1      : Tick
  t1       : Nat
  t2       : Nat
  nm       : Nat
  ni       : Nat
  mf       : Nat
  freq     : Nat
deriving DecidableEq, Repr

/-- The figures of the pass in progress (R106 to R109), 0 in any not yet reached (R127). -/
structure PassInProgress where
  tD1         : Tick
  startFound  : Bool
  tStart      : Tick
  nm          : Nat
  tD2         : Tick
  errorMark   : Bool
  reverseMark : Bool
deriving DecidableEq, Repr

/-- Cleared figures (R103, R106, R115). -/
def PassInProgress.clear : PassInProgress := ⟨0, false, 0, 0, 0, false, false⟩

/-- The posting status of a result (R125, R167). -/
inductive PostingStatus where
  | none | notPosted | posted | notAdmissible
deriving DecidableEq, Repr

/-- A run's last proving result (R124). -/
structure ProvingResult where
  endState       : SessionState
  reason         : AbortReason
  p              : Nat
  l              : Nat
  taken          : Nat
  lastSpread     : Option Nat
  mf             : Nat
  freq           : Nat
  posting        : PostingStatus
  proposalId     : Nat
  largeDeviation : Bool
  post           : Bool
  endUptime      : Seconds
deriving DecidableEq, Repr

/-- The proving session (R100); `run` is none until the first PROVE_START (it then reads 0). -/
structure Session where
  state       : SessionState
  run         : Option Run
  p           : Nat
  m           : Nat
  l           : Nat
  post        : Bool
  taken       : Nat
  passes      : List PassRecord
  outOfOrder  : Nat
  entryUptime : Seconds
  pass        : PassInProgress
  lastSpread  : Option Nat
deriving DecidableEq, Repr

/-- A detector line at the prover controller: its accepted level and its reference tick (R104). -/
structure DetectorInput where
  level     : Bool
  reference : Option Tick
deriving DecidableEq, Repr

/-- The prover controller. -/
structure Prover where
  session    : Session
  baseVolume : Nat
  results    : PerRun (Option ProvingResult)
  det1       : DetectorInput
  det2       : DetectorInput
deriving DecidableEq, Repr

/-! ### Concurrence of custody changes (R129 to R148) -/

/-- The five kinds of custody change, with their arguments (R129). -/
inductive Change where
  | kFactor (run : Run) (kx : Nat)
  | mfPoint (run : Run) (freq mf : Nat)
  | mfPointDelete (run : Run) (freq : Nat)
  | proverVolume (baseVolume : Nat)
  | samplerSetup (interval size capacity : Nat)
deriving DecidableEq, Repr

/-- The originators of R130. -/
inductive Originator where
  | opr | wit | sup | prover
deriving DecidableEq, Repr

/-- The verdicts of R130. -/
inductive Verdict where
  | none | concur | reject
deriving DecidableEq, Repr

/-- The failure reasons of R130. -/
inductive FailureReason where
  | curveFull | noPoint
deriving DecidableEq, Repr

/-- The states of a proposal, each with the field that R130 gives it alone. -/
inductive ProposalState where
  | opened
  | applied (changeNumber : Nat)
  | failed (reason : FailureReason)
  | rejected
  | expired
  | withdrawn
  | superseded (byId : Nat)
deriving DecidableEq, Repr

/-- A proposal record (R130); `ended` is 0 while the proposal is open (R148). -/
structure Proposal where
  id             : Nat
  change         : Change
  originator     : Originator
  created        : Seconds
  oprVerdict     : Verdict
  witVerdict     : Verdict
  largeDeviation : Bool
  state          : ProposalState
  ended          : Seconds
deriving DecidableEq, Repr

/-- Change control: the six slots (none: never used), the id counter and the custody change count (R131, R132, R147). -/
structure ChangeControl where
  slots       : List (Option Proposal)
  nextId      : Nat
  changeCount : Nat
deriving DecidableEq, Repr

/-! ### Sample pacing (R149 to R161) -/

/-- The custody setup of the sampler: G, S and C (R149). -/
structure SamplerSetup where
  interval : Nat
  size     : Nat
  capacity : Nat
deriving DecidableEq, Repr

/-- Whether a pending grab fell due in the open batch or in one since closed (R149). -/
inductive GrabMark where
  | own | carried
deriving DecidableEq, Repr

/-- The output state with the tick at which the pulse or gap ends (R149). -/
inductive GrabOutput where
  | idle
  | pulse (endsAt : Tick)
  | gap (endsAt : Tick)
deriving DecidableEq, Repr

/-- The sampler. `grabLine` is the GRAB pin: none while it is not driven (R160). -/
structure Sampler where
  setup        : Option SamplerSetup
  volume       : Nat
  pendingGrabs : List GrabMark
  output       : GrabOutput
  activeLow    : Bool
  width        : Nat
  hold         : Bool
  fill         : Nat
  full         : Bool
  counts       : GrabCounts
  rcvhi        : Bool
  grabLine     : Option Bool
deriving DecidableEq, Repr

/-! ### Event flags (R177 to R183) and ports (R162 to R176) -/

/-- The fourteen event classes, in the order of their numbers (the table before R177). -/
inductive EventClass where
  | restarted | retention | batchOpened | batchClosed | preTarget | recordLost | runState | integrity | reverse
  | curveRange | offlinePulses | proving | proposal | sampler
deriving DecidableEq, Repr

/-- One value for each event class. -/
structure ClassMap (α : Type) where
  restarted     : α
  retention     : α
  batchOpened   : α
  batchClosed   : α
  preTarget     : α
  recordLost    : α
  runState      : α
  integrity     : α
  reverse       : α
  curveRange    : α
  offlinePulses : α
  proving       : α
  proposal      : α
  sampler       : α
deriving DecidableEq, Repr

/-- A class's flag, occurrence count (0 to 255) and level (0 to 7) in one port (R177). -/
structure EventEntry where
  flag  : Bool
  count : Nat
  level : Nat
deriving DecidableEq, Repr

/-- The retention causes (R177). -/
inductive RetentionCause where
  | powerWarning | parametersLost | totalsFromRecord | totalsLost | recordNotRetained
deriving DecidableEq, Repr

/-- A port's retention cause set (R177). -/
structure RetentionCauses where
  powerWarning      : Bool
  parametersLost    : Bool
  totalsFromRecord  : Bool
  totalsLost        : Bool
  recordNotRetained : Bool
deriving DecidableEq, Repr

/-- The status codes of R170. -/
inductive Status where
  | ok | none | starting | frameError | unknownRequest | notPermitted | badArgument | wrongState | busy | full
  | notFound | duplicate | decided
deriving DecidableEq, Repr

/-- A response: status, echo code and data (R162). -/
structure Response where
  status : Status
  echo   : Byte
  data   : List Byte
deriving DecidableEq, Repr

/-- The transaction state of a port: while selected, the bits received, first bit first, and how many bits of the
response have been shifted out (R162). -/
inductive Transaction where
  | idle
  | selected (received : List Bool) (shifted : Nat)
deriving DecidableEq, Repr

/-- A port controller but for its history cursor and lost count. `sdo` is the SDO pin, none while released (R163);
`alertLow` says that the ALERT pin is driven low (R178). -/
structure PortState where
  transaction    : Transaction
  selectSeenHigh : Bool
  sdo            : Option Bool
  response       : Response
  events         : ClassMap EventEntry
  threshold      : Nat
  causes         : RetentionCauses
  alertLow       : Bool
deriving DecidableEq, Repr

/-! ### Retention store (R184 to R191) -/

/-- The contents of the parameter area (R184). -/
structure ParameterArea where
  kx          : PerRun Nat
  curves      : PerRun (List CurvePoint)
  baseVolume  : Nat
  setup       : Option SamplerSetup
  changeCount : Nat
deriving DecidableEq, Repr

/-- A run's part of the checkpoint area; `kx` is the Kx its remainders were computed under (R34, R184). -/
structure RunCheckpoint where
  total              : Triple
  rollover           : Triple
  indicatedRemainder : Nat
  grossRemainder     : Nat
  kx                 : Nat
  cumulative         : FaultCounts
  offlinePulses      : Nat
  enabled            : Bool
  cutoff             : Nat
  limit              : Nat
  unbatched          : Accumulators
  unbatchedSaturated : Bool
deriving DecidableEq, Repr

/-- The contents of the checkpoint area (R184). -/
structure CheckpointArea where
  runs       : PerRun RunCheckpoint
  batch      : Option OpenBatch
  grabs      : GrabCounts
  ownPending : Nat
  queue      : List Plan
  batchSeq   : Nat
  nextId     : Nat
  volume     : Nat
  fill       : Nat
  activeLow  : Bool
  width      : Nat
  setupSet   : Bool
deriving DecidableEq, Repr

/-- The contents of a copy that carries its completion marker, with its write count (R184). -/
structure Marked (α : Type) where
  count    : Nat
  contents : α
deriving DecidableEq, Repr

/-- The two copies of an area; none for a copy without a marker (R184). -/
structure Copies (α : Type) where
  first  : Option (Marked α)
  second : Option (Marked α)
deriving DecidableEq, Repr

/-- A job of the write queue (R186). -/
inductive Job where
  | parameters
  | checkpoint
  | record (r : BatchRecord)
deriving DecidableEq, Repr

/-- What the job in progress writes, taken at the event at which its write began (R186); for an area, with the write
count and whether the second copy is the one being written (R184). -/
inductive Payload where
  | parameters (contents : Marked ParameterArea) (second : Bool)
  | checkpoint (contents : Marked CheckpointArea) (second : Bool)
  | record (r : BatchRecord)
deriving DecidableEq, Repr

/-- The job in progress: what it writes and its completion tick (R186). -/
structure Writing where
  payload : Payload
  endsAt  : Tick
deriving DecidableEq, Repr

/-- The states of the store (R186). -/
inductive StoreStatus where
  | restoring | ready | writing | halted
deriving DecidableEq, Repr

/-- The retention store. The first job of `queue` is the one being written while the store is WRITING. -/
structure Store where
  status         : StoreStatus
  queue          : List Job
  writing        : Option Writing
  owedParameters : Bool
  owedCheckpoint : Bool
  powerFail      : Bool
  pfailActive    : Bool
  periodicRef    : Seconds
  parameters     : Copies ParameterArea
  checkpoints    : Copies CheckpointArea
  slots          : List (Option BatchRecord)
deriving DecidableEq, Repr

/-! ### Input pins -/

/-- An input pin that is observed once per tick: its level, the level last observed since reset, and whether a first
level has been accepted since reset (R5, R104, R152). -/
structure Line where
  level   : Bool
  seen    : Option Bool
  settled : Bool
deriving DecidableEq, Repr

/-- A line at a level, not observed since reset. -/
def Line.unseen (level : Bool) : Line := ⟨level, none, false⟩

/-- The input pins (00_scope.md, Pinning). SCK and SDI are carried by the SCK_EDGE command. -/
structure Lines where
  plsA   : PerRun Line
  plsB   : PerRun Line
  det1   : Line
  det2   : Line
  rcvhi  : Line
  pfail  : Line
  select : PerPort Line
  resetN : Bool
deriving DecidableEq, Repr

/-! ### The whole part -/

/-- The state of the CT-4, with the queue of commands that wait, first in first out. `freeIndex` is the model's own
counter at which the free values of `Config` are read. -/
structure State where
  tick        : Tick
  nextSecond  : Tick
  uptime      : Seconds
  stationTime : Seconds
  stationSet  : Bool
  lines       : Lines
  channels    : PerRun Channel
  totalizers  : PerRun Totalizer
  curves      : PerRun (List CurvePoint)
  queue       : List Plan
  batch       : Option OpenBatch
  batchSeq    : Nat
  history     : History
  prover      : Prover
  control     : ChangeControl
  sampler     : Sampler
  ports       : PerPort PortState
  store       : Store
  freeIndex   : Nat
  pending     : List Instr
deriving DecidableEq, Repr

/-- Faults of the model. There is none: no rule of the spec stops the part. -/
inductive Fault where
deriving DecidableEq, Repr

/-- Refusals of the model. -/
inductive Refusal where
  /-- Raised only by an arm of `exec` whose command has no meaning yet; safe (the model stops). No arm is such. -/
  | notModelled (mnemonic : String)
deriving DecidableEq, Repr

/-! ### Reset values -/

/-- A channel right after reset, with its run's first deadline (R2, R23, the table of R24; log entries 7 and 16). -/
def Channel.reset (deadline : Tick) : Channel where
  deadline := deadline
  pair := .zero
  tracking := .outside
  direction := .forward
  window := .zero
  carried := .zero
  held := .zero
  cumulative := .zero
  blockCycles := 0
  blockErrors := 0
  degraded := false
  limit := 10
  history := []
  freq := 0
  overspeed := false
  runState := .offline
  cutoff := 20
  offlinePulses := 0
  offlineSeen := false

/-- A run's totalizer right after reset (R34, R35; log entry 16). -/
def Totalizer.reset : Totalizer where
  kx := 0
  indicatedRemainder := 0
  grossRemainder := 0
  total := .zero
  rollover := .zero
  unbatched := .zero
  unbatchedSaturated := false
  curveStatus := .noCurve
  lastMf := none
  curveChanged := false

/-- The session after start-up (R100). -/
def Session.reset : Session where
  state := .idle
  run := none
  p := 0
  m := 0
  l := 0
  post := false
  taken := 0
  passes := []
  outOfOrder := 0
  entryUptime := 0
  pass := .clear
  lastSpread := none

/-- The prover controller right after reset (R100, R101, R104, R124). -/
def Prover.reset : Prover where
  session := .reset
  baseVolume := 0
  results := .all none
  det1 := ⟨false, none⟩
  det2 := ⟨false, none⟩

/-- Change control right after reset (R131, R132, R147). -/
def ChangeControl.reset : ChangeControl where
  slots := [none, none, none, none, none, none]
  nextId := 1
  changeCount := 0

/-- The sampler right after reset (R160; log entry 16). -/
def Sampler.reset : Sampler where
  setup := none
  volume := 0
  pendingGrabs := []
  output := .idle
  activeLow := false
  width := 100
  hold := false
  fill := 0
  full := false
  counts := .zero
  rcvhi := false
  grabLine := none

/-- A port's event entries right after reset: default levels, and RESTARTED raised (R183). -/
def ClassMap.reset : ClassMap EventEntry :=
  let quiet : EventEntry := ⟨false, 0, 4⟩
  { restarted := ⟨true, 1, 7⟩, retention := quiet, batchOpened := quiet, batchClosed := quiet, preTarget := quiet,
    recordLost := quiet, runState := quiet, integrity := quiet, reverse := quiet, curveRange := quiet,
    offlinePulses := quiet, proving := quiet, proposal := quiet, sampler := quiet }

/-- The empty cause set (R183). -/
def RetentionCauses.none : RetentionCauses := ⟨false, false, false, false, false⟩

/-- A port right after reset (R162, R163, R183). -/
def PortState.reset : PortState where
  transaction := .idle
  selectSeenHigh := false
  sdo := none
  response := ⟨.none, 0, []⟩
  events := .reset
  threshold := 1
  causes := .none
  alertLow := true

/-- The store of a factory-new part right after reset (R184, R190, R191; log entry 1). -/
def Store.reset : Store where
  status := .restoring
  queue := []
  writing := none
  owedParameters := false
  owedCheckpoint := false
  powerFail := false
  pfailActive := false
  periodicRef := 0
  parameters := ⟨none, none⟩
  checkpoints := ⟨none, none⟩
  slots := List.replicate 28 none

/-- The input pins at their idle levels, not observed yet (log entry 6): pulse and detector lines and RCVHI low,
PFAIL and RESETn high, the select lines high. -/
def Lines.reset : Lines where
  plsA := .all (.unseen false)
  plsB := .all (.unseen false)
  det1 := .unseen false
  det2 := .unseen false
  rcvhi := .unseen false
  pfail := .unseen true
  select := .all (.unseen true)
  resetN := true

/-- The machine right after reset, a factory-new part with its pins idle (R190, log entries 1, 6, 7 and 16). -/
def State.reset : State where
  tick := 0
  nextSecond := 10000000
  uptime := 0
  stationTime := 0
  stationSet := false
  lines := .reset
  channels := ⟨.reset 1000000, .reset 1250000, .reset 1500000, .reset 1750000⟩
  totalizers := .all .reset
  curves := .all []
  queue := []
  batch := none
  batchSeq := 1
  history := ⟨[], .all 1, .all 0⟩
  prover := .reset
  control := .reset
  sampler := .reset
  ports := .all .reset
  store := .reset
  freeIndex := 0
  pending := []

end Sys2Proof.Machine
end

