-- ==== Sys2Proof/Machine/Ops.lean ====
section
/-! DEFINITION. The named operations that every family shares: the arithmetic of the conventions (00_scope.md),
differences of stamps (R1) and of uptimes (R3), and the updates of one part of the state. -/

namespace Sys2Proof.Machine

/-! ### Arithmetic -/

/-- The largest value of a 32-bit counter or accumulator (R9, R41). -/
def max32 : Nat := 4294967295

/-- The largest value of an 8-bit counter (R33, R39, R87, R177). -/
def max8 : Nat := 255

/-- The modulus of the cumulative totals, 10^12 (R33). -/
def totalModulus : Nat := 1000000000000

/-- A saturating addition at a largest value (00_scope.md, Conventions; R41). -/
def satAdd (largest a b : Nat) : Nat := min (a + b) largest

/-- An argument clamped into a range (00_scope.md, Conventions; R172). -/
def clamp (low high x : Nat) : Nat := if x < low then low else if high < x then high else x

/-- A quotient of naturals rounded to the nearest integer, halves up (00_scope.md, Conventions). -/
def roundDiv (num den : Nat) : Nat := (2 * num + den) / (2 * den)

/-- A quotient rounded to the nearest integer, halves away from zero (00_scope.md, Conventions; R27). -/
def roundHalfAway (num : Int) (den : Nat) : Int :=
  if 0 ≤ num then (roundDiv num.natAbs den : Nat) else -((roundDiv num.natAbs den : Nat) : Int)

/-! ### Time -/

/-- The duration from an earlier to a later stamp, modulo 2^48 (R1). -/
def ticksBetween (earlier later : Tick) : Nat := (later - earlier).toNat

/-- Whether a stamp is at or after a tick (the test before R107). -/
def atOrAfter (s t : Tick) : Bool := (s - t).toNat < 2 ^ 47

/-- The seconds from an earlier to a later uptime, modulo 2^32 (R3). -/
def secondsBetween (earlier later : Seconds) : Nat := (later - earlier).toNat

/-! ### Runs and run sets -/

/-- The four runs in order. -/
def allRuns : List Run := [.run1, .run2, .run3, .run4]

/-- The three ports in the order of their identities (R174). -/
def allPorts : List Port := [.opr, .wit, .sup]

/-- The bit of a run in a run set: bit 0 for run 1 (R60). -/
def runBit : Run → Nat
  | .run1 => 0
  | .run2 => 1
  | .run3 => 2
  | .run4 => 3

/-- Whether a run belongs to a run set (R60). -/
def inRunSet (set : BitVec 4) (r : Run) : Bool := set.getLsbD (runBit r)

/-- The run that a request's run byte names, if it is 1 to 4 (00_scope.md, Conventions). -/
def runOfNumber : Nat → Option Run
  | 1 => some .run1
  | 2 => some .run2
  | 3 => some .run3
  | 4 => some .run4
  | _ => none

/-! ### Updates of one part of the state -/

/-- One run's channel replaced. -/
def State.setChannel (s : State) (r : Run) (c : Channel) : State := { s with channels := s.channels.set r c }

/-- One run's totalizer replaced. -/
def State.setTotalizer (s : State) (r : Run) (t : Totalizer) : State := { s with totalizers := s.totalizers.set r t }

/-- One run's curve replaced. -/
def State.setCurve (s : State) (r : Run) (c : List CurvePoint) : State := { s with curves := s.curves.set r c }

/-- One port replaced. -/
def State.setPort (s : State) (p : Port) (x : PortState) : State := { s with ports := s.ports.set p x }

/-- The batch queue replaced. -/
def State.setQueue (s : State) (q : List Plan) : State := { s with queue := q }

/-- The open batch replaced. -/
def State.setBatch (s : State) (b : Option OpenBatch) : State := { s with batch := b }

/-- The history replaced. -/
def State.setHistory (s : State) (h : History) : State := { s with history := h }

/-- The prover controller replaced. -/
def State.setProver (s : State) (p : Prover) : State := { s with prover := p }

/-- The proving session replaced. -/
def State.setSession (s : State) (x : Session) : State := { s with prover := { s.prover with session := x } }

/-- Change control replaced. -/
def State.setControl (s : State) (c : ChangeControl) : State := { s with control := c }

/-- The sampler replaced. -/
def State.setSampler (s : State) (x : Sampler) : State := { s with sampler := x }

/-- The retention store replaced. -/
def State.setStore (s : State) (x : Store) : State := { s with store := x }

/-- The input pins replaced. -/
def State.setLines (s : State) (x : Lines) : State := { s with lines := x }

/-- A line known to carry a level that has been accepted: the pin, and what was last observed on it (log entry 6). -/
def Line.accepted (level : Bool) : Line := ⟨level, some level, true⟩

/-- A line after a report that its accepted level went from one level to another. A line that was last observed at the new
level, or whose accepted level did not change, is left as it is: no observation of it is lost (R5; log entry 6). -/
def Line.report (l : Line) (was now : Bool) : Line :=
  if l.settled ∧ (now = was ∨ l.seen = some now) then l else .accepted now

/-- Whether the store is RESTORING (R186, R190). -/
def State.isRestoring (s : State) : Bool := s.store.status == .restoring

/-- Whether a run is FLOWING (R17). -/
def State.isFlowing (s : State) (r : Run) : Bool := (s.channels.get r).runState == .flowing

/-! ### Fault counts and accumulators -/

/-- Counts added field by field, each stopping at a largest value (R9, R24, R41). -/
def FaultCounts.satAdd (largest : Nat) (x y : FaultCounts) : FaultCounts where
  reverse := Machine.satAdd largest x.reverse y.reverse
  aMissing := Machine.satAdd largest x.aMissing y.aMissing
  bMissing := Machine.satAdd largest x.bMissing y.bMissing
  coincident := Machine.satAdd largest x.coincident y.coincident
  dither := Machine.satAdd largest x.dither y.dither

/-- Counts added field by field. -/
def FaultCounts.add (x y : FaultCounts) : FaultCounts where
  reverse := x.reverse + y.reverse
  aMissing := x.aMissing + y.aMissing
  bMissing := x.bMissing + y.bMissing
  coincident := x.coincident + y.coincident
  dither := x.dither + y.dither

/-- Windows added field by field (R23, R24). -/
def WindowCounts.add (x y : WindowCounts) : WindowCounts := ⟨x.pulses + y.pulses, x.faults.add y.faults⟩

/-- Whether some count of a sum passes a largest value (R41). -/
def FaultCounts.passes (largest : Nat) (x y : FaultCounts) : Bool :=
  largest < x.reverse + y.reverse || largest < x.aMissing + y.aMissing || largest < x.bMissing + y.bMissing ||
    largest < x.coincident + y.coincident || largest < x.dither + y.dither

/-- Volumes added field by field, each stopping at 4 294 967 295 (R41). -/
def Triple.satAdd (x y : Triple) : Triple where
  pulses := Machine.satAdd max32 x.pulses y.pulses
  indicated := Machine.satAdd max32 x.indicated y.indicated
  gross := Machine.satAdd max32 x.gross y.gross

/-- Whether some volume of a sum passes 4 294 967 295 (R41). -/
def Triple.passes (x y : Triple) : Bool :=
  max32 < x.pulses + y.pulses || max32 < x.indicated + y.indicated || max32 < x.gross + y.gross

/-- The eight accumulators with a window added (R37, R40, R41). -/
def Accumulators.add (x y : Accumulators) : Accumulators := ⟨x.volume.satAdd y.volume, x.faults.satAdd max32 y.faults⟩

/-- Whether the addition of a window saturates some of the eight (R41). -/
def Accumulators.passes (x y : Accumulators) : Bool := x.volume.passes y.volume || x.faults.passes max32 y.faults

end Sys2Proof.Machine
end

