-- ==== Sys2Proof/Machine/Flags.lean ====
section
/-! DEFINITION. Event flags and ALERT lines (R177, R178): the one operation by which a block raises a class, and the
evaluation of a port's ALERT line. -/

namespace Sys2Proof.Machine

/-- The value of one class. -/
def ClassMap.get {α : Type} (m : ClassMap α) : EventClass → α
  | .restarted => m.restarted
  | .retention => m.retention
  | .batchOpened => m.batchOpened
  | .batchClosed => m.batchClosed
  | .preTarget => m.preTarget
  | .recordLost => m.recordLost
  | .runState => m.runState
  | .integrity => m.integrity
  | .reverse => m.reverse
  | .curveRange => m.curveRange
  | .offlinePulses => m.offlinePulses
  | .proving => m.proving
  | .proposal => m.proposal
  | .sampler => m.sampler

/-- The values with one class's replaced. -/
def ClassMap.set {α : Type} (m : ClassMap α) (c : EventClass) (x : α) : ClassMap α :=
  match c with
  | .restarted => { m with restarted := x }
  | .retention => { m with retention := x }
  | .batchOpened => { m with batchOpened := x }
  | .batchClosed => { m with batchClosed := x }
  | .preTarget => { m with preTarget := x }
  | .recordLost => { m with recordLost := x }
  | .runState => { m with runState := x }
  | .integrity => { m with integrity := x }
  | .reverse => { m with reverse := x }
  | .curveRange => { m with curveRange := x }
  | .offlinePulses => { m with offlinePulses := x }
  | .proving => { m with proving := x }
  | .proposal => { m with proposal := x }
  | .sampler => { m with sampler := x }

/-- The classes in the order of their numbers. -/
def allClasses : List EventClass :=
  [.restarted, .retention, .batchOpened, .batchClosed, .preTarget, .recordLost, .runState, .integrity, .reverse,
   .curveRange, .offlinePulses, .proving, .proposal, .sampler]

/-- The number of a class (the table before R177). -/
def classNumber : EventClass → Nat
  | .restarted => 0
  | .retention => 1
  | .batchOpened => 2
  | .batchClosed => 3
  | .preTarget => 4
  | .recordLost => 5
  | .runState => 6
  | .integrity => 7
  | .reverse => 8
  | .curveRange => 9
  | .offlinePulses => 10
  | .proving => 11
  | .proposal => 12
  | .sampler => 13

/-- The class of a number, if it is 0 to 13 (R182). -/
def classOfNumber (n : Nat) : Option EventClass := allClasses[n]?

/-- The value computed for each class. -/
def ClassMap.ofFn {α : Type} (f : EventClass → α) : ClassMap α where
  restarted := f .restarted
  retention := f .retention
  batchOpened := f .batchOpened
  batchClosed := f .batchClosed
  preTarget := f .preTarget
  recordLost := f .recordLost
  runState := f .runState
  integrity := f .integrity
  reverse := f .reverse
  curveRange := f .curveRange
  offlinePulses := f .offlinePulses
  proving := f .proving
  proposal := f .proposal
  sampler := f .sampler

/-- Whether a port's ALERT line is to be driven low: some set flag has a level at or above the threshold (R178). -/
def alertCondition (events : ClassMap EventEntry) (threshold : Nat) : Bool :=
  allClasses.any fun c => (events.get c).flag && decide (threshold ≤ (events.get c).level)

/-- The port with its ALERT line evaluated afresh (R178). -/
def PortState.evaluateAlert (x : PortState) : PortState :=
  { x with alertLow := alertCondition x.events x.threshold }

/-- An occurrence of a class taken by one port: the flag is set, the count rises by one and stops at 255 (R177), and
the ALERT line follows (R178). -/
def PortState.occur (c : EventClass) (x : PortState) : PortState :=
  let e := x.events.get c
  PortState.evaluateAlert { x with events := x.events.set c { e with flag := true, count := satAdd max8 e.count 1 } }

/-- A cause added to a port's retention cause set (R177). -/
def RetentionCauses.insert (x : RetentionCauses) : RetentionCause → RetentionCauses
  | .powerWarning => { x with powerWarning := true }
  | .parametersLost => { x with parametersLost := true }
  | .totalsFromRecord => { x with totalsFromRecord := true }
  | .totalsLost => { x with totalsLost := true }
  | .recordNotRetained => { x with recordNotRetained := true }

/-- A RETENTION occurrence with its cause taken by one port (R177). -/
def PortState.occurRetention (cause : RetentionCause) (x : PortState) : PortState :=
  PortState.occur .retention { x with causes := x.causes.insert cause }

/-- A change made in every port. -/
def State.mapPorts (f : PortState → PortState) (s : State) : State :=
  { s with ports := ⟨f s.ports.opr, f s.ports.wit, f s.ports.sup⟩ }

/-- A class raised: the occurrence is taken by the flag set of every port (R177). -/
def State.raise (c : EventClass) (s : State) : State := s.mapPorts (PortState.occur c)

/-- A class raised for one port alone, as RECORD_LOST is (R88, R177). -/
def State.raiseFor (p : Port) (c : EventClass) (s : State) : State := s.setPort p ((s.ports.get p).occur c)

/-- RETENTION raised with its cause (R177). -/
def State.raiseRetention (cause : RetentionCause) (s : State) : State := s.mapPorts (PortState.occurRetention cause)

/-- A class raised several times at one event: one occurrence per raising (R177). -/
def State.raiseTimes (c : EventClass) : Nat → State → State
  | 0, s => s
  | n + 1, s => State.raiseTimes c n (s.raise c)

/-- RETENTION raised several times at one event with one cause (R177, R185, R188). -/
def State.raiseRetentionTimes (cause : RetentionCause) : Nat → State → State
  | 0, s => s
  | n + 1, s => State.raiseRetentionTimes cause n (s.raiseRetention cause)

/-- A class raised if a condition holds. -/
def State.raiseIf (b : Bool) (c : EventClass) (s : State) : State := if b then s.raise c else s

end Sys2Proof.Machine
end

