-- ==== Sys2Proof/Machine/Operands.lean ====
section
/-! DEFINITION. The operand and response forms: multi-byte fields, most significant byte first (R166), the codes of
enumerated fields (R167 and the rules it names), flags bytes (R167), and the byte layout of a batch record (R86). -/

namespace Sys2Proof.Machine

/-! ### Multi-byte fields -/

/-- The number that bytes spell, most significant first (R166). -/
def numberOf (bytes : List Byte) : Nat := bytes.foldl (fun n b => n * 256 + b.toNat) 0

/-- The argument of a size at an offset of the argument bytes (R164). -/
def argument (args : List Byte) (offset size : Nat) : Nat := numberOf ((args.drop offset).take size)

/-- The low bytes of a number, most significant first. -/
def bytesOf : Nat → Nat → List Byte
  | 0, _ => []
  | n + 1, v => bytesOf n (v / 256) ++ [BitVec.ofNat 8 v]

/-- A field of a response or a record, most significant byte first (R166). A figure too large for its field gives a
free value (log entry 14). -/
def field (size value : Nat) : List Byte :=
  bytesOf size (if value < 256 ^ size then value else Config.fieldOverflow size value)

/-- A flags byte: bit 0 upward in the order named, bits above them 0 (R167). -/
def flagsByte (flags : List Bool) : List Byte :=
  [BitVec.ofNat 8 (flags.foldr (fun b n => b.toNat + 2 * n) 0)]

/-- A single indication (R167). -/
def indication (b : Bool) : List Byte := [if b then 1 else 0]

/-! ### Codes -/

/-- The number of a run (00_scope.md, Conventions). -/
def runNumber : Run → Nat
  | .run1 => 1
  | .run2 => 2
  | .run3 => 3
  | .run4 => 4

/-- The port identity (R174). -/
def portNumber : Port → Nat
  | .opr => 0
  | .wit => 1
  | .sup => 2

/-- The status code (R170). -/
def statusCode : Status → Byte
  | .ok => 0x00
  | .none => 0x01
  | .starting => 0x02
  | .frameError => 0x03
  | .unknownRequest => 0x04
  | .notPermitted => 0x05
  | .badArgument => 0x06
  | .wrongState => 0x07
  | .busy => 0x08
  | .full => 0x09
  | .notFound => 0x0A
  | .duplicate => 0x0B
  | .decided => 0x0C

/-- The code of a run state (R167). -/
def runStateCode : RunState → Nat
  | .offline => 0
  | .standby => 1
  | .flowing => 2

/-- The code of a curve status (R167). -/
def curveStatusCode : CurveStatus → Nat
  | .noCurve => 0
  | .belowCurve => 1
  | .inRange => 2
  | .aboveCurve => 3

/-- The code of a session state or end state (R167). -/
def sessionStateCode : SessionState → Nat
  | .idle => 0
  | .waitDet1 => 1
  | .inPass => 2
  | .waitStop => 3
  | .resultPass => 4
  | .resultFail => 5
  | .resultAborted => 6

/-- The code of an abort reason (R167). -/
def abortReasonCode : AbortReason → Nat
  | .none => 0
  | .requested => 1
  | .runStopped => 2
  | .paramChanged => 3
  | .noDetector => 4

/-- The code of a posting status (R167). -/
def postingCode : PostingStatus → Nat
  | .none => 0
  | .notPosted => 1
  | .posted => 2
  | .notAdmissible => 3

/-- The code of a pass's validity (R128). -/
def validityCode : Validity → Nat
  | .valid => 0
  | .integrity => 1
  | .reverse => 2
  | .shortPass => 3
  | .timeout => 4
  | .detectorSequence => 5
  | .tooFewPulses => 6
  | .mfOutOfBounds => 7
  | .aborted => 8

/-- The code of a mode (R60). -/
def modeCode : Mode → Nat
  | .single => 0
  | .chain => 1
  | .repeating => 2

/-- The mode of a plan's mode byte (R60). -/
def modeOfCode : Nat → Option Mode
  | 0 => some .single
  | 1 => some .chain
  | 2 => some .repeating
  | _ => none

/-- The code of a close cause (the record layout before R86). -/
def causeCode : CloseCause → Nat
  | .target => 0
  | .requested => 1

/-- The code of a retention state (R86). -/
def retentionCode : RetentionState → Nat
  | .pending => 0
  | .retained => 1
  | .notRetained => 2

/-- The code of a proposal's state (R148). -/
def proposalStateCode : ProposalState → Nat
  | .opened => 0
  | .applied _ => 1
  | .failed _ => 2
  | .rejected => 3
  | .expired => 4
  | .withdrawn => 5
  | .superseded _ => 6

/-- The code of a proposal's failure reason, 0 where it has none (R148). -/
def failureCode : ProposalState → Nat
  | .failed .curveFull => 1
  | .failed .noPoint => 2
  | _ => 0

/-- The code of a verdict (R148). -/
def verdictCode : Verdict → Nat
  | .none => 0
  | .concur => 1
  | .reject => 2

/-- The code of an originator (R148). -/
def originatorCode : Originator → Nat
  | .opr => 0
  | .wit => 1
  | .sup => 2
  | .prover => 3

/-- The code of a proposal's kind (R129). -/
def kindCode : Change → Nat
  | .kFactor .. => 0
  | .mfPoint .. => 1
  | .mfPointDelete .. => 2
  | .proverVolume .. => 3
  | .samplerSetup .. => 4

/-- A proposal's arguments in the order and sizes of R129, followed by zeros to nine bytes (R148). -/
def changeArguments : Change → List Byte
  | .kFactor run kx => field 1 (runNumber run) ++ field 4 kx ++ field 4 0
  | .mfPoint run f m => field 1 (runNumber run) ++ field 2 f ++ field 4 m ++ field 2 0
  | .mfPointDelete run f => field 1 (runNumber run) ++ field 2 f ++ field 6 0
  | .proverVolume bv => field 4 bv ++ field 5 0
  | .samplerSetup g s c => field 4 g ++ field 1 s ++ field 4 c

/-! ### Fields several requests share -/

/-- A tick in six bytes (R45, R127, R128, R175). -/
def tickField (t : Tick) : List Byte := field 6 t.toNat

/-- A count of seconds in four bytes. -/
def secondsField (t : Seconds) : List Byte := field 4 t.toNat

/-- The reverse count and the four error counts, in the order every rule names them, each of a size. -/
def faultFields (size : Nat) (c : FaultCounts) : List Byte :=
  field size c.reverse ++ field size c.aMissing ++ field size c.bMissing ++ field size c.coincident ++ field size c.dither

/-- Pulses, indicated and gross, each of a size. -/
def tripleFields (size : Nat) (t : Triple) : List Byte :=
  field size t.pulses ++ field size t.indicated ++ field size t.gross

/-- A plan's seven fields in the order and sizes of R60. -/
def planFields (p : Plan) : List Byte :=
  field 4 p.parcel ++ field 1 p.grade ++ field 4 p.target ++ field 4 p.preTarget ++ field 1 p.runSet.toNat ++
    field 1 (modeCode p.mode) ++ field 1 p.repeatCount

/-! ### The record layout (R86) -/

/-- Part 0 of a record, with the retention state in bits 6 and 7 of its flags byte (R86). -/
def recordHeader (r : BatchRecord) (retention : RetentionState) : List Byte :=
  field 4 r.seq ++ field 4 r.parcel ++ field 1 r.grade ++ field 1 (modeCode r.mode) ++ field 1 r.repeatIndex ++
    field 1 (causeCode r.cause) ++
    flagsByte [r.flags.saturated, r.flags.powerInterrupted, r.flags.kChanged, r.flags.provedDuring,
      r.flags.preTargetReached, r.timeValid, retention == .retained, retention == .notRetained] ++
    field 1 r.runSet.toNat ++ secondsField r.openTime ++ secondsField r.closeTime ++ field 4 r.target ++
    field 4 r.overshoot ++ field 4 r.changesOpen ++ field 4 r.changesClose ++ field 4 r.grabs.due ++
    field 4 r.grabs.issued ++ field 4 r.grabs.hold ++ field 4 r.grabs.full ++ field 4 r.grabs.overflow ++
    field 1 r.pendingGrabs ++ field 1 r.grabs.carriedIn ++ field 4 r.fill

/-- A run's part of a record (R86). -/
def recordRunPart (run : Run) (p : RunPart) : List Byte :=
  field 1 (runNumber run) ++ tripleFields 4 p.volume ++ field 4 p.outsideCurve ++ field 4 p.preceding.indicated ++
    field 4 p.preceding.gross ++ faultFields 1 p.faults ++ field 1 p.mfChanges ++ field 3 p.weightedMf ++
    tripleFields 5 p.opening ++ tripleFields 5 p.closing

/-- The 64 bytes of a part, 0 to 4, of a record in the ring (R90). -/
def recordPart (e : RingEntry) (part : Nat) : List Byte :=
  match runOfNumber part with
  | none => recordHeader e.record e.retention
  | some run => recordRunPart run (e.record.runs.get run)

end Sys2Proof.Machine
end

