-- ==== Sys2Proof/Machine/Request.lean ====
section
/-! DEFINITION. Taking a request (R168, R169): the one operation by which every request command is decided, and the
one that puts a response into a port's buffer and ends its transaction (R163, R166). -/

namespace Sys2Proof.Machine

/-- The status and data a request is answered with (R166). -/
structure Answer where
  status : Status
  data   : List Byte
deriving DecidableEq, Repr

/-- The answer OK with data (R169). -/
def Answer.okWith (data : List Byte) : Answer := ⟨.ok, data⟩

/-- A refusal, which carries no data (R169). -/
def Answer.refuse (status : Status) : Answer := ⟨status, []⟩

/-- Whether the accepted level of a port's select line is high: it was accepted high, and no transaction is under way
(R163). -/
def PortState.selectHigh (x : PortState) : Bool := x.selectSeenHigh && x.transaction == .idle

/-- The end event of a transaction: the response replaces the one in the buffer (R166), the port is IDLE with no bits
received, SDO is released (R163), and the select line has been accepted high. -/
def State.respond (p : Port) (echo : Byte) (a : Answer) (s : State) : State :=
  { s with
    lines := { s.lines with
      select := s.lines.select.set p ((s.lines.select.get p).report (s.ports.get p).selectHigh true) }
    ports := s.ports.set p { s.ports.get p with
      transaction := .idle, sdo := none, selectSeenHigh := true, response := ⟨a.status, echo, a.data⟩ } }

/-- Steps 1, 3 and 4 of R169: the refusal that the store's state, the port or the argument length gives, if any.
(Step 2 is UNKNOWN_REQUEST, a command of its own.) -/
def refusalBefore (p : Port) (row : CatalogueRow) (args : List Byte) (s : State) : Option Status :=
  if s.isRestoring then some .starting
  else if !row.ports.has p then some .notPermitted
  else if row.length.any (· != args.length) then some .badArgument
  else none

/-- A well-formed request taken at its transaction's end event (R168, R169): refused by steps 1 to 4, or decided by its
own rule, `body`, which gives the state it leaves and its answer. -/
def takeRequest (p : Port) (row : CatalogueRow) (args : List Byte) (body : State → State × Answer) (s : State) :
    State :=
  match refusalBefore p row args s with
  | some status => s.respond p row.code (.refuse status)
  | none => (body s).1.respond p row.code (body s).2

/-- A request's own refusal: nothing changes but the response buffer (R169). -/
def refused (status : Status) (s : State) : State × Answer := (s, .refuse status)

/-- A request that only reads: the data at the request event (R168). -/
def reads (data : List Byte) (s : State) : State × Answer := (s, .okWith data)

end Sys2Proof.Machine
end

