-- ==== Sys2Proof/Machine/Proposals.lean ====
section
/-! DEFINITION. The proposal table (R129 to R136, R138, R142 to R146, R148): posting, ending, expiry, and the commands
PROPOSE, REJECT, WITHDRAW, READ_PROPOSAL and PROPOSAL_EXPIRY. CONCUR stands in Concur.lean with the application. -/

namespace Sys2Proof.Machine

/-! ### The table (R131, R134) -/

/-- Whether a proposal is OPEN (R130). -/
def Proposal.isOpen (p : Proposal) : Bool := p.state == .opened

/-- Whether a slot holds an OPEN proposal. -/
def slotOpen : Option Proposal → Bool
  | none => false
  | some p => p.isOpen

/-- The ids that the table holds (R132). -/
def ChangeControl.ids (c : ChangeControl) : List Nat := c.slots.filterMap fun x => x.map Proposal.id

/-- The slot and record of an id (R137). -/
def ChangeControl.find (c : ChangeControl) (id : Nat) : Option (Nat × Proposal) :=
  (c.slots.zipIdx.findSome? fun x => x.1.bind fun p => if p.id = id then some (x.2, p) else none)

/-- The lowest-numbered never-used slot (R134). -/
def ChangeControl.unusedSlot (c : ChangeControl) : Option Nat := c.slots.findIdx? Option.isNone

/-- Of two terminal slots, given with their ages, the one with the oldest end; the first of two equally old (R134). -/
def olderSlot (best : Option (Nat × Nat)) (slot age : Nat) : Option (Nat × Nat) :=
  match best with
  | none => some (slot, age)
  | some (i, a) => if a < age then some (slot, age) else some (i, a)

/-- The slot whose terminal proposal has the oldest end (R134). -/
def ChangeControl.oldestEnded (c : ChangeControl) (now : Seconds) : Option Nat :=
  (c.slots.zipIdx.foldl
    (fun best x =>
      match x.1 with
      | some p => if p.isOpen then best else olderSlot best x.2 (secondsBetween p.ended now)
      | none => best) none).map Prod.fst

/-- The slot a posting takes; none when all hold OPEN proposals (R134). -/
def ChangeControl.chooseSlot (c : ChangeControl) (now : Seconds) : Option Nat :=
  match c.unusedSlot with
  | some i => some i
  | none => c.oldestEnded now

/-- The id counter moved on past 0 and past the ids in use; the first argument bounds how many it can pass over (R132). -/
def advanceId (used : List Nat) : Nat → Nat → Nat
  | 0, i => i
  | n + 1, i =>
    let j := if 65535 ≤ i then 1 else i + 1
    if j ∈ used then advanceId used n j else j

/-- The verdicts a proposal starts with (R135). -/
def firstVerdicts : Originator → Verdict × Verdict
  | .opr => (.concur, .none)
  | .wit => (.none, .concur)
  | _ => (.none, .none)

/-- The record a posting makes (R135). -/
def State.newProposal (s : State) (change : Change) (originator : Originator) (deviation : Bool) : Proposal where
  id := s.control.nextId
  change := change
  originator := originator
  created := s.uptime
  oprVerdict := (firstVerdicts originator).1
  witVerdict := (firstVerdicts originator).2
  largeDeviation := deviation
  state := .opened
  ended := 0

/-- A posting: none if the table is full of OPEN proposals, else the state it leaves with the id and the slot given (R134,
R135, R136). -/
def State.postProposal (change : Change) (originator : Originator) (deviation : Bool) (s : State) :
    Option (State × Nat × Nat) :=
  (s.control.chooseSlot s.uptime).map fun slot =>
    let x := s.newProposal change originator deviation
    let slots := s.control.slots.set slot (some x)
    let c := { s.control with slots := slots }
    ((s.setControl { c with nextId := advanceId c.ids 7 x.id }).raise .proposal, x.id, slot)

/-- A record put into a slot. -/
def State.putProposal (s : State) (slot : Nat) (p : Proposal) : State :=
  s.setControl { s.control with slots := s.control.slots.set slot (some p) }

/-- A proposal's end in a state, at an uptime (R130). -/
def Proposal.endAs (p : Proposal) (state : ProposalState) (now : Seconds) : Proposal :=
  { p with state := state, ended := now }

/-! ### PROPOSE (R129, R133) -/

/-- The number of argument bytes of a kind, the kind byte among them (R133). -/
def kindLength : Nat → Option Nat
  | 0 => some 6
  | 1 => some 8
  | 2 => some 4
  | 3 => some 5
  | 4 => some 10
  | _ => none

/-- Whether a value lies in a range. -/
def within (low high x : Nat) : Bool := decide (low ≤ x ∧ x ≤ high)

/-- The change that PROPOSE's arguments spell, if the kind, the number of bytes and every range are right (R129, R133). -/
def changeOfArguments (args : List Byte) : Option Change :=
  let kind := argument args 0 1
  if args = [] ∨ kindLength kind ≠ some args.length then none
  else
    let run := runOfNumber (argument args 1 1)
    let freq := argument args 2 2
    match kind with
    | 0 =>
      let kx := argument args 2 4
      if within 1000 99999999 kx then run.map (Change.kFactor · kx) else none
    | 1 =>
      let mf := argument args 4 4
      if within 1 50000 freq && within 900000 1100000 mf then run.map (Change.mfPoint · freq mf) else none
    | 2 => if within 1 50000 freq then run.map (Change.mfPointDelete · freq) else none
    | 3 =>
      let bv := argument args 1 4
      if within 20000 5000000 bv then some (.proverVolume bv) else none
    | _ =>
      let g := argument args 1 4
      let size := argument args 5 1
      let c := argument args 6 4
      if within 1 1000000 g && within 1 100 size && within 100 100000 c && decide (size ≤ c) then
        some (.samplerSetup g size c)
      else none

/-- The originator a port's proposal has (R130). -/
def portOriginator : Port → Originator
  | .opr => .opr
  | .wit => .wit
  | .sup => .sup

/-- PROPOSE's own rule (R133). -/
def State.propose (p : Port) (args : List Byte) (s : State) : State × Answer :=
  match changeOfArguments args with
  | none => refused .badArgument s
  | some change =>
    match s.postProposal change (portOriginator p) false with
    | none => refused .full s
    | some (s1, id, slot) => (s1, .okWith (field 2 id ++ field 1 slot))

/-- PROPOSE (R133). -/
def execPropose (p : Port) (args : List Byte) (s : State) : Host.Outcome State Fault Refusal :=
  .next (takeRequest p Catalogue.propose args (State.propose p args) s)

/-! ### Verdicts and ends (R137, R138, R142, R144) -/

/-- A port's verdict on a proposal; SUP has none (R137). -/
def Proposal.verdictOf (p : Proposal) : Port → Verdict
  | .opr => p.oprVerdict
  | .wit => p.witVerdict
  | .sup => .none

/-- A port's verdict given (R137, R138). -/
def Proposal.setVerdict (p : Proposal) (v : Verdict) : Port → Proposal
  | .opr => { p with oprVerdict := v }
  | .wit => { p with witVerdict := v }
  | .sup => p

/-- The checks of CONCUR and REJECT, in their order: NOT_FOUND, WRONG_STATE, DECIDED; or the slot and the record (R137,
R138). -/
def State.checkVerdict (p : Port) (id : Nat) (s : State) : Except Status (Nat × Proposal) :=
  match s.control.find id with
  | none => .error .notFound
  | some (slot, x) =>
    if !x.isOpen then .error .wrongState
    else if x.verdictOf p ≠ .none then .error .decided
    else .ok (slot, x)

/-- REJECT's own rule (R138). -/
def State.reject (p : Port) (id : Nat) (s : State) : State × Answer :=
  match s.checkVerdict p id with
  | .error status => refused status s
  | .ok (slot, x) =>
    let y := (x.setVerdict .reject p).endAs .rejected s.uptime
    ((s.putProposal slot y).raise .proposal, .okWith (field 2 id ++ field 1 (proposalStateCode .rejected)))

/-- REJECT (R138). -/
def execReject (p : Port) (args : List Byte) (s : State) : Host.Outcome State Fault Refusal :=
  .next (takeRequest p Catalogue.reject args (State.reject p (argument args 0 2)) s)

/-- Whether a port may withdraw a proposal: its own, and SUP also a PROVER proposal (R142). -/
def mayWithdraw (p : Port) (x : Proposal) : Bool :=
  x.originator == portOriginator p || (p == .sup && x.originator == .prover)

/-- WITHDRAW's own rule (R142). -/
def State.withdraw (p : Port) (id : Nat) (s : State) : State × Answer :=
  match s.control.find id with
  | none => refused .notFound s
  | some (slot, x) =>
    if !mayWithdraw p x then refused .notPermitted s
    else if !x.isOpen then refused .wrongState s
    else
      ((s.putProposal slot (x.endAs .withdrawn s.uptime)).raise .proposal,
        .okWith (field 2 id ++ field 1 (proposalStateCode .withdrawn)))

/-- WITHDRAW (R142). -/
def execWithdraw (p : Port) (args : List Byte) (s : State) : Host.Outcome State Fault Refusal :=
  .next (takeRequest p Catalogue.withdraw args (State.withdraw p (argument args 0 2)) s)

/-- Whether a proposal expires at a one-second event: OPEN and aged 900 s or more (R144). -/
def Proposal.expiresAt (now : Seconds) (x : Proposal) : Bool := x.isOpen && decide (900 ≤ secondsBetween x.created now)

/-- A slot after the expiry of a one-second event (R144). -/
def expireSlot (now : Seconds) (x : Option Proposal) : Option Proposal :=
  x.map fun p => if p.expiresAt now then p.endAs .expired now else p

/-- PROPOSAL_EXPIRY: the one-second event at the table; each proposal that expires raises PROPOSAL (R144). -/
def execProposalExpiry (s : State) : Host.Outcome State Fault Refusal :=
  let n := s.control.slots.countP fun x => x.any (Proposal.expiresAt s.uptime)
  .next (State.raiseTimes .proposal n
    (s.setControl { s.control with slots := s.control.slots.map (expireSlot s.uptime) }))

/-! ### READ_PROPOSAL (R148) -/

/-- A slot's five bytes in the summary (R148). What a never-used slot's kind and originator read no rule states (log
entry 21). -/
def slotFields : Option Proposal → List Byte
  | none => field 2 0 ++ field 1 7 ++ [Config.unusedSlotByte 0, Config.unusedSlotByte 1]
  | some p => field 2 p.id ++ field 1 (proposalStateCode p.state) ++ field 1 (kindCode p.change) ++
      field 1 (originatorCode p.originator)

/-- The seconds remaining before expiry: 900 minus the age while OPEN, 0 otherwise (R144, R148). -/
def Proposal.remaining (p : Proposal) (now : Seconds) : Nat :=
  if p.isOpen then 900 - secondsBetween p.created now else 0

/-- A record's 39 bytes (R148). -/
def State.proposalFields (s : State) (slot : Nat) (p : Proposal) : List Byte :=
  let byId := match p.state with
    | .superseded i => i
    | _ => 0
  let number := match p.state with
    | .applied n => n
    | _ => 0
  field 2 p.id ++ field 1 slot ++ field 1 (kindCode p.change) ++ field 1 (originatorCode p.originator) ++
    field 1 (proposalStateCode p.state) ++ field 1 (failureCode p.state) ++ field 1 (verdictCode p.oprVerdict) ++
    field 1 (verdictCode p.witVerdict) ++ flagsByte [p.largeDeviation] ++ secondsField p.created ++
    secondsField p.ended ++ field 2 (p.remaining s.uptime) ++ changeArguments p.change ++ field 2 byId ++
    field 4 number ++ field 4 s.control.changeCount

/-- READ_PROPOSAL's own rule (R148). -/
def State.readProposal (id : Nat) (s : State) : State × Answer :=
  if id = 0 then
    reads (s.control.slots.flatMap slotFields ++ field 2 s.control.nextId ++ field 4 s.control.changeCount) s
  else
    match s.control.find id with
    | none => refused .notFound s
    | some (slot, p) => reads (s.proposalFields slot p) s

/-- READ_PROPOSAL (R148). -/
def execReadProposal (p : Port) (args : List Byte) (s : State) : Host.Outcome State Fault Refusal :=
  .next (takeRequest p Catalogue.readProposal args (State.readProposal (argument args 0 2)) s)

end Sys2Proof.Machine
end

