-- ==== Sys2Proof/Machine/Store.lean ====
section
/-! DEFINITION. The retention store: areas, record slots and the write queue (R184 to R189), with the commands
JOB_COMPLETE, POWER_FAIL_WARNING, POWER_FAIL_CLEAR and PERIODIC_CHECKPOINT. -/

namespace Sys2Proof.Machine

/-! ### Contents taken when a write begins (R184, R186) -/

/-- The contents of the parameter area at an event (R184). -/
def State.captureParameters (s : State) : ParameterArea where
  kx := .ofFn fun r => (s.totalizers.get r).kx
  curves := s.curves
  baseVolume := s.prover.baseVolume
  setup := s.sampler.setup
  changeCount := s.control.changeCount

/-- A run's part of the checkpoint at an event (R34, R184). -/
def State.captureRun (s : State) (r : Run) : RunCheckpoint :=
  let t := s.totalizers.get r
  let c := s.channels.get r
  { total := t.total, rollover := t.rollover, indicatedRemainder := t.indicatedRemainder,
    grossRemainder := t.grossRemainder, kx := t.kx, cumulative := c.cumulative, offlinePulses := c.offlinePulses,
    enabled := c.runState != .offline, cutoff := c.cutoff, limit := c.limit, unbatched := t.unbatched,
    unbatchedSaturated := t.unbatchedSaturated }

/-- The number of pending grabs marked own (R149). -/
def ownGrabs (l : List GrabMark) : Nat := l.countP (· == .own)

/-- The contents of the checkpoint area at an event (R184). -/
def State.captureCheckpoint (s : State) : CheckpointArea where
  runs := .ofFn s.captureRun
  batch := s.batch
  grabs := s.sampler.counts
  ownPending := ownGrabs s.sampler.pendingGrabs
  queue := s.queue
  batchSeq := s.batchSeq
  nextId := s.control.nextId
  volume := s.sampler.volume
  fill := s.sampler.fill
  activeLow := s.sampler.activeLow
  width := s.sampler.width
  setupSet := s.sampler.setup.isSome

/-! ### The two copies of an area (R184) -/

/-- The newer of the marked copies, which a restore takes (R184, R190). -/
def Copies.newest {α : Type} (c : Copies α) : Option (Marked α) :=
  match c.first, c.second with
  | some a, some b => if a.count < b.count then some b else some a
  | some a, none => some a
  | none, b => b

/-- Whether a job writes the second copy: the one that does not hold the newest marked contents (R184; log entry 17 for
two copies without a marker). -/
def Copies.writesSecond {α : Type} (c : Copies α) : Bool :=
  match c.first, c.second with
  | some a, some b => decide (b.count ≤ a.count)
  | some _, none => true
  | none, _ => false

/-- The copies with one erased (R184). -/
def Copies.erase {α : Type} (c : Copies α) (second : Bool) : Copies α :=
  if second then { c with second := none } else { c with first := none }

/-- The copies with one written and its marker in place (R184). -/
def Copies.write {α : Type} (c : Copies α) (second : Bool) (x : Marked α) : Copies α :=
  if second then { c with second := some x } else { c with first := some x }

/-- The write count of a job: one higher than the other copy's (R184). -/
def Copies.nextCount {α : Type} (c : Copies α) : Nat := (c.newest.map Marked.count).getD 0 + 1

/-! ### Record slots (R185) -/

/-- The slot of a sequence number (R185). -/
def slotOf (seq : Nat) : Nat := (seq - 1) % 28

/-- The first slot of the sector a sequence number's slot lies in (R185). -/
def sectorStart (seq : Nat) : Nat := slotOf seq / 4 * 4

/-- The sequence number that belongs to that first slot in the current wrap (R185). -/
def sectorFirstSeq (seq : Nat) : Nat := seq - slotOf seq % 4

/-- The sequence numbers of the marked records that a sequence number's sector holds. A slot whose write was cut short holds
none, although R185 leaves open whether the check of the sector counts it: the model's choice (log entry 32). -/
def sectorSeqs (slots : List (Option BatchRecord)) (seq : Nat) : List Nat :=
  ((slots.drop (sectorStart seq)).take 4).filterMap fun x => x.map BatchRecord.seq

/-- Whether a RECORD job erases its sector first (R185). Only marked records decide it: the model's choice (log entry 32). -/
def needsErase (slots : List (Option BatchRecord)) (seq : Nat) : Bool :=
  (sectorSeqs slots seq).any fun q => decide (q < sectorFirstSeq seq)

/-- The slots with a sequence number's sector erased (R185). -/
def eraseSector (slots : List (Option BatchRecord)) (seq : Nat) : List (Option BatchRecord) :=
  let i := sectorStart seq
  (((slots.set i none).set (i + 1) none).set (i + 2) none).set (i + 3) none

/-! ### Retention states of the ring (R85) -/

/-- A record's entry after its RECORD job completed: a PENDING one becomes RETAINED (R85, R186). -/
def RingEntry.complete (seq : Nat) (e : RingEntry) : RingEntry :=
  if e.record.seq = seq ∧ e.retention = .pending then { e with retention := .retained } else e

/-- A record's entry after it was refused, dropped or destroyed (R85). -/
def RingEntry.lose (seqs : List Nat) (e : RingEntry) : RingEntry :=
  if e.record.seq ∈ seqs then { e with retention := .notRetained } else e

/-- The history with the entries of some sequence numbers made NOT_RETAINED (R85). -/
def History.lose (h : History) (seqs : List Nat) : History := { h with ring := h.ring.map (RingEntry.lose seqs) }

/-- How many entries of the ring some sequence numbers make NOT_RETAINED that were not so before (R185). -/
def History.losses (h : History) (seqs : List Nat) : Nat :=
  h.ring.countP fun e => decide (e.record.seq ∈ seqs ∧ e.retention ≠ .notRetained)

/-! ### The write queue (R186) -/

/-- The jobs that wait and have not begun (R186): the first job of the queue is the one being written. -/
def Store.waiting (x : Store) : List Job := x.queue.drop 1

/-- Whether the store takes jobs: READY or WRITING (R186). -/
def Store.takesJobs (x : Store) : Bool := x.status == .ready || x.status == .writing

/-- The oldest job of the queue begins, and takes its contents (R184 to R187); with an empty queue the store is READY. -/
def State.beginJob (s : State) : State :=
  let st := s.store
  match st.queue with
  | [] => s.setStore { st with status := .ready, writing := none }
  | .parameters :: _ =>
    let second := st.parameters.writesSecond
    s.setStore { st with
      status := .writing
      parameters := st.parameters.erase second
      writing := some ⟨.parameters ⟨st.parameters.nextCount, s.captureParameters⟩ second, s.tick + 600000⟩ }
  | .checkpoint :: _ =>
    let second := st.checkpoints.writesSecond
    s.setStore { st with
      status := .writing
      checkpoints := st.checkpoints.erase second
      periodicRef := s.uptime
      writing := some ⟨.checkpoint ⟨st.checkpoints.nextCount, s.captureCheckpoint⟩ second, s.tick + 200000⟩ }
  | .record r :: _ =>
    if needsErase st.slots r.seq then
      let destroyed := sectorSeqs st.slots r.seq
      State.raiseRetentionTimes .recordNotRetained (s.history.losses destroyed)
        { s with
          history := s.history.lose destroyed
          store := { st with
            status := .writing
            slots := eraseSector st.slots r.seq
            writing := some ⟨.record r, s.tick + 750000⟩ } }
    else
      s.setStore { st with
        status := .writing
        slots := st.slots.set (slotOf r.seq) none
        writing := some ⟨.record r, s.tick + 300000⟩ }

/-- A job joins the tail; in READY it begins at once (R186). -/
def State.joinQueue (j : Job) (s : State) : State :=
  let s' := s.setStore { s.store with queue := s.store.queue ++ [j] }
  if s.store.status = .ready then s'.beginJob else s'

/-- A record that will not survive a loss of power: NOT_RETAINED, and RETENTION raised (R85, R186). -/
def State.loseRecord (seq : Nat) (s : State) : State :=
  (s.setHistory (s.history.lose [seq])).raiseRetention .recordNotRetained

/-- A RECORD request (R186). -/
def State.requestRecord (r : BatchRecord) (s : State) : State :=
  if s.store.takesJobs ∧ s.store.powerFail = false ∧ s.store.queue.length < 4 then s.joinQueue (.record r)
  else s.loseRecord r.seq

/-- A PARAMETERS request: merged with a waiting job, queued, or marked owed (R141, R186). -/
def State.requestParameters (s : State) : State :=
  if s.store.powerFail then s.setStore { s.store with owedParameters := true }
  else if .parameters ∈ s.store.waiting then s
  else if s.store.takesJobs ∧ s.store.queue.length < 4 then s.joinQueue .parameters
  else s.setStore { s.store with owedParameters := true }

/-- A CHECKPOINT request: merged with a waiting job, queued, or marked owed (R186, R187). While the power-fail
indication is set and no CHECKPOINT waits, the final one has begun, and the request is owed. -/
def State.requestCheckpoint (s : State) : State :=
  if .checkpoint ∈ s.store.waiting then s
  else if s.store.takesJobs ∧ s.store.powerFail = false ∧ s.store.queue.length < 4 then s.joinQueue .checkpoint
  else s.setStore { s.store with owedCheckpoint := true }

/-- The owed kinds join the tail, PARAMETERS first, each with its mark cleared, while there is room (R186, R189). -/
def Store.joinOwed (x : Store) : Store :=
  let y := if x.owedParameters ∧ x.queue.length < 4 then
      { x with queue := x.queue ++ [.parameters], owedParameters := false } else x
  if y.owedCheckpoint ∧ y.queue.length < 4 then
    { y with queue := y.queue ++ [.checkpoint], owedCheckpoint := false } else y

/-- The marker of the job in progress is put in place (R184, R185). -/
def Store.commit (x : Store) : Payload → Store
  | .parameters contents second => { x with parameters := x.parameters.write second contents }
  | .checkpoint contents second => { x with checkpoints := x.checkpoints.write second contents }
  | .record r => { x with slots := x.slots.set (slotOf r.seq) (some r) }

/-- What a completed job does to the ring: a RECORD job makes its record RETAINED if it is still there (R85, R186). -/
def History.complete (h : History) : Payload → History
  | .record r => { h with ring := h.ring.map (RingEntry.complete r.seq) }
  | _ => h

/-- What follows a completion: the oldest job begins, or the store becomes READY, or HALTED under R188 (R186). -/
def State.afterCompletion (s : State) : State :=
  if s.store.queue = [] ∧ s.store.powerFail then s.setStore { s.store with status := .halted, writing := none }
  else s.beginJob

/-- JOB_COMPLETE: the job in progress is complete (R186). With no job in progress nothing happens. -/
def execJobComplete (s : State) : Host.Outcome State Fault Refusal :=
  match s.store.writing with
  | none => .next s
  | some w =>
    let done := { s.store.commit w.payload with queue := s.store.queue.drop 1, writing := none }
    let owed := if done.powerFail then done else done.joinOwed
    .next (State.afterCompletion { s with store := owed, history := s.history.complete w.payload })

/-! ### Power fail (R188, R189) -/

/-- The sequence numbers of the RECORD jobs among some jobs. -/
def recordSeqs (l : List Job) : List Nat :=
  l.filterMap fun
    | .record r => some r.seq
    | _ => none

/-- What the power-fail warning does in READY or WRITING: the indication is set, waiting jobs other than CHECKPOINT are
dropped, the final CHECKPOINT is requested, and RETENTION is raised (R188). Where two CHECKPOINT jobs wait, an owed one
having joined behind another, both are kept and both run, and the store is HALTED after the second; R188 speaks of one: the
model's choice (log entry 22). -/
def State.actOnPowerFail (s : State) : State :=
  if s.store.takesJobs then
    let dropped := s.store.waiting.filter (· != .checkpoint)
    let kept := s.store.waiting.filter (· == .checkpoint)
    let s1 := s.setStore { s.store with
      powerFail := true
      queue := s.store.queue.take 1 ++ kept
      owedParameters := s.store.owedParameters || decide (Job.parameters ∈ dropped) }
    let s2 := State.raiseRetentionTimes .recordNotRetained (recordSeqs dropped).length
      (s1.setHistory (s1.history.lose (recordSeqs dropped)))
    let s3 := if kept = [] then s2.joinQueue .checkpoint else s2
    s3.raiseRetention .powerWarning
  else s

/-- POWER_FAIL_WARNING: PFAIL is accepted active (R188). During RESTORING it is acted on when the restore ends. -/
def execPowerFailWarning (s : State) : Host.Outcome State Fault Refusal :=
  if s.store.pfailActive then .next s
  else .next (State.actOnPowerFail { s with
    lines := { s.lines with pfail := s.lines.pfail.report true false }
    store := { s.store with pfailActive := true } })

/-- POWER_FAIL_CLEAR: PFAIL is accepted inactive without a reset (R189). During RESTORING it takes back a warning that was not
acted on yet, and the restore completion finds PFAIL inactive: the model's choice between R188 and R190 (log entry 31). -/
def execPowerFailClear (s : State) : Host.Outcome State Fault Refusal :=
  if s.store.pfailActive then
    let s1 := { s with
      lines := { s.lines with pfail := s.lines.pfail.report false true }
      store := { s.store with pfailActive := false, powerFail := false } }
    if s.store.status = .halted then .next (State.beginJob { s1 with store := s1.store.joinOwed }) else .next s1
  else .next s

/-- PERIODIC_CHECKPOINT: the one-second event at the store (R187). The check is made also in HALTED and while the power-fail
indication is set, where its request is merged or owed; R189 has it resume when the indication clears, and whether it rests
until then is left open: the model's choice (log entry 33). -/
def execPeriodicCheckpoint (s : State) : Host.Outcome State Fault Refusal :=
  if allRuns.any s.isFlowing ∧ 60 ≤ secondsBetween s.store.periodicRef s.uptime then .next s.requestCheckpoint
  else .next s

end Sys2Proof.Machine
end

