-- ==== Sys2Proof/Machine/History.lean ====
section
/-! DEFINITION. The batch history (R84 to R99): the ring, the ports' cursors and lost counts, and the commands
READ_RECORD, SET_CURSOR and FIND_PARCEL. -/

namespace Sys2Proof.Machine

/-! ### Bounds of the ring (R84, R87) -/

/-- The sequence numbers of the ring, in order. -/
def History.seqs (h : History) : List Nat := h.ring.map fun e => e.record.seq

/-- O: the oldest record's sequence number, or the batch sequence counter when the ring is empty (R84). -/
def State.oldestSeq (s : State) : Nat := s.history.seqs.head?.getD s.batchSeq

/-- E: the newest record's sequence number plus one, or the batch sequence counter when the ring is empty (R84). -/
def State.endSeq (s : State) : Nat := (s.history.seqs.getLast?.map (· + 1)).getD s.batchSeq

/-- The record of a sequence number in the ring (R90). -/
def History.find (h : History) (seq : Nat) : Option RingEntry := h.ring.find? fun e => e.record.seq == seq

/-- The first record's sequence number at or above a value, or E: a cursor value moved past a gap (R87, R92). -/
def State.seek (s : State) (v : Nat) : Nat := (s.history.seqs.find? fun q => decide (v ≤ q)).getD s.endSeq

/-! ### A record joins the ring (R84, R88, R89) -/

/-- The oldest record is dropped: a port whose cursor was below the new oldest loses it (R88). `oldest` is the new
oldest record's sequence number. -/
def State.dropFor (oldest : Nat) (s : State) (p : Port) : State :=
  if s.history.cursors.get p < oldest then
    State.raiseFor p .recordLost (s.setHistory { s.history with
      cursors := s.history.cursors.set p oldest
      lost := s.history.lost.set p (satAdd max8 (s.history.lost.get p) 1) })
  else s

/-- A full ring drops its oldest record, and the cursors are brought into line (R84, R88). -/
def State.dropOldest (s : State) : State :=
  if 24 ≤ s.history.ring.length then
    let s1 := s.setHistory { s.history with ring := s.history.ring.drop 1 }
    allPorts.foldl (State.dropFor s1.oldestSeq) s1
  else s

/-- The cursor of a port that had read everything names the new record (R89); `oldEnd` is E before the append. -/
def catchUp (oldEnd seq cursor : Nat) : Nat := if cursor = oldEnd then seq else cursor

/-- A closed record joins the ring as PENDING (R79 step 1, R84, R85, R89). The batch sequence counter still holds the
record's own number, so that E of an empty ring is that number. -/
def State.appendRecord (r : BatchRecord) (s : State) : State :=
  let s1 := s.dropOldest
  let e := s1.endSeq
  s1.setHistory { s1.history with
    ring := s1.history.ring ++ [⟨r, .pending⟩]
    cursors := .ofFn fun p => catchUp e r.seq (s1.history.cursors.get p) }

/-! ### Commands -/

/-- A port's cursor set. -/
def State.setCursor (s : State) (p : Port) (v : Nat) : State :=
  s.setHistory { s.history with cursors := s.history.cursors.set p v }

/-- READ_RECORD's own rule (R90, R91). -/
def State.readRecord (p : Port) (selector part advance : Nat) (s : State) : State × Answer :=
  if 4 < part ∨ 1 < advance then refused .badArgument s
  else
    let seq := if selector = 0 then s.history.cursors.get p else selector
    match s.history.find seq with
    | none => refused .notFound s
    | some e =>
      let answer := Answer.okWith (recordPart e part)
      if selector = 0 ∧ part = 4 ∧ advance = 1 then (s.setCursor p (s.seek (seq + 1)), answer) else (s, answer)

/-- READ_RECORD (R90). -/
def execReadRecord (p : Port) (args : List Byte) (s : State) : Host.Outcome State Fault Refusal :=
  .next (takeRequest p Catalogue.readRecord args
    (State.readRecord p (argument args 0 4) (argument args 4 1) (argument args 5 1)) s)

/-- SET_CURSOR's own rule: a value from 1 upward is clamped to O to E and moved past a gap; the answer is the port's
position, and the lost count is cleared after it is reported (R92, R93). -/
def State.moveCursor (p : Port) (v : Nat) (s : State) : State × Answer :=
  let s1 := if v = 0 then s else s.setCursor p (s.seek (clamp s.oldestSeq s.endSeq v))
  let data := field 5 (s1.history.cursors.get p) ++ field 5 s1.oldestSeq ++ field 5 s1.endSeq ++
    field 1 s1.history.ring.length ++ field 1 (s1.history.lost.get p)
  (s1.setHistory { s1.history with lost := s1.history.lost.set p 0 }, .okWith data)

/-- SET_CURSOR (R92). -/
def execSetCursor (p : Port) (args : List Byte) (s : State) : Host.Outcome State Fault Refusal :=
  .next (takeRequest p Catalogue.setCursor args (State.moveCursor p (argument args 0 4)) s)

/-- The records a search examines, in its order: from the cursor's record toward newer or toward older (R94). -/
def History.scan (h : History) (cursor direction : Nat) : List RingEntry :=
  if direction = 0 then h.ring.filter fun e => decide (cursor ≤ e.record.seq)
  else (h.ring.filter fun e => decide (e.record.seq ≤ cursor)).reverse

/-- FIND_PARCEL's own rule (R94, R95). R99 speaks of a five-byte field in which FIND_PARCEL reports a cursor; R95 gives its
answer no such field. The answer is that of R95, the sequence in four bytes: the model's choice (log entry 27). -/
def State.findParcel (p : Port) (parcel direction move : Nat) (s : State) : State × Answer :=
  if 1 < direction ∨ 1 < move then refused .badArgument s
  else
    let found := (s.history.scan (s.history.cursors.get p) direction).find? fun e =>
      decide (parcel ≠ 0) && e.record.parcel == parcel
    match found with
    | none => refused .notFound s
    | some e =>
      let data := field 4 e.record.seq ++ field 1 e.record.repeatIndex ++ field 1 (causeCode e.record.cause) ++
        field 1 (retentionCode e.retention)
      (if move = 1 then s.setCursor p e.record.seq else s, .okWith data)

/-- FIND_PARCEL (R94). -/
def execFindParcel (p : Port) (args : List Byte) (s : State) : Host.Outcome State Fault Refusal :=
  .next (takeRequest p Catalogue.findParcel args
    (State.findParcel p (argument args 0 4) (argument args 4 1) (argument args 5 1)) s)

end Sys2Proof.Machine
end

