-- ==== Sys2Proof/Machine/Sampler.lean ====
section
/-! DEFINITION. Sample pacing (R149 to R161): grabs falling due, the receiver, the GRAB output, batch boundaries, an
applied setup, and the sampler's commands. -/

namespace Sys2Proof.Machine

/-! ### The receiver (R152) -/

/-- The committed fill: the fill plus S for each pending grab (R152). -/
def Sampler.committed (x : Sampler) (u : SamplerSetup) : Nat := x.fill + u.size * x.pendingGrabs.length

/-- Whether the receiver is full; never while the setup is unset (R149, R152). -/
def Sampler.isFull (x : Sampler) : Bool :=
  match x.setup with
  | none => false
  | some u => decide (u.capacity < x.committed u + u.size) || x.rcvhi

/-- The full indication evaluated afresh; SAMPLER is raised when it changes (R152). -/
def State.evaluateFull (s : State) : State :=
  let now := s.sampler.isFull
  State.raiseIf (now != s.sampler.full) .sampler (s.setSampler { s.sampler with full := now })

/-! ### The grab output (R153, R154) -/

/-- The active level of GRAB: high for polarity 0, low for polarity 1 (R155). -/
def Sampler.activeLevel (x : Sampler) : Bool := !x.activeLow

/-- The idle level of GRAB (R155). -/
def Sampler.idleLevel (x : Sampler) : Bool := x.activeLow

/-- The tick at which a pulse or gap that begins at a tick ends: W milliseconds of 10 000 ticks (R153, R154). -/
def Sampler.endTick (x : Sampler) (now : Tick) : Tick := now + BitVec.ofNat 48 (x.width * 10000)

/-- The fill after one more grab of size S, up to C (R152). -/
def Sampler.filled (x : Sampler) : Nat :=
  match x.setup with
  | none => x.fill
  | some u => min u.capacity (x.fill + u.size)

/-- A grab is issued: the output enters PULSE, the fill rises, and an own grab is counted as issued (R153). -/
def State.issueGrab (mark : GrabMark) (s : State) : State :=
  let x := s.sampler
  State.evaluateFull (s.setSampler { x with
    output := .pulse (x.endTick s.tick)
    grabLine := some x.activeLevel
    fill := x.filled
    counts := { x.counts with issued := x.counts.issued + (if mark = .own then 1 else 0) } })

/-! ### Grabs falling due (R150, R151) -/

/-- The disposition of a grab that falls due: the first case of the table of R151 that applies. -/
def State.disposeGrab (s : State) : State :=
  let x := s.sampler
  if x.hold then
    (s.setSampler { x with counts := { x.counts with hold := x.counts.hold + 1 } }).raise .sampler
  else if x.full then
    (s.setSampler { x with counts := { x.counts with full := x.counts.full + 1 } }).raise .sampler
  else if x.output = .idle then s.issueGrab .own
  else if x.pendingGrabs.length < 4 then
    State.evaluateFull (s.setSampler { x with pendingGrabs := x.pendingGrabs ++ [.own] })
  else (s.setSampler { x with counts := { x.counts with overflow := x.counts.overflow + 1 } }).raise .sampler

/-- G leaves A, and one grab falls due: it is counted as due and disposed of. At 4 294 967 295 grabs due no further one
falls due in the batch (R150). -/
def State.dueGrab (interval : Nat) (s : State) : State :=
  let x := s.sampler
  if x.counts.due < max32 then
    State.disposeGrab (s.setSampler { x with
      volume := x.volume - interval
      counts := { x.counts with due := x.counts.due + 1 } })
  else s.setSampler { x with volume := x.volume - interval }

/-- G leaves A one more time while A is at least G, and each time a grab falls due while the batch's grabs due are below
4 294 967 295 (R150); the first argument bounds how many times that can be. -/
def State.dueGrabs (interval : Nat) : Nat → State → State
  | 0, s => s
  | n + 1, s =>
    if interval ≤ s.sampler.volume then State.dueGrabs interval n (s.dueGrab interval)
    else s

/-- A gross increment handed on by the batch controller (R150). -/
def State.sampleVolume (dG : Nat) (s : State) : State :=
  match s.sampler.setup with
  | none => s
  | some u =>
    if s.sampler.counts.due < max32 then
      let a := s.sampler.volume + dG
      State.dueGrabs u.interval (a / u.interval) (s.setSampler { s.sampler with volume := a })
    else s

/-! ### Batch boundaries (R158) -/

/-- At a close every pending grab is marked carried, and with no batch open the counts read 0 (R149, R158). -/
def Sampler.closeBatch (x : Sampler) : Sampler :=
  { x with pendingGrabs := x.pendingGrabs.map fun _ => .carried, counts := .zero }

/-- At an opening A is 0, the counts are 0 and the pending grabs are carried in (R69 step 6, R158). -/
def Sampler.openBatch (x : Sampler) : Sampler :=
  { x with volume := 0, counts := { GrabCounts.zero with carriedIn := x.pendingGrabs.length } }

/-! ### An applied setup (R159) -/

/-- The sampler takes a new setup: A is 0, the fill is at most the new C, fullness is evaluated afresh (R159). -/
def State.applySetup (u : SamplerSetup) (s : State) : State :=
  State.evaluateFull (s.setSampler { s.sampler with
    setup := some u, volume := 0, fill := min s.sampler.fill u.capacity })

/-! ### Commands -/

/-- PULSE_END: the pulse ends and the output enters GAP at its idle level (R154). Outside a pulse nothing happens. -/
def execPulseEnd (s : State) : Host.Outcome State Fault Refusal :=
  match s.sampler.output with
  | .pulse _ => .next (s.setSampler { s.sampler with
      output := .gap (s.sampler.endTick s.tick), grabLine := some s.sampler.idleLevel })
  | _ => .next s

/-- GAP_END: the gap ends; the oldest pending grab is issued or the output enters IDLE (R154). Outside a gap nothing
happens. -/
def execGapEnd (s : State) : Host.Outcome State Fault Refusal :=
  match s.sampler.output with
  | .gap _ =>
    match s.sampler.pendingGrabs with
    | [] => .next (s.setSampler { s.sampler with output := .idle })
    | g :: rest => .next ((s.setSampler { s.sampler with pendingGrabs := rest }).issueGrab g)
  | _ => .next s

/-- RCVHI_CHANGE: a new level of RCVHI is accepted (R152). During RESTORING fullness is not evaluated (R160). -/
def execRcvhiChange (level : Bool) (s : State) : Host.Outcome State Fault Refusal :=
  let s1 := { s with
    lines := { s.lines with rcvhi := s.lines.rcvhi.report s.sampler.rcvhi level }
    sampler := { s.sampler with rcvhi := level } }
  if s.isRestoring then .next s1 else .next s1.evaluateFull

/-- READ_SAMPLER's data (R161). -/
def State.samplerData (s : State) : List Byte :=
  let x := s.sampler
  let u := x.setup.getD ⟨0, 0, 0⟩
  let (code, left) : Nat × Nat :=
    match x.output with
    | .idle => (0, 0)
    | .pulse e => (1, ticksBetween s.tick e)
    | .gap e => (2, ticksBetween s.tick e)
  let c := if s.batch.isSome then x.counts else .zero
  flagsByte [x.setup.isSome, x.hold, x.full, x.rcvhi, x.activeLow] ++
    field 4 u.interval ++ field 1 u.size ++ field 4 u.capacity ++ field 2 x.width ++ field 1 code ++
    field 1 x.pendingGrabs.length ++ field 1 (x.pendingGrabs.countP (· == .carried)) ++ field 4 x.volume ++
    field 4 x.fill ++ field 4 left ++ field 4 c.due ++ field 4 c.issued ++ field 4 c.hold ++ field 4 c.full ++
    field 4 c.overflow ++ field 1 c.carriedIn

/-- READ_SAMPLER (R161). -/
def execReadSampler (p : Port) (args : List Byte) (s : State) : Host.Outcome State Fault Refusal :=
  .next (takeRequest p Catalogue.readSampler args (fun s => reads s.samplerData s) s)

/-- SAMPLER_HOLD's own rule (R156). -/
def State.samplerHold (on : Nat) (s : State) : State × Answer :=
  match on with
  | 0 => (s.setSampler { s.sampler with hold := false }, .okWith [])
  | 1 => (s.setSampler { s.sampler with hold := true }, .okWith [])
  | _ => refused .badArgument s

/-- SAMPLER_HOLD (R156). -/
def execSamplerHold (p : Port) (args : List Byte) (s : State) : Host.Outcome State Fault Refusal :=
  .next (takeRequest p Catalogue.samplerHold args (State.samplerHold (argument args 0 1)) s)

/-- SAMPLER_OUTPUT's own rule: polarity 0 or 1, the width clamped to 20 to 2 000 ms; the polarity is applied to GRAB at
once in IDLE and in GAP (R155). -/
def State.samplerOutput (polarity width : Nat) (s : State) : State × Answer :=
  if 1 < polarity then refused .badArgument s
  else
    let w := clamp 20 2000 width
    let x := { s.sampler with activeLow := polarity == 1, width := w }
    let line := match x.output with
      | .pulse _ => x.grabLine
      | _ => some x.idleLevel
    (s.setSampler { x with grabLine := line }, .okWith (field 2 w))

/-- SAMPLER_OUTPUT (R155). -/
def execSamplerOutput (p : Port) (args : List Byte) (s : State) : Host.Outcome State Fault Refusal :=
  .next (takeRequest p Catalogue.samplerOutput args (State.samplerOutput (argument args 0 1) (argument args 1 2)) s)

/-- RECEIVER_SWAP's own rule: refused BUSY in PULSE; otherwise the fill is 0 and fullness is evaluated afresh (R157). -/
def State.receiverSwap (s : State) : State × Answer :=
  match s.sampler.output with
  | .pulse _ => refused .busy s
  | _ => (State.evaluateFull (s.setSampler { s.sampler with fill := 0 }), .okWith (field 4 s.sampler.fill))

/-- RECEIVER_SWAP (R157). -/
def execReceiverSwap (p : Port) (args : List Byte) (s : State) : Host.Outcome State Fault Refusal :=
  .next (takeRequest p Catalogue.receiverSwap args State.receiverSwap s)

end Sys2Proof.Machine
end

