-- ==== Sys2Proof/Machine/Batch.lean ====
section
/-! DEFINITION. Batches (R36 to R42, R60 to R83): the queue, opening, accumulating, the target and the close with its
continuation, the record's assembly, and the batch commands. -/

namespace Sys2Proof.Machine

/-! ### Opening (R68, R69) -/

/-- The batch that an opening makes (R68 steps 1 to 4, R69 step 5). -/
def State.newBatch (s : State) (plan : Plan) (index remaining : Nat) : OpenBatch where
  plan := plan
  repeatIndex := index
  repeatsRemaining := remaining
  openTime := if s.stationSet then s.stationTime else 0
  openTimeValid := s.stationSet
  opening := .ofFn fun r => (s.totalizers.get r).total
  changeCountAtOpen := s.control.changeCount
  preceding := .ofFn fun r =>
    let v := (s.totalizers.get r).unbatched.volume
    ⟨v.indicated, v.gross⟩
  acc := .all .zero
  flags := ⟨allRuns.any fun r => (s.totalizers.get r).unbatchedSaturated, false, false, false, false⟩
  runningGross := 0

/-- A run's unbatched accumulators and mark emptied at an opening (R40, R69 step 5). -/
def Totalizer.emptyUnbatched (t : Totalizer) : Totalizer := { t with unbatched := .zero, unbatchedSaturated := false }

/-- An opening: the plan and snapshots, the unbatched transfer, the sampler, BATCH_OPENED (R68, R69). A caller takes
the plan out of the queue. -/
def State.openBatch (plan : Plan) (index remaining : Nat) (s : State) : State :=
  State.raise .batchOpened { s with
    batch := some (s.newBatch plan index remaining)
    totalizers := .ofFn fun r => (s.totalizers.get r).emptyUnbatched
    sampler := s.sampler.openBatch }

/-- An opening from the queue: index 1, and the plan's repeat count remaining (R68). -/
def State.openFromQueue (plan : Plan) (rest : List Plan) (s : State) : State :=
  (s.setQueue rest).openBatch plan 1 plan.repeatCount

/-- Whether the batch sequence counter is exhausted (R78). -/
def State.seqExhausted (s : State) : Bool := decide (max32 < s.batchSeq)

/-! ### The record (R76, R77, R86) -/

/-- The volume-weighted meter factor (R77). -/
def weightedFactor (indicated gross : Nat) : Nat := if indicated = 0 then 0 else roundDiv (gross * 1000000) indicated

/-- A count held in one byte of a record: 255 or more is recorded as 255 (R86). -/
def FaultCounts.clip (c : FaultCounts) : FaultCounts where
  reverse := min c.reverse max8
  aMissing := min c.aMissing max8
  bMissing := min c.bMissing max8
  coincident := min c.coincident max8
  dither := min c.dither max8

/-- A run's part of the record of the open batch (R77, R86). -/
def State.assembleRun (s : State) (b : OpenBatch) (r : Run) : RunPart :=
  let acc := b.acc.get r
  { volume := acc.main.volume, outsideCurve := acc.outsideCurve, preceding := b.preceding.get r,
    faults := acc.main.faults.clip, mfChanges := acc.mfChanges,
    weightedMf := weightedFactor acc.main.volume.indicated acc.main.volume.gross,
    opening := b.opening.get r, closing := (s.totalizers.get r).total }

/-- The open batch frozen into a record at its close event (R76, R77, R158). -/
def State.assembleRecord (s : State) (b : OpenBatch) (cause : CloseCause) (overshoot : Nat) : BatchRecord where
  seq := s.batchSeq
  parcel := b.plan.parcel
  grade := b.plan.grade
  mode := b.plan.mode
  repeatIndex := b.repeatIndex
  cause := cause
  flags := b.flags
  timeValid := b.openTimeValid && s.stationSet
  runSet := b.plan.runSet
  openTime := b.openTime
  closeTime := if s.stationSet then s.stationTime else 0
  target := b.plan.target
  overshoot := overshoot
  changesOpen := b.changeCountAtOpen
  changesClose := s.control.changeCount
  grabs := s.sampler.counts
  pendingGrabs := ownGrabs s.sampler.pendingGrabs
  fill := s.sampler.fill
  runs := .ofFn (s.assembleRun b)

/-! ### Closing (R74 to R80) -/

/-- The close of the open batch: the record, its number and its place in the ring, the sampler's boundary, the RECORD and
CHECKPOINT requests, BATCH_CLOSED (R76 to R79, R158). -/
def State.closeBatch (cause : CloseCause) (overshoot : Nat) (b : OpenBatch) (s : State) : State :=
  let record := s.assembleRecord b cause overshoot
  let s1 := s.appendRecord record
  let s2 := { s1 with batchSeq := s1.batchSeq + 1, sampler := s1.sampler.closeBatch, batch := none }
  ((s2.requestRecord record).requestCheckpoint).raise .batchClosed

/-- What follows a close with cause TARGET (R80). -/
def State.continueAfter (b : OpenBatch) (s : State) : State :=
  if s.seqExhausted then s
  else
    match b.plan.mode with
    | .single => s
    | .chain =>
      match s.queue with
      | [] => s
      | plan :: rest => s.openFromQueue plan rest
    | .repeating =>
      if 1 < b.repeatsRemaining then s.openBatch b.plan (b.repeatIndex + 1) (b.repeatsRemaining - 1) else s

/-! ### Accumulating (R37 to R41, R70 to R72) -/

/-- What a window computation hands to its destination (R25 step 5); `outside` and `moved` are for a batch alone: the
status is not IN_RANGE (R38), and the factor moved because the curve was changed (R39). -/
structure WindowFigures where
  pulses    : Nat
  indicated : Nat
  gross     : Nat
  faults    : FaultCounts
  outside   : Bool
  moved     : Bool
deriving DecidableEq, Repr

/-- The figures that go into the eight accumulators (R37, R40). -/
def WindowFigures.accumulators (w : WindowFigures) : Accumulators := ⟨⟨w.pulses, w.indicated, w.gross⟩, w.faults⟩

/-- The gross litres that go into gross outside curve (R38). -/
def WindowFigures.outsideGross (w : WindowFigures) : Nat := if w.outside then w.gross else 0

/-- A run's batch accumulators with a window added (R37 to R39, R41). -/
def BatchAccumulators.add (x : BatchAccumulators) (w : WindowFigures) : BatchAccumulators where
  main := x.main.add w.accumulators
  outsideCurve := satAdd max32 x.outsideCurve w.outsideGross
  mfChanges := satAdd max8 x.mfChanges (if w.moved then 1 else 0)

/-- Whether the addition of a window saturates a batch accumulator (R41). -/
def BatchAccumulators.passes (x : BatchAccumulators) (w : WindowFigures) : Bool :=
  x.main.passes w.accumulators || decide (max32 < x.outsideCurve + w.outsideGross)

/-- The open batch with a window added; the running batch gross rises by what the run's batch gross took (R66, R70
step 1). -/
def OpenBatch.addWindow (b : OpenBatch) (r : Run) (w : WindowFigures) : OpenBatch :=
  let before := b.acc.get r
  let after := before.add w
  { b with
    acc := b.acc.set r after
    flags := { b.flags with saturated := b.flags.saturated || before.passes w }
    runningGross := b.runningGross + (after.main.volume.gross - before.main.volume.gross) }

/-- Whether the pre-target test sets PRE_TARGET_REACHED (R71). -/
def OpenBatch.meetsPreTarget (b : OpenBatch) : Bool :=
  decide (b.plan.target ≠ 0 ∧ b.plan.preTarget ≠ 0 ∧ b.plan.target ≤ b.runningGross + b.plan.preTarget) &&
    !b.flags.preTargetReached

/-- Whether the target test closes the batch (R72). -/
def OpenBatch.meetsTarget (b : OpenBatch) : Bool := decide (b.plan.target ≠ 0 ∧ b.plan.target ≤ b.runningGross)

/-- The pre-target test, then the target test (R70 steps 3 and 4, R71, R72). -/
def State.testTargets (b : OpenBatch) (s : State) : State :=
  let b1 := if b.meetsPreTarget then { b with flags := { b.flags with preTargetReached := true } } else b
  let s1 := State.raiseIf b.meetsPreTarget .preTarget (s.setBatch (some b1))
  if b1.meetsTarget then (s1.closeBatch .target (b1.runningGross - b1.plan.target) b1).continueAfter b1 else s1

/-- A window routed to the open batch (R70). -/
def State.batchWindow (r : Run) (w : WindowFigures) (b : OpenBatch) (s : State) : State :=
  let b1 := b.addWindow r w
  ((s.setBatch (some b1)).sampleVolume w.gross).testTargets b1

/-- A window routed to the run's unbatched accumulators (R40, R41). -/
def State.unbatchedWindow (r : Run) (w : WindowFigures) (s : State) : State :=
  let t := s.totalizers.get r
  s.setTotalizer r { t with
    unbatched := t.unbatched.add w.accumulators
    unbatchedSaturated := t.unbatchedSaturated || t.unbatched.passes w.accumulators }

/-- The open batch, if the run belongs to its run set (R36). -/
def State.batchOf (s : State) (r : Run) : Option OpenBatch := s.batch.filter fun b => inRunSet b.plan.runSet r

/-- The routing of a window (R36). -/
def State.routeWindow (r : Run) (w : WindowFigures) (s : State) : State :=
  match s.batchOf r with
  | some b => s.batchWindow r w b
  | none => s.unbatchedWindow r w

/-! ### Commands of the queue (R60 to R65) -/

/-- The plan that PLAN_ADD's arguments spell, if every field is in its range (R60). -/
def planOfArguments (args : List Byte) : Option Plan :=
  let parcel := argument args 0 4
  let grade := argument args 4 1
  let runSet := argument args 13 1
  let repeats := argument args 15 1
  match modeOfCode (argument args 14 1) with
  | none => none
  | some mode =>
    if parcel = 0 ∨ grade = 0 ∨ runSet = 0 ∨ 15 < runSet ∨ (mode = .repeating ∧ repeats = 0) then none
    else some {
      parcel := parcel, grade := grade, target := argument args 5 4, preTarget := argument args 9 4,
      runSet := BitVec.ofNat 4 runSet, mode := mode, repeatCount := if mode = .repeating then repeats else 1 }

/-- Whether a parcel id is that of the open batch (R62, R63). -/
def State.parcelOpen (s : State) (parcel : Nat) : Bool := s.batch.any fun b => b.plan.parcel == parcel

/-- Whether a parcel id is that of a queued plan (R62, R63). -/
def State.parcelQueued (s : State) (parcel : Nat) : Bool := s.queue.any fun p => p.parcel == parcel

/-- PLAN_ADD's own rule (R62). -/
def State.planAdd (args : List Byte) (s : State) : State × Answer :=
  match planOfArguments args with
  | none => refused .badArgument s
  | some plan =>
    if s.parcelQueued plan.parcel || s.parcelOpen plan.parcel then refused .duplicate s
    else if 8 ≤ s.queue.length then refused .full s
    else (s.setQueue (s.queue ++ [plan]), .okWith (field 1 (s.queue.length + 1)))

/-- PLAN_ADD (R62). -/
def execPlanAdd (p : Port) (args : List Byte) (s : State) : Host.Outcome State Fault Refusal :=
  .next (takeRequest p Catalogue.planAdd args (State.planAdd args) s)

/-- PLAN_REMOVE's own rule (R63). -/
def State.planRemove (parcel : Nat) (s : State) : State × Answer :=
  if s.parcelOpen parcel then refused .wrongState s
  else if !s.parcelQueued parcel then refused .notFound s
  else
    let q := s.queue.filter fun p => p.parcel != parcel
    (s.setQueue q, .okWith (field 1 q.length))

/-- PLAN_REMOVE (R63). -/
def execPlanRemove (p : Port) (args : List Byte) (s : State) : Host.Outcome State Fault Refusal :=
  .next (takeRequest p Catalogue.planRemove args (State.planRemove (argument args 0 4)) s)

/-- PLAN_CLEAR (R64). -/
def execPlanClear (p : Port) (args : List Byte) (s : State) : Host.Outcome State Fault Refusal :=
  .next (takeRequest p Catalogue.planClear args (fun s => (s.setQueue [], .okWith [])) s)

/-- READ_QUEUE's own rule (R65). -/
def State.readQueue (index : Nat) (s : State) : State × Answer :=
  match s.queue[index]? with
  | none => refused .notFound s
  | some plan => reads (field 1 index ++ field 1 s.queue.length ++ planFields plan) s

/-- READ_QUEUE (R65). -/
def execReadQueue (p : Port) (args : List Byte) (s : State) : Host.Outcome State Fault Refusal :=
  .next (takeRequest p Catalogue.readQueue args (State.readQueue (argument args 0 1)) s)

/-! ### Commands of the batch (R67, R74, R83) -/

/-- BATCH_OPEN's own rule (R67). -/
def State.batchOpen (s : State) : State × Answer :=
  if s.batch.isSome then refused .wrongState s
  else
    match s.queue with
    | [] => refused .notFound s
    | plan :: rest =>
      if s.seqExhausted then refused .full s
      else (s.openFromQueue plan rest, .okWith (field 4 plan.parcel ++ field 1 1))

/-- BATCH_OPEN (R67). -/
def execBatchOpen (p : Port) (args : List Byte) (s : State) : Host.Outcome State Fault Refusal :=
  .next (takeRequest p Catalogue.batchOpen args State.batchOpen s)

/-- BATCH_CLOSE's own rule (R74). -/
def State.batchClose (s : State) : State × Answer :=
  match s.batch with
  | none => refused .wrongState s
  | some b => (s.closeBatch .requested 0 b, .okWith (field 4 s.batchSeq))

/-- BATCH_CLOSE (R74). -/
def execBatchClose (p : Port) (args : List Byte) (s : State) : Host.Outcome State Fault Refusal :=
  .next (takeRequest p Catalogue.batchClose args State.batchClose s)

/-- The open batch's fields of part 0, or zeros with no batch open (R83). -/
def batchHeaderFields : Option OpenBatch → List Byte
  | none => field 1 0 ++ field 4 0 ++ field 4 0 ++ flagsByte [] ++ field 4 0 ++ field 8 0 ++ field 1 0 ++ field 6 0 ++
      field 4 0
  | some b => field 1 1 ++ field 4 b.plan.parcel ++ field 1 b.plan.grade ++ field 1 (modeCode b.plan.mode) ++
      field 1 b.repeatIndex ++ field 1 b.repeatsRemaining ++
      flagsByte [b.flags.saturated, b.flags.powerInterrupted, b.flags.kChanged, b.flags.provedDuring,
        b.flags.preTargetReached, b.openTimeValid] ++
      secondsField b.openTime ++ field 4 b.plan.target ++ field 4 b.plan.preTarget ++ field 1 b.plan.runSet.toNat ++
      field 6 b.runningGross ++ field 4 b.changeCountAtOpen

/-- Part n of READ_BATCH: a run's figures in the open batch (R83). -/
def batchRunFields (b : OpenBatch) (r : Run) : List Byte :=
  let acc := b.acc.get r
  field 1 (runNumber r) ++ tripleFields 4 acc.main.volume ++ field 4 acc.outsideCurve ++
    faultFields 4 acc.main.faults ++ field 1 acc.mfChanges ++ field 4 (b.preceding.get r).indicated ++
    field 4 (b.preceding.get r).gross ++ tripleFields 6 (b.opening.get r)

/-- READ_BATCH's own rule (R83). -/
def State.readBatch (part : Nat) (s : State) : State × Answer :=
  if 4 < part then refused .badArgument s
  else
    match runOfNumber part with
    | none => reads (batchHeaderFields s.batch ++ field 1 s.queue.length ++
        field 4 (if s.seqExhausted then 0 else s.batchSeq)) s
    | some r =>
      match s.batch with
      | none => refused .wrongState s
      | some b => reads (batchRunFields b r) s

/-- READ_BATCH (R83). -/
def execReadBatch (p : Port) (args : List Byte) (s : State) : Host.Outcome State Fault Refusal :=
  .next (takeRequest p Catalogue.readBatch args (State.readBatch (argument args 0 1)) s)

end Sys2Proof.Machine
end

