-- ==== Sys2Proof/Machine/Curve.lean ====
section
/-! DEFINITION. Meter factor curves (R26, R27, R48 to R59): the lookup, the band, the application of point changes,
the deviation test, and READ_CURVE. -/

namespace Sys2Proof.Machine

/-! ### The lookup (R26, R27) -/

/-- The factor interpolated between two neighbouring points (R27). -/
def interpolate (p q : CurvePoint) (f : Nat) : Nat :=
  ((p.mf : Int) + roundHalfAway (((q.mf : Int) - p.mf) * ((f : Int) - p.freq)) (q.freq - p.freq)).toNat

/-- The factor on the segment that holds a frequency at or above the first point given; beyond the last point its
factor is held (R26, R27). -/
def segmentFactor : List CurvePoint → Nat → Nat
  | [], _ => 1000000
  | [p], _ => p.mf
  | p :: q :: rest, f => if f < q.freq then interpolate p q f else segmentFactor (q :: rest) f

/-- The lookup: the meter factor and the curve status at a frequency (R26). -/
def lookupCurve (points : List CurvePoint) (f : Nat) : Nat × CurveStatus :=
  match points.head?, points.getLast? with
  | some first, some last =>
    if f < first.freq then (first.mf, .belowCurve)
    else if last.freq < f then (last.mf, .aboveCurve)
    else (segmentFactor points f, .inRange)
  | _, _ => (1000000, .noCurve)

/-! ### Point changes (R51 to R55) -/

/-- The distance of two frequencies. -/
def freqDistance (f g : Nat) : Nat := (f - g) + (g - f)

/-- Whether a frequency lies in the band of `f` (R52). -/
def inBand (f g : Nat) : Bool := decide (freqDistance g f * 50 ≤ f)

/-- The frequency of the point nearest to `f` among those in its band, the lower of two equally near (R53). Points come
in ascending frequency, so a later point replaces the best one only if it is strictly nearer. -/
def nearestInBand (f : Nat) (points : List CurvePoint) : Option Nat :=
  (points.filter fun p => inBand f p.freq).foldl
    (fun best p =>
      match best with
      | none => some p.freq
      | some g => if freqDistance p.freq f < freqDistance g f then some p.freq else some g) none

/-- A point inserted at the place that keeps the frequencies ascending (R54). -/
def insertPoint (x : CurvePoint) : List CurvePoint → List CurvePoint
  | [] => [x]
  | p :: rest => if x.freq < p.freq then x :: p :: rest else p :: insertPoint x rest

/-- MF_POINT(f, m) at a curve: the nearest point of the band replaced, or the point inserted, or CURVE_FULL (R53, R54). -/
def applyPoint (x : CurvePoint) (points : List CurvePoint) : Except FailureReason (List CurvePoint) :=
  match nearestInBand x.freq points with
  | some g => .ok (points.map fun p => if p.freq = g then x else p)
  | none => if points.length < 8 then .ok (insertPoint x points) else .error .curveFull

/-- MF_POINT_DELETE(f) at a curve: the point at exactly `f` removed, or NO_POINT (R55). -/
def deletePoint (f : Nat) (points : List CurvePoint) : Except FailureReason (List CurvePoint) :=
  if points.any fun p => p.freq == f then .ok (points.filter fun p => p.freq != f) else .error .noPoint

/-! ### The deviation test (R58) -/

/-- Whether a proved factor deviates by more than 2 500 ppm from what the curve gives at the proving frequency (R58). -/
def deviatesLargely (points : List CurvePoint) (f m : Nat) : Bool :=
  decide (2500 < freqDistance m (lookupCurve points f).1)

/-- Whether a proving frequency can stand as a point frequency (R59). -/
def admissibleFreq (f : Nat) : Bool := decide (1 ≤ f ∧ f ≤ 50000)

/-! ### READ_CURVE (R57) -/

/-- A point's six bytes (R57). -/
def pointFields (p : CurvePoint) : List Byte := field 2 p.freq ++ field 4 p.mf

/-- READ_CURVE's own rule (R57). -/
def State.readCurve (number : Nat) (s : State) : State × Answer :=
  match runOfNumber number with
  | none => refused .badArgument s
  | some r =>
    let points := s.curves.get r
    reads (field 1 number ++ field 1 points.length ++ field 4 s.control.changeCount ++ points.flatMap pointFields) s

/-- READ_CURVE (R57). -/
def execReadCurve (p : Port) (args : List Byte) (s : State) : Host.Outcome State Fault Refusal :=
  .next (takeRequest p Catalogue.readCurve args (State.readCurve (argument args 0 1)) s)

end Sys2Proof.Machine
end

