-- ==== Sys2Proof/Machine/Totalizer.lean ====
section
/-! DEFINITION. Volume arithmetic and totals (R25 to R47): the window computation, K-factor changes, and the commands
READ_TOTALS and READ_RUN. -/

namespace Sys2Proof.Machine

/-- A cumulative total after an addition: it counts modulo 10^12 (R33). -/
def wrapTotal (total increment : Nat) : Nat := (total + increment) % totalModulus

/-- A rollover count after the same addition: one higher if the total wrapped, saturating at 255 (R33). -/
def rollCount (rollover total increment : Nat) : Nat :=
  if totalModulus ≤ total + increment then satAdd max8 rollover 1 else rollover

/-- The cumulative totals and rollover counts with a window's increments added (R33). -/
def Totalizer.addTotals (t : Totalizer) (v : Triple) : Totalizer :=
  { t with
    total := ⟨wrapTotal t.total.pulses v.pulses, wrapTotal t.total.indicated v.indicated, wrapTotal t.total.gross v.gross⟩
    rollover := ⟨rollCount t.rollover.pulses t.total.pulses v.pulses,
      rollCount t.rollover.indicated t.total.indicated v.indicated,
      rollCount t.rollover.gross t.total.gross v.gross⟩ }

/-- Whether the factor of a window moved because the curve was changed: the mark was set, a last MF exists, and the factor
just looked up differs from it (R39). -/
def Totalizer.factorMoved (t : Totalizer) (mf : Nat) : Bool := t.curveChanged && t.lastMf.any (· != mf)

/-- Step 1 of the window computation: the mark is read and cleared, the last MF and the curve status are stored (R28,
R39). -/
def Totalizer.takeLookup (t : Totalizer) (mf : Nat) (status : CurveStatus) : Totalizer :=
  { t with lastMf := some mf, curveStatus := status, curveChanged := false }

/-- Steps 2 and 3: N pulses converted through the two remainders (R30, R31). It gives the increments and the totalizer
with its new remainders. -/
def Totalizer.convert (t : Totalizer) (n mf : Nat) : Triple × Totalizer :=
  let ri := t.indicatedRemainder + n * 1000000
  let rg := t.grossRemainder + n * 1000000 * mf
  let dI := ri / t.kx
  let dG := rg / (t.kx * 1000000)
  (⟨n, dI, dG⟩, { t with
    indicatedRemainder := ri - dI * t.kx, grossRemainder := rg - dG * (t.kx * 1000000) })

/-- The window computation of a run at a hand-off (R25): N, the frequency f, and the reverse and error counts. -/
def State.computeWindow (r : Run) (f : Nat) (w : WindowCounts) (s : State) : State :=
  let t := s.totalizers.get r
  let found := lookupCurve (s.curves.get r) f
  let (v, t1) := (t.takeLookup found.1 found.2).convert w.pulses found.1
  let s1 := State.raiseIf (found.2 != t.curveStatus) .curveRange (s.setTotalizer r (t1.addTotals v))
  s1.routeWindow r {
    pulses := v.pulses, indicated := v.indicated, gross := v.gross, faults := w.faults,
    outside := found.2 != .inRange, moved := t.factorMoved found.1 }

/-- A K_FACTOR change taken by the totalizer: Kx is set, both remainders are 0, and K_CHANGED is set in the open batch if
the run is in its run set (R43). -/
def State.applyKFactor (r : Run) (kx : Nat) (s : State) : State :=
  let s1 := s.setTotalizer r { s.totalizers.get r with kx := kx, indicatedRemainder := 0, grossRemainder := 0 }
  match s.batchOf r with
  | some b => s1.setBatch (some { b with flags := { b.flags with kChanged := true } })
  | none => s1

/-- The curve-changed mark of a run set (R29, R51). -/
def State.markCurveChanged (r : Run) (s : State) : State :=
  s.setTotalizer r { s.totalizers.get r with curveChanged := true }

/-! ### Commands -/

/-- READ_TOTALS's own rule (R45). -/
def State.readTotals (number scale : Nat) (s : State) : State × Answer :=
  match runOfNumber number with
  | none => refused .badArgument s
  | some r =>
    let t := s.totalizers.get r
    let used := clamp 0 6 scale
    let d := 10 ^ used
    reads (field 1 number ++ field 1 used ++ tickField s.tick ++
      tripleFields 6 ⟨t.total.pulses / d, t.total.indicated / d, t.total.gross / d⟩ ++ tripleFields 1 t.rollover) s

/-- READ_TOTALS (R45). -/
def execReadTotals (p : Port) (args : List Byte) (s : State) : Host.Outcome State Fault Refusal :=
  .next (takeRequest p Catalogue.readTotals args (State.readTotals (argument args 0 1) (argument args 1 1)) s)

/-- Part 0 of READ_RUN: the pulse front end (R46). -/
def channelFields (r : Run) (c : Channel) : List Byte :=
  field 1 (runNumber r) ++ field 1 (runStateCode c.runState) ++
    flagsByte [c.degraded, c.overspeed, c.offlineSeen, c.direction == .reverse] ++ field 1 c.history.length ++
    field 4 c.freq ++ field 2 c.cutoff ++ field 1 c.limit ++ field 2 c.blockCycles ++ field 2 c.blockErrors ++
    field 4 c.window.pulses ++ field 4 c.window.faults.reverse ++ faultFields 4 c.cumulative ++ field 4 c.offlinePulses

/-- Part 1 of READ_RUN: the totalizer (R47). -/
def totalizerFields (r : Run) (t : Totalizer) : List Byte :=
  field 1 (runNumber r) ++ field 4 t.kx ++ field 1 (curveStatusCode t.curveStatus) ++ field 4 (t.lastMf.getD 0) ++
    flagsByte [t.unbatchedSaturated, t.curveChanged] ++ field 4 t.indicatedRemainder ++ field 6 t.grossRemainder ++
    tripleFields 4 t.unbatched.volume ++ faultFields 4 t.unbatched.faults

/-- READ_RUN's own rule (R46, R47). -/
def State.readRun (number part : Nat) (s : State) : State × Answer :=
  match runOfNumber number with
  | none => refused .badArgument s
  | some r =>
    match part with
    | 0 => reads (channelFields r (s.channels.get r)) s
    | 1 => reads (totalizerFields r (s.totalizers.get r)) s
    | _ => refused .badArgument s

/-- READ_RUN (R46, R47). -/
def execReadRun (p : Port) (args : List Byte) (s : State) : Host.Outcome State Fault Refusal :=
  .next (takeRequest p Catalogue.readRun args (State.readRun (argument args 0 1) (argument args 1 1)) s)

end Sys2Proof.Machine
end

