-- ==== Sys2Proof/Machine/Prover.lean ====
section
/-! DEFINITION. Proving (R100 to R128): the session, its passes, repeatability, results and their posting, aborts, and
the prover's commands. -/

namespace Sys2Proof.Machine

/-! ### The session (R100) -/

/-- Whether a session state is active (R100). -/
def SessionState.isActive : SessionState → Bool
  | .waitDet1 | .inPass | .waitStop => true
  | _ => false

/-- Whether the session holds a run (R100). -/
def Session.holds (x : Session) (r : Run) : Bool := x.state.isActive && x.run == some r

/-- The cycle is an error cycle (R7). -/
def CycleClass.isError : CycleClass → Bool
  | .forwardGood | .reverseGood => false
  | _ => true

/-! ### Results and posting (R118, R124 to R126) -/

/-- What became of an offer of a result to change control (R125). -/
inductive PostOutcome where
  | notAdmissible
  | full
  | posted (id : Nat)
deriving DecidableEq, Repr

/-- A run's last result replaced. -/
def State.setResult (s : State) (r : Run) (x : ProvingResult) : State :=
  s.setProver { s.prover with results := s.prover.results.set r (some x) }

/-- A RESULT_PASS result offered to change control as an MF_POINT proposal of the prover; its posting status, id and
LARGE_DEVIATION indication are stored with it (R58, R59, R125). An offer that posts nothing leaves the id and the indication
as `State.newResult` made them, also where the deviation test was made: the model's choice (log entry 30). -/
def State.offerResult (r : Run) (x : ProvingResult) (s : State) : State × PostOutcome :=
  if !admissibleFreq x.freq then (s.setResult r { x with posting := .notAdmissible }, .notAdmissible)
  else
    let deviation := deviatesLargely (s.curves.get r) x.freq x.mf
    match s.postProposal (.mfPoint r x.freq x.mf) .prover deviation with
    | none => (s.setResult r { x with posting := .notPosted }, .full)
    | some (s1, id, _) =>
      (s1.setResult r { x with posting := .posted, proposalId := id, largeDeviation := deviation }, .posted id)

/-- The posting status a result has at its terminal event before any offer (R125). -/
def firstPosting (endState : SessionState) (freq : Nat) : PostingStatus :=
  match endState with
  | .resultPass => if admissibleFreq freq then .notPosted else .notAdmissible
  | _ => .none

/-- The result of a session that ends (R124 step 2). R125 gives the proposal id and the LARGE_DEVIATION indication of a result
that is posted and of no other: a result never posted holds id 0 and a clear indication (DESIGN CHOICE, log entry 30). -/
def State.newResult (s : State) (endState : SessionState) (reason : AbortReason) (mf freq : Nat) : ProvingResult where
  endState := endState
  reason := reason
  p := s.prover.session.p
  l := s.prover.session.l
  taken := s.prover.session.taken
  lastSpread := s.prover.session.lastSpread
  mf := mf
  freq := freq
  posting := firstPosting endState freq
  proposalId := 0
  largeDeviation := false
  post := s.prover.session.post
  endUptime := s.uptime

/-- A RESULT_PASS reported to the batch controller: PROVED_DURING is set if the run is in the open batch's set (R73, R124
step 3). -/
def State.reportProved (r : Run) (s : State) : State :=
  match s.batchOf r with
  | some b => s.setBatch (some { b with flags := { b.flags with provedDuring := true } })
  | none => s

/-- The session reaches a terminal state (R124). -/
def State.endSession (endState : SessionState) (reason : AbortReason) (mf freq : Nat) (s : State) : State :=
  let x := s.prover.session
  let result := s.newResult endState reason mf freq
  let s1 := s.setSession { x with state := endState }
  match x.run with
  | none => s1.raise .proving
  | some r =>
    let s2 := s1.setResult r result
    let s3 := if endState = .resultPass then s2.reportProved r else s2
    let s4 := if endState = .resultPass ∧ x.post then (s3.offerResult r result).1 else s3
    s4.raise .proving

/-! ### Passes (R106 to R118) -/

/-- T1 as far as it is known: from DET1 to DET2 once DET2 was seen, else 0 (R109, R113). -/
def Session.t1 (x : Session) : Nat := if x.state = .waitStop then ticksBetween x.pass.tD1 x.pass.tD2 else 0

/-- The record of a pass that ends without a stop pulse (R110, R113, R114, R123). -/
def Session.partialRecord (x : Session) (validity : Validity) : PassRecord where
  index := x.passes.length + 1
  validity := validity
  tD1 := x.pass.tD1
  t1 := x.t1
  t2 := 0
  nm := x.pass.nm
  ni := 0
  mf := 0
  freq := 0

/-- Interpolated pulses times 10 000 (R111). -/
def interpolatedPulses (nm t1 t2 : Nat) : Nat := roundDiv (nm * t1 * 10000) t2

/-- The pass meter factor, 0 when no pulse was interpolated (R111). -/
def passFactor (bv kx ni : Nat) : Nat := if ni = 0 then 0 else roundDiv (bv * kx * 10) ni

/-- The pass frequency (R111). -/
def passFreq (nm t2 : Nat) : Nat := roundDiv (nm * 10000000) t2

/-- The validity of a pass evaluated at its stop pulse: the first reason that applies (R112). -/
def judgePass (errorMark reverseMark : Bool) (t1 nm mf : Nat) : Validity :=
  if errorMark then .integrity
  else if reverseMark then .reverse
  else if t1 < 500000 then .shortPass
  else if nm < 2 then .tooFewPulses
  else if mf < 900000 ∨ 1100000 < mf then .mfOutOfBounds
  else .valid

/-- The record of a pass whose stop pulse has a stamp; that pulse adds one to Nm (R110 to R112). -/
def Session.stopRecord (x : Session) (bv kx : Nat) (stamp : Tick) : PassRecord :=
  let nm := x.pass.nm + 1
  let t2 := ticksBetween x.pass.tStart stamp
  let ni := interpolatedPulses nm x.t1 t2
  let mf := passFactor bv kx ni
  { index := x.passes.length + 1, validity := judgePass x.pass.errorMark x.pass.reverseMark x.t1 nm mf,
    tD1 := x.pass.tD1, t1 := x.t1, t2 := t2, nm := nm, ni := ni, mf := mf, freq := passFreq nm t2 }

/-- The P most recent pass records, if so many have been taken and all are VALID (R116). -/
def Session.testedPasses (x : Session) : Option (List PassRecord) :=
  let l := x.passes.drop (x.passes.length - x.p)
  if x.p ≤ x.passes.length ∧ l.all (fun y => y.validity == .valid) then some l else none

/-- The spread of some pass factors in ppm, rounded down (R116). -/
def spreadOf : List PassRecord → Nat
  | [] => 0
  | y :: rest =>
    let largest := rest.foldl (fun m z => max m z.mf) y.mf
    let smallest := rest.foldl (fun m z => min m z.mf) y.mf
    (largest - smallest) * 1000000 / smallest

/-- The mean of some figures, rounded (R118). -/
def meanOf (l : List Nat) : Nat := roundDiv l.sum l.length

/-- The repeatability test after a valid pass, then the test against M (R115 steps 4 and 5, R116 to R118). -/
def State.testSession (valid : Bool) (s : State) : State :=
  let x := s.prover.session
  match if valid then x.testedPasses else none with
  | some l =>
    let spread := spreadOf l
    let s1 := s.setSession { x with lastSpread := some spread }
    if spread ≤ x.l then
      s1.endSession .resultPass .none (meanOf (l.map PassRecord.mf)) (meanOf (l.map PassRecord.freq))
    else if x.taken = x.m then s1.endSession .resultFail .none 0 0
    else s1
  | none => if x.taken = x.m then s.endSession .resultFail .none 0 0 else s

/-- An ended pass is recorded and counted, PROVING is raised, and the session is tested (R115 steps 1 to 5); the figures
of the pass in progress are cleared (R106). -/
def State.recordPass (rec : PassRecord) (s : State) : State :=
  let x := s.prover.session
  State.testSession (rec.validity == .valid)
    ((s.setSession { x with passes := x.passes ++ [rec], taken := x.taken + 1, pass := .clear }).raise .proving)

/-- The session goes back to WAIT_DET1 unless it has ended (R115 step 6). -/
def State.awaitDet1 (s : State) : State :=
  let x := s.prover.session
  if x.state.isActive then s.setSession { x with state := .waitDet1, entryUptime := s.uptime } else s

/-- A pass begins at a DET1 event (R106). -/
def State.beginPass (t : Tick) (s : State) : State :=
  s.setSession { s.prover.session with state := .inPass, pass := { PassInProgress.clear with tD1 := t } }

/-- Changes of the figures of the pass in progress. -/
def State.setPass (s : State) (p : PassInProgress) : State := s.setSession { s.prover.session with pass := p }

/-- A forward pulse in IN_PASS (R107). -/
def State.pulseInPass (stamp : Tick) (s : State) : State :=
  let p := s.prover.session.pass
  if p.startFound then s.setPass { p with nm := p.nm + 1 }
  else if atOrAfter stamp p.tD1 then s.setPass { p with startFound := true, tStart := stamp }
  else s

/-- A forward pulse in WAIT_STOP (the table of R110). Where DET1 and DET2 fell on one tick no stamp lies between them, so the
third row ends every such pass TOO_FEW_PULSES, and the SHORT_PASS that R105 foresees does not come: the model follows the
table of R110 and R112, its choice (log entry 28). -/
def State.pulseInWaitStop (r : Run) (stamp : Tick) (s : State) : State :=
  let x := s.prover.session
  let p := x.pass
  if p.startFound then
    if atOrAfter stamp p.tD2 then
      (s.recordPass (x.stopRecord s.prover.baseVolume (s.totalizers.get r).kx stamp)).awaitDet1
    else s.setPass { p with nm := p.nm + 1 }
  else if !atOrAfter stamp p.tD1 then s
  else if !atOrAfter stamp p.tD2 then s.setPass { p with startFound := true, tStart := stamp }
  else (s.recordPass (x.partialRecord .tooFewPulses)).awaitDet1

/-- The pass's marks after a cycle of a class and counted direction (R108). -/
def PassInProgress.mark (p : PassInProgress) (cls : CycleClass) (counted : Option Direction) : PassInProgress :=
  { p with
    errorMark := p.errorMark || cls.isError
    reverseMark := p.reverseMark || counted == some .reverse }

/-- A classified cycle passed to the prover controller by its run's channel (R11, R107, R108, R110). -/
def State.proverCycle (r : Run) (cls : CycleClass) (counted : Option Direction) (stamp : Tick) (s : State) : State :=
  let x := s.prover.session
  if x.holds r then
    let marked := s.setPass (x.pass.mark cls counted)
    match x.state with
    | .inPass => if counted = some .forward then marked.pulseInPass stamp else marked
    | .waitStop => if counted = some .forward then marked.pulseInWaitStop r stamp else marked
    | _ => s
  else s

/-! ### Aborts (R119 to R123) -/

/-- The active session is aborted with a reason; a pass in progress is recorded as ABORTED (R119 to R124). With no active
session nothing happens. -/
def State.abortSession (reason : AbortReason) (s : State) : State :=
  let x := s.prover.session
  match x.state with
  | .waitDet1 => s.endSession .resultAborted reason 0 0
  | .inPass | .waitStop =>
    State.endSession .resultAborted reason 0 0
      (s.setSession { x with passes := x.passes ++ [x.partialRecord .aborted], pass := .clear })
  | _ => s

/-! ### Events -/

/-- The detector's input of a detector. -/
def Prover.detector (x : Prover) : Detector → DetectorInput
  | .det1 => x.det1
  | .det2 => x.det2

/-- An accepted active edge at a detector's input: its level is high and its reference tick is set (R104). -/
def State.setDetector (s : State) (d : Detector) (x : DetectorInput) : State :=
  match d with
  | .det1 => s.setProver { s.prover with det1 := x }
  | .det2 => s.setProver { s.prover with det2 := x }

/-- The pins after a report that a detector's line, at an accepted level before, is accepted high. -/
def Lines.detectorHigh (l : Lines) (was : Bool) : Detector → Lines
  | .det1 => { l with det1 := l.det1.report was true }
  | .det2 => { l with det2 := l.det2.report was true }

/-- Whether an active edge is a bounce: less than 10 ms after the detector's reference tick (R104). -/
def DetectorInput.isBounce (x : DetectorInput) (t : Tick) : Bool :=
  x.reference.any fun ref => decide (ticksBetween ref t < 100000)

/-- The out-of-order count one higher, saturating at 16 bits (R100, R105). -/
def Session.countOutOfOrder (x : Session) : Session := { x with outOfOrder := satAdd 65535 x.outOfOrder 1 }

/-- A detector event in the session state of its event (the table of R105). -/
def State.detectorEvent (d : Detector) (t : Tick) (s : State) : State :=
  let x := s.prover.session
  match x.state, d with
  | .waitDet1, .det1 => s.beginPass t
  | .waitDet1, .det2 => s.setSession x.countOutOfOrder
  | .inPass, .det2 => s.setSession { x with state := .waitStop, pass := { x.pass with tD2 := t } }
  | .waitStop, .det2 => s.setSession x.countOutOfOrder
  | .inPass, .det1 | .waitStop, .det1 =>
    let s1 := s.recordPass (x.partialRecord .detectorSequence)
    if s1.prover.session.state.isActive then s1.beginPass t else s1
  | _, _ => s

/-- DETECTOR_EVENT: an accepted active edge of a detector (R104, R105). At a detector whose accepted level is high already
the command is an active edge too, the fall before it implied: the model's choice (log entry 29). -/
def execDetectorEvent (d : Detector) (t : Tick) (s : State) : Host.Outcome State Fault Refusal :=
  let x := s.prover.detector d
  let s1 := s.setLines (s.lines.detectorHigh x.level d)
  if x.isBounce t then .next (s1.setDetector d { x with level := true })
  else .next ((s1.setDetector d ⟨true, some t⟩).detectorEvent d t)

/-- PASS_TIMEOUT: the time limit of the pass that began at `tD1` is reached (R113). -/
def execPassTimeout (tD1 : Tick) (s : State) : Host.Outcome State Fault Refusal :=
  let x := s.prover.session
  if (x.state = .inPass ∨ x.state = .waitStop) ∧ x.pass.tD1 = tD1 then
    .next (s.recordPass (x.partialRecord .timeout)).awaitDet1
  else .next s

/-- NO_DETECTOR: the one-second event at the session (R122). -/
def execNoDetector (s : State) : Host.Outcome State Fault Refusal :=
  let x := s.prover.session
  if x.state = .waitDet1 ∧ 300 ≤ secondsBetween x.entryUptime s.uptime then .next (s.abortSession .noDetector)
  else .next s

/-! ### Requests -/

/-- Whether a run may be proved: FLOWING, NORMAL, BV and Kx set (R102 check 3). -/
def State.mayProve (s : State) (r : Run) : Bool :=
  s.isFlowing r && !(s.channels.get r).degraded && s.prover.baseVolume != 0 && (s.totalizers.get r).kx != 0

/-- The session that an accepted PROVE_START sets up (R103). -/
def State.newSession (s : State) (r : Run) (p m l : Nat) (post : Bool) : Session where
  state := .waitDet1
  run := some r
  p := p
  m := m
  l := l
  post := post
  taken := 0
  passes := []
  outOfOrder := 0
  entryUptime := s.uptime
  pass := .clear
  lastSpread := none

/-- PROVE_START's own rule (R102, R103). -/
def State.proveStart (number p m l post : Nat) (s : State) : State × Answer :=
  match runOfNumber number with
  | none => refused .badArgument s
  | some r =>
    if 1 < post then refused .badArgument s
    else if s.prover.session.state.isActive then refused .busy s
    else if !s.mayProve r then refused .wrongState s
    else
      let p' := clamp 2 10 p
      let m' := clamp p' 20 m
      let l' := clamp 10 5000 l
      (s.setSession (s.newSession r p' m' l' (post == 1)), .okWith (field 1 p' ++ field 1 m' ++ field 2 l'))

/-- PROVE_START (R102). -/
def execProveStart (p : Port) (args : List Byte) (s : State) : Host.Outcome State Fault Refusal :=
  .next (takeRequest p Catalogue.proveStart args
    (State.proveStart (argument args 0 1) (argument args 1 1) (argument args 2 1) (argument args 3 2)
      (argument args 5 1)) s)

/-- PROVE_ABORT's own rule (R119). -/
def State.proveAbort (s : State) : State × Answer :=
  if s.prover.session.state.isActive then (s.abortSession .requested, .okWith []) else refused .wrongState s

/-- PROVE_ABORT (R119). -/
def execProveAbort (p : Port) (args : List Byte) (s : State) : Host.Outcome State Fault Refusal :=
  .next (takeRequest p Catalogue.proveAbort args State.proveAbort s)

/-- PROVE_POST's own rule (R126). -/
def State.provePost (number : Nat) (s : State) : State × Answer :=
  match runOfNumber number with
  | none => refused .badArgument s
  | some r =>
    match s.prover.results.get r with
    | none => refused .wrongState s
    | some x =>
      if x.endState ≠ .resultPass ∨ x.posting ≠ .notPosted then refused .wrongState s
      else
        match s.offerResult r x with
        | (_, .notAdmissible) => refused .wrongState s
        | (_, .full) => refused .full s
        | (s1, .posted id) => (s1, .okWith (field 2 id))

/-- PROVE_POST (R126). -/
def execProvePost (p : Port) (args : List Byte) (s : State) : Host.Outcome State Fault Refusal :=
  .next (takeRequest p Catalogue.provePost args (State.provePost (argument args 0 1)) s)

/-- The session's 42 bytes (R127). -/
def State.sessionFields (s : State) : List Byte :=
  let x := s.prover.session
  field 1 (sessionStateCode x.state) ++ field 1 ((x.run.map runNumber).getD 0) ++ field 1 x.p ++ field 1 x.m ++
    field 2 x.l ++ indication x.post ++ field 1 x.taken ++ field 1 x.passes.length ++ field 2 x.outOfOrder ++
    field 4 s.prover.baseVolume ++ tickField x.pass.tD1 ++ indication x.pass.startFound ++ tickField x.pass.tStart ++
    field 4 x.pass.nm ++ tickField x.pass.tD2 ++ secondsField x.entryUptime

/-- A result's 28 bytes, zeros where the run has none (R127). -/
def resultFields (r : Run) : Option ProvingResult → List Byte
  | none => bytesOf 28 0
  | some x => field 1 (runNumber r) ++ indication true ++ field 1 (sessionStateCode x.endState) ++
      field 1 (abortReasonCode x.reason) ++ field 1 x.p ++ field 1 x.taken ++ field 2 x.l ++
      field 4 (x.lastSpread.getD Config.absentSpread) ++ field 4 x.mf ++ field 4 x.freq ++
      field 1 (postingCode x.posting) ++ field 2 x.proposalId ++
      flagsByte [x.lastSpread.isSome, x.largeDeviation, x.post] ++ secondsField x.endUptime

/-- READ_PROVING's own rule (R127). -/
def State.readProving (sel : Nat) (s : State) : State × Answer :=
  if sel = 0 then reads s.sessionFields s
  else
    match runOfNumber sel with
    | none => refused .badArgument s
    | some r => reads (resultFields r (s.prover.results.get r)) s

/-- READ_PROVING (R127). -/
def execReadProving (p : Port) (args : List Byte) (s : State) : Host.Outcome State Fault Refusal :=
  .next (takeRequest p Catalogue.readProving args (State.readProving (argument args 0 1)) s)

/-- A pass record's 34 bytes (R128). -/
def passFields (y : PassRecord) : List Byte :=
  field 1 y.index ++ field 1 (validityCode y.validity) ++ tickField y.tD1 ++ field 4 y.t1 ++ field 4 y.t2 ++
    field 4 y.nm ++ field 6 y.ni ++ field 4 y.mf ++ field 4 y.freq

/-- READ_PASS's own rule (R128). -/
def State.readPass (index : Nat) (s : State) : State × Answer :=
  match if index = 0 then none else s.prover.session.passes[index - 1]? with
  | none => refused .notFound s
  | some y => reads (passFields y) s

/-- READ_PASS (R128). -/
def execReadPass (p : Port) (args : List Byte) (s : State) : Host.Outcome State Fault Refusal :=
  .next (takeRequest p Catalogue.readPass args (State.readPass (argument args 0 1)) s)

end Sys2Proof.Machine
end

