-- ==== Sys2Proof/Machine/Channel.lean ====
section
/-! DEFINITION. Meter pulse inputs (R5 to R24 but for the restore): cycles and their classification, the counts, integrity
blocks, windows, run states, and the channel's commands. -/

namespace Sys2Proof.Machine

/-! ### Classification (R6 to R8) -/

/-- The class of a cycle from its path and whether a step was a double step (the table of R7). -/
def classify (path : List Pair) (double : Bool) : CycleClass :=
  if double then .coincident
  else if path = [⟨true, false⟩, ⟨true, true⟩, ⟨false, true⟩] then .forwardGood
  else if path = [⟨false, true⟩, ⟨true, true⟩, ⟨true, false⟩] then .reverseGood
  else if path = [⟨true, false⟩] then .bMissing
  else if path = [⟨false, true⟩] then .aMissing
  else .incomplete

/-- The direction a cycle's pulse is counted in; none for a cycle that produces no pulse (R7). -/
def countedDirection (cls : CycleClass) (memory : Direction) : Option Direction :=
  match cls with
  | .forwardGood => some .forward
  | .reverseGood => some .reverse
  | .incomplete => none
  | _ => some memory

/-- The direction memory after a cycle: only good cycles set it (R8). -/
def nextDirection (cls : CycleClass) (memory : Direction) : Direction :=
  match cls with
  | .forwardGood => .forward
  | .reverseGood => .reverse
  | _ => memory

/-- The reverse and error counts that a cycle adds to (R7, R9). -/
def cycleFaults (cls : CycleClass) (counted : Option Direction) : FaultCounts where
  reverse := if counted = some .reverse then 1 else 0
  aMissing := if cls = .aMissing then 1 else 0
  bMissing := if cls = .bMissing then 1 else 0
  coincident := if cls = .coincident then 1 else 0
  dither := if cls = .incomplete then 1 else 0

/-- The window counts that a cycle adds to (R9). -/
def cycleCounts (cls : CycleClass) (counted : Option Direction) : WindowCounts :=
  ⟨if counted = some .forward then 1 else 0, cycleFaults cls counted⟩

/-! ### Integrity blocks (R12, R13) -/

/-- A block ends with an error number: judged against E, and both block numbers are 0 (R12). -/
def Channel.endBlock (c : Channel) (errors : Nat) : Channel :=
  { c with degraded := decide (c.limit < errors), blockCycles := 0, blockErrors := 0 }

/-- The event that ends a block; INTEGRITY is raised if the status changes (R12). -/
def State.endBlock (r : Run) (errors : Nat) (s : State) : State :=
  let c := s.channels.get r
  let c1 := c.endBlock errors
  State.raiseIf (c1.degraded != c.degraded) .integrity (s.setChannel r c1)

/-- A classified cycle advances the integrity block, and ends it if it is the block's 1000th (R12). -/
def State.advanceBlock (r : Run) (isError : Bool) (s : State) : State :=
  let c := s.channels.get r
  let errors := c.blockErrors + isError.toNat
  if 1000 ≤ c.blockCycles + 1 then s.endBlock r errors
  else s.setChannel r { c with blockCycles := c.blockCycles + 1, blockErrors := errors }

/-- INTEGRITY_BLOCK_END: the 1000th classified cycle of the run's block, an error cycle or not, ends it (R12). EDGE_EVENT
does the same for the cycle it classifies (log entry 11); with fewer cycles in the block, or the run OFFLINE, no block
ends. -/
def execIntegrityBlockEnd (r : Run) (isError : Bool) (s : State) : Host.Outcome State Fault Refusal :=
  let c := s.channels.get r
  if c.runState ≠ .offline ∧ c.blockCycles = 999 then .next (s.endBlock r (c.blockErrors + isError.toNat))
  else .next s

/-! ### Counting a classified cycle (R9, R11, R22, R23) -/

/-- During RESTORING a cycle goes into the window and the held cumulative counts (R23). -/
def Channel.holdCycle (c : Channel) (w : WindowCounts) : Channel :=
  { c with window := c.window.add w, held := c.held.add w.faults }

/-- While enabled a cycle goes into the window and the cumulative counters (R9). -/
def Channel.countCycle (c : Channel) (w : WindowCounts) : Channel :=
  { c with window := c.window.add w, cumulative := c.cumulative.satAdd max32 w.faults }

/-- While OFFLINE a forward pulse adds to the offline-pulse counter and sets the indication (R22). -/
def Channel.countOffline (c : Channel) (n : Nat) : Channel :=
  { c with offlinePulses := satAdd max32 c.offlinePulses n, offlineSeen := c.offlineSeen || decide (0 < n) }

/-- A classified cycle counted under the state in force (R9, R11, R12, R22, R23). -/
def State.countCycle (r : Run) (cls : CycleClass) (stamp : Tick) (s : State) : State :=
  let c0 := s.channels.get r
  let counted := countedDirection cls c0.direction
  let w := cycleCounts cls counted
  let c := { c0 with direction := nextDirection cls c0.direction }
  if s.isRestoring then s.setChannel r (c.holdCycle w)
  else if c.runState = .offline then
    State.raiseIf (decide (0 < w.pulses) && !c.offlineSeen) .offlinePulses (s.setChannel r (c.countOffline w.pulses))
  else
    let first := decide (0 < w.faults.reverse) && c.window.faults.reverse == 0
    let s1 := State.raiseIf first .reverse (s.setChannel r (c.countCycle w))
    (s1.advanceBlock r cls.isError).proverCycle r cls counted stamp

/-! ### EDGE_EVENT (R5, R6) -/

/-- The run's two pulse lines after a report that their accepted levels went from one pair to another. A line whose level
the report does not change keeps what was last observed on it (R5). -/
def Lines.setPulses (l : Lines) (r : Run) (was now : Pair) : Lines :=
  { l with
    plsA := l.plsA.set r ((l.plsA.get r).report was.a now.a)
    plsB := l.plsB.set r ((l.plsB.get r).report was.b now.b) }

/-- Where the channel stands after an edge event that takes the pair to a new state, and the cycle that the event ends:
its path, whether it holds a double step, and its stamp (R5, R6). -/
def Tracking.edge (t : Tracking) (new : Pair) (double : Bool) (tick : Tick) :
    Tracking × Option (List Pair × Bool × Tick) :=
  match t with
  | .waiting => (if new = .zero then .outside else .waiting, none)
  | .outside => (if new = .zero then .outside else .inCycle tick [new] double, none)
  | .inCycle stamp path d =>
    if new = .zero then (.outside, some (path, d || double, stamp))
    else (.inCycle stamp (path ++ [new]) (d || double), none)

/-- EDGE_EVENT: the pair of accepted levels changes (R5, R6); a cycle it ends is classified and counted (R7 to R9). A
report of the pair already accepted is no change, and nothing happens (log entry 8). -/
def execEdgeEvent (r : Run) (a b : Bool) (tick : Tick) (s : State) : Host.Outcome State Fault Refusal :=
  let c := s.channels.get r
  let new : Pair := ⟨a, b⟩
  if new = c.pair then .next s
  else
    let double := (a != c.pair.a) && (b != c.pair.b)
    let (t, ended) := c.tracking.edge new double tick
    let s1 := (s.setLines (s.lines.setPulses r c.pair new)).setChannel r { c with pair := new, tracking := t }
    match ended with
    | none => .next s1
    | some (path, d, stamp) => .next (s1.countCycle r (classify path d) stamp)

/-! ### Windows (R15 to R18) -/

/-- The frequency history with a window's count: at most ten, oldest first (R15 step 2). -/
def pushHistory (h : List Nat) (n : Nat) : List Nat := (h ++ [n]).drop (h.length + 1 - 10)

/-- The frequency estimate: round(S x 10 / k), 0 while k is 0 (R15 step 3). -/
def estimateFreq (h : List Nat) : Nat := if h = [] then 0 else roundDiv (h.sum * 10) h.length

/-- Steps 1 to 3 of a close: the window is taken, its N enters the history, f is computed; the carried window of the
restore is emptied (R15, R24). -/
def Channel.takeWindow (c : Channel) : Channel :=
  let h := pushHistory c.history c.window.pulses
  { c with window := .zero, carried := .zero, history := h, freq := estimateFreq h }

/-- What a close hands to the totalizer: the live window with the carried one added (R18, R24). -/
def Channel.handedWindow (c : Channel) : WindowCounts := c.carried.add c.window

/-- During RESTORING the window is entered into the history and added to the carried window (R23). -/
def Channel.carryWindow (c : Channel) : Channel :=
  let h := pushHistory c.history c.window.pulses
  { c with window := .zero, carried := c.carried.add c.window, history := h, freq := estimateFreq h }

/-- The run state that a close gives (R17). -/
def Channel.evaluated (c : Channel) : RunState := if c.freq < c.cutoff then .standby else .flowing

/-- The run state set; a change raises RUN_STATE, and a run that leaves FLOWING aborts the session that holds it (R17,
R120). -/
def State.setRunState (r : Run) (x : RunState) (s : State) : State :=
  let c := s.channels.get r
  if c.runState = x then s
  else
    let s1 := (s.setChannel r { c with runState := x }).raise .runState
    if c.runState = .flowing ∧ s1.prover.session.holds r then s1.abortSession .runStopped else s1

/-- A window close at an expiry (R15). -/
def State.closeWindow (r : Run) (s : State) : State :=
  let c := s.channels.get r
  let c1 := c.takeWindow
  let c2 := { c1 with overspeed := decide (25000 < c1.freq) }
  ((s.setChannel r c2).setRunState r c2.evaluated).computeWindow r c2.freq c.handedWindow

/-- WINDOW_EXPIRY: the run's deadline is reached and moved on by 1 000 000 ticks (R2); the channel closes its window
(R15), carries it during RESTORING (R23), or does nothing while OFFLINE. -/
def execWindowExpiry (r : Run) (s : State) : Host.Outcome State Fault Refusal :=
  let c := s.channels.get r
  let c1 := { c with deadline := c.deadline + 1000000 }
  if s.isRestoring then .next (s.setChannel r c1.carryWindow)
  else if c.runState = .offline then .next (s.setChannel r c1)
  else .next ((s.setChannel r c1).closeWindow r)

/-! ### Enabling and disabling (R20, R21) -/

/-- The channel as an enable leaves it, but for the run state (R20 steps 1 to 5). -/
def Channel.enabled (c : Channel) : Channel :=
  { c with
    history := [], freq := 0, window := .zero, direction := .forward, blockCycles := 0, blockErrors := 0,
    overspeed := false, offlineSeen := false }

/-- An enable (R20). A run already enabled is left as it is. -/
def State.enableRun (r : Run) (s : State) : State × Answer :=
  let c := s.channels.get r
  if c.runState ≠ .offline then (s, .okWith [])
  else if (s.totalizers.get r).kx = 0 then refused .wrongState s
  else ((s.setChannel r c.enabled).setRunState r .standby, .okWith [])

/-- The channel after a disable, but for the run state (R21 step 4, R22). -/
def Channel.disabled (c : Channel) : Channel :=
  { c with history := [], freq := 0, overspeed := false, offlineSeen := false }

/-- A disable: the final close, the run OFFLINE, the history emptied (R21). A run already OFFLINE is left as it is. The
hand-off of a carried window not yet handed over is log entry 12. -/
def State.disableRun (r : Run) (s : State) : State × Answer :=
  let c := s.channels.get r
  if c.runState = .offline then (s, .okWith [])
  else
    let c1 := c.takeWindow
    let s1 := ((s.setChannel r c1).computeWindow r c1.freq c.handedWindow).setRunState r .offline
    (s1.setChannel r (s1.channels.get r).disabled, .okWith [])

/-- RUN_ENABLE's own rule (R20, R21). -/
def State.runEnable (number on : Nat) (s : State) : State × Answer :=
  match runOfNumber number with
  | none => refused .badArgument s
  | some r =>
    match on with
    | 0 => s.disableRun r
    | 1 => s.enableRun r
    | _ => refused .badArgument s

/-- RUN_ENABLE (R20). -/
def execRunEnable (p : Port) (args : List Byte) (s : State) : Host.Outcome State Fault Refusal :=
  .next (takeRequest p Catalogue.runEnable args (State.runEnable (argument args 0 1) (argument args 1 1)) s)

/-- RUN_ENABLE_OFF: the RUN_ENABLE frame with on = 0 (R21). -/
def execRunEnableOff (p : Port) (run : Byte) (s : State) : Host.Outcome State Fault Refusal :=
  .next (takeRequest p Catalogue.runEnable [run, 0] (State.runEnable run.toNat 0) s)

/-! ### Settings (R14, R19) -/

/-- SET_CUTOFF's own rule (R19). -/
def State.setCutoff (number hz : Nat) (s : State) : State × Answer :=
  match runOfNumber number with
  | none => refused .badArgument s
  | some r => (s.setChannel r { s.channels.get r with cutoff := clamp 1 1000 hz }, .okWith [])

/-- SET_CUTOFF (R19). -/
def execSetCutoff (p : Port) (args : List Byte) (s : State) : Host.Outcome State Fault Refusal :=
  .next (takeRequest p Catalogue.setCutoff args (State.setCutoff (argument args 0 1) (argument args 1 2)) s)

/-- SET_INTEGRITY_LIMIT's own rule (R14). -/
def State.setIntegrityLimit (number limit : Nat) (s : State) : State × Answer :=
  match runOfNumber number with
  | none => refused .badArgument s
  | some r => (s.setChannel r { s.channels.get r with limit := clamp 0 255 limit }, .okWith [])

/-- SET_INTEGRITY_LIMIT (R14). -/
def execSetIntegrityLimit (p : Port) (args : List Byte) (s : State) : Host.Outcome State Fault Refusal :=
  .next (takeRequest p Catalogue.setIntegrityLimit args
    (State.setIntegrityLimit (argument args 0 1) (argument args 1 2)) s)

end Sys2Proof.Machine
end

