-- ==== Sys2Proof/Machine/Startup.lean ====
section
/-! DEFINITION. Reset and the restore (R24, R34, R35, R50, R61, R78, R82, R97, R101, R132, R160, R190, R191): the commands
RESET and RESTORE_COMPLETE. -/

namespace Sys2Proof.Machine

/-! ### RESET (R190) -/

/-- An input pin after a reset keeps its level and has not been observed (R5, R104, R152). -/
def Line.restart (l : Line) : Line := .unseen l.level

/-- The input pins after a reset. -/
def Lines.restart (l : Lines) : Lines where
  plsA := .ofFn fun r => (l.plsA.get r).restart
  plsB := .ofFn fun r => (l.plsB.get r).restart
  det1 := l.det1.restart
  det2 := l.det2.restart
  rcvhi := l.rcvhi.restart
  pfail := l.pfail.restart
  select := .ofFn fun p => (l.select.get p).restart
  resetN := l.resetN

/-- The store after a reset: its areas and slots keep what carries a marker; a write in progress left none (R184, R185,
R190, R191). -/
def Store.restart (x : Store) : Store :=
  { Store.reset with parameters := x.parameters, checkpoints := x.checkpoints, slots := x.slots }

/-- RESET: every block starts from its reset values, RESTARTED is raised in every port, the store is RESTORING (R183, R190,
R191). -/
def execReset (s : State) : Host.Outcome State Fault Refusal :=
  .next { State.reset with
    lines := s.lines.restart
    store := s.store.restart
    freeIndex := s.freeIndex
    pending := s.pending }

/-! ### What the restore finds (R190) -/

/-- A record put into an ascending list of records. -/
def insertRecord (r : BatchRecord) : List BatchRecord → List BatchRecord
  | [] => [r]
  | q :: rest => if r.seq < q.seq then r :: q :: rest else q :: insertRecord r rest

/-- The marked records of the slots in ascending sequence (R97, R190 step 2). -/
def sortedRecords (slots : List (Option BatchRecord)) : List BatchRecord :=
  (slots.filterMap id).foldr insertRecord []

/-- What the restore reads back: the parameter area, the checkpoint and the marked records, where there are any. -/
structure Found where
  parameters : Option ParameterArea
  checkpoint : Option CheckpointArea
  records    : List BatchRecord
deriving DecidableEq, Repr

/-- What a restore finds in the store (R190 steps 1 to 3). -/
def Store.found (x : Store) : Found where
  parameters := x.parameters.newest.map Marked.contents
  checkpoint := x.checkpoints.newest.map Marked.contents
  records := sortedRecords x.slots

/-- The Kx a run is restored with (R190 step 1). -/
def Found.kx (f : Found) (r : Run) : Nat := (f.parameters.map fun a => a.kx.get r).getD 0

/-- The points a run's curve is restored with (R50). -/
def Found.curve (f : Found) (r : Run) : List CurvePoint := (f.parameters.map fun a => a.curves.get r).getD []

/-- The newest retained record (R34, R78). -/
def Found.newest (f : Found) : Option BatchRecord := f.records.getLast?

/-- A run's part of the checkpoint where there is none (R24, R34). -/
def RunCheckpoint.absent : RunCheckpoint where
  total := .zero
  rollover := .zero
  indicatedRemainder := 0
  grossRemainder := 0
  kx := 0
  cumulative := .zero
  offlinePulses := 0
  enabled := false
  cutoff := 20
  limit := 10
  unbatched := .zero
  unbatchedSaturated := false

/-- A run's part of the checkpoint restored, or the values without one (R24, R34). -/
def Found.run (f : Found) (r : Run) : RunCheckpoint := (f.checkpoint.map fun a => a.runs.get r).getD .absent

/-- A run's cumulative totals: from the checkpoint, or from the newest record, or zero (R34). -/
def Found.total (f : Found) (r : Run) : Triple :=
  match f.checkpoint with
  | some a => (a.runs.get r).total
  | none => (f.newest.map fun x => (x.runs.get r).closing).getD .zero

/-- A run's totalizer restored (R34, R35). -/
def Found.totalizer (f : Found) (r : Run) : Totalizer :=
  let k := f.run r
  let kx := f.kx r
  let same := decide (kx ≠ 0 ∧ kx = k.kx)
  { kx := kx
    indicatedRemainder := if same then k.indicatedRemainder else 0
    grossRemainder := if same then k.grossRemainder else 0
    total := f.total r
    rollover := k.rollover
    unbatched := k.unbatched
    unbatchedSaturated := k.unbatchedSaturated
    curveStatus := if f.curve r = [] then .noCurve else .belowCurve
    lastMf := none
    curveChanged := false }

/-! ### The channels settle (R24) -/

/-- Whether a run is restored as enabled (R24). -/
def Found.enables (f : Found) (r : Run) : Bool := (f.run r).enabled && f.kx r != 0

/-- A channel of a run restored as enabled, but for its run state (R24). -/
def Channel.settleEnabled (c : Channel) (k : RunCheckpoint) : Channel :=
  { c with
    cumulative := k.cumulative.satAdd max32 c.held, held := .zero, offlinePulses := k.offlinePulses,
    blockCycles := 0, blockErrors := 0, degraded := false, overspeed := false, offlineSeen := false,
    cutoff := k.cutoff, limit := k.limit }

/-- The forward pulses a channel held since reset (R24). -/
def Channel.heldPulses (c : Channel) : Nat := c.carried.pulses + c.window.pulses

/-- A channel of a run restored as disabled (R24). -/
def Channel.settleDisabled (c : Channel) (k : RunCheckpoint) : Channel :=
  let c1 := { c with
    cumulative := k.cumulative, held := .zero, window := .zero, carried := .zero, history := [], freq := 0,
    blockCycles := 0, blockErrors := 0, degraded := false, overspeed := false, offlineSeen := false,
    runState := .offline, offlinePulses := k.offlinePulses, cutoff := k.cutoff, limit := k.limit }
  c1.countOffline c.heldPulses

/-- A run's channel settled, with its start-up events (R24). -/
def State.settleChannel (f : Found) (s : State) (r : Run) : State :=
  let c := s.channels.get r
  if f.enables r then
    State.raiseIf (decide (0 < c.carried.faults.reverse)) .reverse
      ((s.setChannel r { c.settleEnabled (f.run r) with runState := .standby }).raise .runState)
  else
    State.raiseIf (decide (0 < c.heldPulses)) .offlinePulses (s.setChannel r (c.settleDisabled (f.run r)))

/-! ### The batch, the history and the sampler (R78, R82, R97, R160) -/

/-- The open batch of the checkpoint, if it is not stale (R82). -/
def Found.batch (f : Found) : Option OpenBatch :=
  f.checkpoint.bind fun a =>
    if f.records.all (fun x => decide (x.seq < a.batchSeq)) then
      a.batch.map fun b => { b with flags := { b.flags with powerInterrupted := true } }
    else none

/-- The batch sequence counter restored (R78). -/
def Found.batchSeq (f : Found) : Nat :=
  max ((f.checkpoint.map CheckpointArea.batchSeq).getD 1) ((f.newest.map fun x => x.seq + 1).getD 1)

/-- The ring rebuilt from up to 24 of the newest records, all RETAINED (R97, R190 step 2). -/
def Found.ring (f : Found) : List RingEntry :=
  (f.records.drop (f.records.length - 24)).map fun x => ⟨x, .retained⟩

/-- The history restored: every cursor at the oldest record, or at the counter when the ring is empty (R97). -/
def Found.history (f : Found) : History :=
  let oldest := ((f.ring.head?).map fun e => e.record.seq).getD f.batchSeq
  ⟨f.ring, .all oldest, .all 0⟩

/-- The grab counts of a resumed batch: the own grabs that were pending are added to missed for OVERFLOW (R160). -/
def Found.grabs (f : Found) : GrabCounts :=
  match f.checkpoint, f.batch with
  | some a, some _ => { a.grabs with overflow := a.grabs.overflow + a.ownPending }
  | _, _ => .zero

/-- A restored: the checkpoint's value where it recorded the setup as set, the restored setup is set, and the value is
below G (R160). -/
def Found.volume (f : Found) (u : Option SamplerSetup) : Nat :=
  match f.checkpoint, u with
  | some a, some u => if a.setupSet ∧ a.volume < u.interval then a.volume else 0
  | _, _ => 0

/-- The fill restored: the checkpoint's, at most C (R160). -/
def Found.fill (f : Found) (u : Option SamplerSetup) : Nat :=
  let fill := (f.checkpoint.map CheckpointArea.fill).getD 0
  match u with
  | some u => min fill u.capacity
  | none => fill

/-- The sampler restored, before fullness is evaluated (R160). -/
def Found.sampler (f : Found) (rcvhi : Bool) : Sampler :=
  let setup := f.parameters.bind ParameterArea.setup
  let low := (f.checkpoint.map CheckpointArea.activeLow).getD false
  { setup := setup, volume := f.volume setup, pendingGrabs := [], output := .idle, activeLow := low,
    width := (f.checkpoint.map CheckpointArea.width).getD 100, hold := false, fill := f.fill setup, full := false,
    counts := f.grabs, rcvhi := rcvhi, grabLine := some low }

/-! ### RESTORE_COMPLETE (R190) -/

/-- The RETENTION occurrences that announce what was lost (R190 steps 1 and 3). -/
def Found.announce (f : Found) (s : State) : State :=
  let s1 := if f.parameters.isNone then s.raiseRetention .parametersLost else s
  if f.checkpoint.isSome then s1
  else if f.records = [] then s1.raiseRetention .totalsLost
  else s1.raiseRetention .totalsFromRecord

/-- Every block but the channels takes its restored state, and the store is READY (R190). -/
def State.takeRestored (f : Found) (s : State) : State :=
  { s with
    totalizers := .ofFn f.totalizer
    curves := .ofFn f.curve
    queue := (f.checkpoint.map CheckpointArea.queue).getD []
    batch := f.batch
    batchSeq := f.batchSeq
    history := f.history
    prover := { s.prover with baseVolume := (f.parameters.map ParameterArea.baseVolume).getD 0 }
    control := { ChangeControl.reset with
      nextId := (f.checkpoint.map CheckpointArea.nextId).getD 1
      changeCount := (f.parameters.map ParameterArea.changeCount).getD 0 }
    sampler := f.sampler s.sampler.rcvhi
    store := { s.store with status := .ready, periodicRef := s.uptime } }

/-- The restore completion event (R190): the blocks take their restored state and settle, the losses are announced, a
CHECKPOINT is requested if none was found, and an active PFAIL is acted on (R188). A warning of RESTORING whose PFAIL is
inactive again by now is not acted on, as R190 has it and R188 does not: the model's choice (log entry 31). -/
def State.completeRestore (s : State) : State :=
  let f := s.store.found
  let s1 := (allRuns.foldl (State.settleChannel f) (s.takeRestored f)).evaluateFull
  let s2 := f.announce s1
  let s3 := if f.checkpoint.isNone then s2.requestCheckpoint else s2
  if s3.store.pfailActive then s3.actOnPowerFail else s3

/-- RESTORE_COMPLETE: the store leaves RESTORING (R190). A store that is not RESTORING has no restore to complete, and
nothing happens (log entry 8). -/
def execRestoreComplete (s : State) : Host.Outcome State Fault Refusal :=
  if s.isRestoring then .next s.completeRestore else .next s

end Sys2Proof.Machine
end

