-- ==== Sys2Proof/Machine/Clock.lean ====
section
/-! DEFINITION. One tick of REFCLK (R1): what the part does when no command waits. The tick counter advances, every line
is observed (R5, R104, R152, R163, R188), and the commands that fall due join the queue: accepted edges, and the events
whose tick is reached (R2, R3, R113, R154, R186, R190). Log entries 2 to 7. -/

namespace Sys2Proof.Machine

/-! ### Observing a line -/

/-- Whether the level observed at this tick was observed at the tick before: two consecutive observations (R5). -/
def Line.stable (l : Line) : Bool := l.seen == some l.level

/-- A line after this tick's observation. -/
def Line.observe (l : Line) : Line := { l with seen := some l.level, settled := l.settled || l.stable }

/-- The accepted level after this tick's observation. -/
def Line.accept (l : Line) (accepted : Bool) : Bool := if l.stable then l.level else accepted

/-- The pins after this tick's observations. -/
def Lines.observe (l : Lines) : Lines where
  plsA := .ofFn fun r => (l.plsA.get r).observe
  plsB := .ofFn fun r => (l.plsB.get r).observe
  det1 := l.det1.observe
  det2 := l.det2.observe
  rcvhi := l.rcvhi.observe
  pfail := l.pfail.observe
  select := .ofFn fun p => (l.select.get p).observe
  resetN := l.resetN

/-! ### The first accepted levels (R5, R104, R152, R163) -/

/-- Whether both lines of a run had a first level accepted before this tick. -/
def Lines.pairSettled (l : Lines) (r : Run) : Bool := (l.plsA.get r).settled && (l.plsB.get r).settled

/-- The pair state of a run after this tick's observations. -/
def Lines.pairNow (l : Lines) (r : Run) (accepted : Pair) : Pair :=
  ⟨(l.plsA.get r).accept accepted.a, (l.plsB.get r).accept accepted.b⟩

/-- A channel whose lines take their first accepted levels at this tick: no edge is produced, and once both have one the
channel is outside a cycle, or waits for 00 (R5). -/
def Channel.firstLevels (c : Channel) (l : Lines) (r : Run) : Channel :=
  if l.pairSettled r then c
  else
    let p := l.pairNow r c.pair
    let both := (l.plsA.get r).observe.settled && (l.plsB.get r).observe.settled
    { c with pair := p, tracking := if both then (if p = .zero then .outside else .waiting) else c.tracking }

/-- A detector line at this tick: a first level and a fall are accepted without an event; a rise is left to its event
(R104). -/
def DetectorInput.follow (x : DetectorInput) (l : Line) : DetectorInput :=
  if l.settled then { x with level := x.level && l.accept x.level } else { x with level := l.accept x.level }

/-- The blocks' accepted levels that change at this tick without an event. -/
def State.followLines (s : State) : State :=
  let l := s.lines
  { s with
    channels := .ofFn fun r => (s.channels.get r).firstLevels l r
    prover := { s.prover with det1 := s.prover.det1.follow l.det1, det2 := s.prover.det2.follow l.det2 }
    sampler := { s.sampler with
      rcvhi := if s.isRestoring ∧ l.rcvhi.settled = false then l.rcvhi.accept s.sampler.rcvhi else s.sampler.rcvhi }
    ports := .ofFn fun p =>
      let x := s.ports.get p
      { x with selectSeenHigh := x.selectSeenHigh || (l.select.get p).accept false } }

/-! ### Events of the lines -/

/-- The edge event of a run's pair accepted at this tick; its tick is that of the first of the two observations (R5). -/
def State.edgeDue (s : State) (now : Tick) (r : Run) : List Instr :=
  let new := s.lines.pairNow r (s.channels.get r).pair
  if s.lines.pairSettled r ∧ new ≠ (s.channels.get r).pair then [.edgeEvent r new.a new.b (now - 1)] else []

/-- The active edge of a detector accepted at this tick (R104). -/
def detectorDue (d : Detector) (l : Line) (x : DetectorInput) (now : Tick) : List Instr :=
  if l.settled ∧ l.stable ∧ l.level ∧ x.level = false then [.detectorEvent d (now - 1)] else []

/-- The change of RCVHI accepted at this tick (R152). A first level accepted after a restore that ended before it is
handed on as a change, so that fullness follows it (log entry 7). -/
def State.rcvhiDue (s : State) : List Instr :=
  let l := s.lines.rcvhi
  if (l.settled ∨ s.isRestoring = false) ∧ l.stable ∧ l.level ≠ s.sampler.rcvhi then [.rcvhiChange l.level] else []

/-- The change of PFAIL, active low, accepted at this tick (R188, R189). -/
def State.pfailDue (s : State) : List Instr :=
  let l := s.lines.pfail
  if l.stable then
    if l.level = false ∧ s.store.pfailActive = false then [.powerFailWarning]
    else if l.level ∧ s.store.pfailActive then [.powerFailClear]
    else []
  else []

/-- The change of a port's select line accepted at this tick: a fall begins a transaction, a rise ends it, and the frame
it carried is read (R163 to R165). -/
def State.selectDue (s : State) (p : Port) : List Instr :=
  let l := s.lines.select.get p
  let x := s.ports.get p
  if l.stable then
    match x.transaction with
    | .idle => if l.level = false ∧ x.selectSeenHigh then [.transactionBegin p] else []
    | .selected bits _ => if l.level then [decodeFrame p bits] else []
  else []

/-! ### Events of the clock -/

/-- The window expiry of a run at its deadline (R2). -/
def State.windowDue (s : State) (now : Tick) (r : Run) : List Instr :=
  if (s.channels.get r).deadline = now then [.windowExpiry r] else []

/-- The one-second event, and what the other blocks do at it (R3, R122, R144, R187). -/
def State.secondDue (s : State) (now : Tick) : List Instr :=
  if s.nextSecond = now then [.oneSecondEvent, .proposalExpiry, .noDetector, .periodicCheckpoint] else []

/-- The end of the current grab pulse or gap (R154). -/
def State.grabDue (s : State) (now : Tick) : List Instr :=
  match s.sampler.output with
  | .idle => []
  | .pulse e => if e = now then [.pulseEnd] else []
  | .gap e => if e = now then [.gapEnd] else []

/-- The time limit of the pass in progress (R113). -/
def State.timeoutDue (s : State) (now : Tick) : List Instr :=
  let x := s.prover.session
  if (x.state = .inPass ∨ x.state = .waitStop) ∧ x.pass.tD1 + 600000000 = now then [.passTimeout x.pass.tD1] else []

/-- The completion of the job in progress (R186). -/
def State.jobDue (s : State) (now : Tick) : List Instr :=
  match s.store.writing with
  | none => []
  | some w => if w.endsAt = now then [.jobComplete] else []

/-- The restore completion event, at a tick that a free value picks, at the latest at tick 1 500 000 (R190). -/
def State.restoreDue (s : State) (now : Tick) : List Instr :=
  if s.isRestoring ∧ (1500000 ≤ now.toNat ∨ Config.restoreEndsNow s.freeIndex) then [.restoreComplete] else []

/-! ### The order of events of one tick -/

/-- A list with an element put at a place. -/
def putAt {α : Type} : Nat → α → List α → List α
  | _, x, [] => [x]
  | 0, x, l => x :: l
  | n + 1, x, y :: l => y :: putAt n x l

/-- Events put into an order that free values pick: each is put at a free place among those before it. Empty events fall
out. -/
def interleave (base : Nat) : List (List Instr) → List (List Instr) → List (List Instr)
  | [], placed => placed
  | [] :: rest, placed => interleave base rest placed
  | e :: rest, placed =>
    interleave (base + 1) rest
      (putAt (if placed = [] then 0 else Config.sameTickPlace base % (placed.length + 1)) e placed)

/-- The events whose tick is the one before: edges accepted by two observations (R5, R104). -/
def State.edgesDue (s : State) (now : Tick) : List (List Instr) :=
  allRuns.map (s.edgeDue now) ++
    [detectorDue .det1 s.lines.det1 s.prover.det1 now, detectorDue .det2 s.lines.det2 s.prover.det2 now]

/-- The events of this tick. -/
def State.clockDue (s : State) (now : Tick) : List (List Instr) :=
  allRuns.map (s.windowDue now) ++
    [s.secondDue now, s.grabDue now, s.timeoutDue now, s.jobDue now, s.restoreDue now, s.rcvhiDue, s.pfailDue] ++
    allPorts.map s.selectDue

/-- The commands that a tick puts into the queue, those of the tick before first (log entry 4). An edge is known only at the
second observation, so its command joins at the tick after the one it carries: a window expiry, or a RUN_ENABLE taken, at
the edge's own tick always comes before the classification. R10 lets either be first; the model takes the one order (DESIGN
CHOICE, log entry 4). -/
def State.dueCommands (s : State) (now : Tick) : List Instr :=
  let edges := s.edgesDue now
  let clock := s.clockDue now
  (interleave (s.freeIndex + 1) edges []).flatten ++
    (interleave (s.freeIndex + 1 + edges.length) clock []).flatten

/-- How many free values a tick may read. -/
def ticksFreeValues : Nat := 24

/-- One tick of REFCLK. While RESETn is low the part is held in reset (R190). -/
def State.tickClock (s : State) : State :=
  if s.lines.resetN then
    let now := s.tick + 1
    { s.followLines with
      tick := now
      lines := s.lines.observe
      freeIndex := s.freeIndex + ticksFreeValues
      pending := s.dueCommands now }
  else { s with pending := [.reset] }

end Sys2Proof.Machine
end

