-- ==== Sys2Proof/Machine/Concur.lean ====
section
/-! DEFINITION. Concurrence (R137, R139 to R143): the application of a proposal at its owner, its books, supersession, and
the command CONCUR. -/

namespace Sys2Proof.Machine

/-! ### The owners (R140) -/

/-- A K_FACTOR at its owners: the totalizer, and a session on the run (R43, R121). -/
def State.ownKFactor (r : Run) (kx : Nat) (s : State) : State :=
  let s1 := s.applyKFactor r kx
  if s1.prover.session.holds r then s1.abortSession .paramChanged else s1

/-- A PROVER_VOLUME at its owner: BV is set and an active session is aborted (R101, R121). -/
def State.ownProverVolume (bv : Nat) (s : State) : State :=
  State.abortSession .paramChanged (s.setProver { s.prover with baseVolume := bv })

/-- A curve change at its owner: the curve takes it and the run's curve-changed mark is set, or it fails (R51). -/
def State.ownCurve (r : Run) (changed : Except FailureReason (List CurvePoint)) (s : State) :
    State × Option FailureReason :=
  match changed with
  | .ok points => ((s.setCurve r points).markCurveChanged r, none)
  | .error reason => (s, some reason)

/-- The kind and arguments handed to their owner, with the failure it reports, if any (R140). -/
def State.applyChange (c : Change) (s : State) : State × Option FailureReason :=
  match c with
  | .kFactor r kx => (s.ownKFactor r kx, none)
  | .mfPoint r f m => s.ownCurve r (applyPoint ⟨f, m⟩ (s.curves.get r))
  | .mfPointDelete r f => s.ownCurve r (deletePoint f (s.curves.get r))
  | .proverVolume bv => (s.ownProverVolume bv, none)
  | .samplerSetup g size cap => (s.applySetup ⟨g, size, cap⟩, none)

/-! ### Supersession (R143) -/

/-- The run and frequency of a point change (R143). -/
def Change.point : Change → Option (Run × Nat)
  | .mfPoint r f _ => some (r, f)
  | .mfPointDelete r f => some (r, f)
  | _ => none

/-- Whether an OPEN proposal of one change is superseded by an applied one of another (the table of R143). -/
def supersedes (applied other : Change) : Bool :=
  match applied, other with
  | .kFactor r _, .kFactor q _ => r == q
  | .proverVolume _, .proverVolume _ => true
  | .samplerSetup .., .samplerSetup .. => true
  | _, _ =>
    match applied.point, other.point with
    | some (r, f), some (q, g) => r == q && inBand f g
    | _, _ => false

/-- Whether a slot's proposal is superseded by the applied one (R143). -/
def slotSuperseded (x : Proposal) (slot : Option Proposal) : Bool :=
  slot.any fun p => p.isOpen && p.id != x.id && supersedes x.change p.change

/-- A slot after the supersession by the applied proposal (R143). -/
def supersedeSlot (x : Proposal) (now : Seconds) (slot : Option Proposal) : Option Proposal :=
  if slotSuperseded x slot then slot.map fun p => p.endAs (.superseded x.id) now else slot

/-! ### Application (R139, R141) -/

/-- The custody change count one higher, saturating (R147). -/
def ChangeControl.countChange (c : ChangeControl) : ChangeControl :=
  { c with changeCount := satAdd max32 c.changeCount 1 }

/-- A proposal whose second custody verdict has become CONCUR is applied (R139 to R143). -/
def State.applyProposal (slot : Nat) (x : Proposal) (s : State) : State :=
  let (s1, failure) := s.applyChange x.change
  match failure with
  | some reason => (s1.putProposal slot (x.endAs (.failed reason) s1.uptime)).raise .proposal
  | none =>
    let s2 := s1.setControl s1.control.countChange
    let s3 := (s2.putProposal slot (x.endAs (.applied s2.control.changeCount) s2.uptime)).requestParameters
    let superseded := s3.control.slots.countP (slotSuperseded x)
    State.raiseTimes .proposal (1 + superseded)
      (s3.setControl { s3.control with slots := s3.control.slots.map (supersedeSlot x s3.uptime) })

/-- CONCUR's answer: the proposal's state and failure reason after the event, and the custody change count (R137). -/
def State.concurAnswer (s : State) (id : Nat) : Answer :=
  let state := ((s.control.find id).map fun x => x.2.state).getD .opened
  .okWith (field 2 id ++ field 1 (proposalStateCode state) ++ field 1 (failureCode state) ++
    field 4 s.control.changeCount)

/-- CONCUR's own rule (R137): the port's verdict is CONCUR, and the proposal is applied if the other custody port's is
too. -/
def State.concur (p : Port) (id : Nat) (s : State) : State × Answer :=
  match s.checkVerdict p id with
  | .error status => refused status s
  | .ok (slot, x) =>
    let y := x.setVerdict .concur p
    let s1 := s.putProposal slot y
    let s2 := if y.oprVerdict = .concur ∧ y.witVerdict = .concur then s1.applyProposal slot y else s1
    (s2, s2.concurAnswer id)

/-- CONCUR (R137). -/
def execConcur (p : Port) (args : List Byte) (s : State) : Host.Outcome State Fault Refusal :=
  .next (takeRequest p Catalogue.concur args (State.concur p (argument args 0 2)) s)

end Sys2Proof.Machine
end

