-- ==== Sys2Proof/Machine/Events.lean ====
section
/-! DEFINITION. The commands of the event flags (R179 to R182): READ_EVENTS, TOP_EVENT, CLEAR_EVENTS, SET_LEVEL and
SET_THRESHOLD. Each acts on the requesting port alone. -/

namespace Sys2Proof.Machine

/-- The flags word: bit n for class n (R179). -/
def flagsWord (events : ClassMap EventEntry) : Nat :=
  (allClasses.map fun c => if (events.get c).flag then 2 ^ classNumber c else 0).sum

/-- The retention causes byte (R179). -/
def causesByte (x : RetentionCauses) : List Byte :=
  flagsByte [x.powerWarning, x.parametersLost, x.totalsFromRecord, x.totalsLost, x.recordNotRetained]

/-- READ_EVENTS's 33 bytes (R179). -/
def PortState.eventFields (x : PortState) : List Byte :=
  field 2 (flagsWord x.events) ++ allClasses.flatMap (fun c => field 1 (x.events.get c).count) ++
    allClasses.flatMap (fun c => field 1 (x.events.get c).level) ++ field 1 x.threshold ++ indication x.alertLow ++
    causesByte x.causes

/-- READ_EVENTS (R179). -/
def execReadEvents (p : Port) (args : List Byte) (s : State) : Host.Outcome State Fault Refusal :=
  .next (takeRequest p Catalogue.readEvents args (fun s => reads (s.ports.get p).eventFields s) s)

/-- The more pressing of the best class so far and the next: a strictly higher level wins, so the lowest number stands
among equals (R180). -/
def pressing (events : ClassMap EventEntry) (best : Option EventClass) (c : EventClass) : Option EventClass :=
  let e := events.get c
  if e.flag = false ∨ e.level = 0 then best
  else
    match best with
    | none => some c
    | some b => if (events.get b).level < e.level then some c else some b

/-- The most pressing class among the set flags of level 1 or more (R180). -/
def topClass (events : ClassMap EventEntry) : Option EventClass := allClasses.foldl (pressing events) none

/-- TOP_EVENT's four bytes (R180). -/
def PortState.topFields (x : PortState) : List Byte :=
  match topClass x.events with
  | none => field 1 255 ++ field 1 0 ++ field 1 0 ++ indication x.alertLow
  | some c => field 1 (classNumber c) ++ field 1 (x.events.get c).level ++ field 1 (x.events.get c).count ++
      indication x.alertLow

/-- TOP_EVENT (R180). -/
def execTopEvent (p : Port) (args : List Byte) (s : State) : Host.Outcome State Fault Refusal :=
  .next (takeRequest p Catalogue.topEvent args (fun s => reads (s.ports.get p).topFields s) s)

/-- A port's flag set with the classes of a mask cleared: flags and counts, and with RETENTION the cause set; ALERT is
evaluated afresh (R178, R181). -/
def PortState.clearClasses (mask : Nat) (x : PortState) : PortState :=
  PortState.evaluateAlert { x with
    events := .ofFn fun c =>
      let e := x.events.get c
      if mask.testBit (classNumber c) then { e with flag := false, count := 0 } else e
    causes := if mask.testBit (classNumber .retention) then .none else x.causes }

/-- CLEAR_EVENTS's own rule (R181). -/
def State.clearEvents (p : Port) (mask : Nat) (s : State) : State × Answer :=
  if mask.testBit 14 || mask.testBit 15 then refused .badArgument s
  else
    let x := (s.ports.get p).clearClasses mask
    (s.setPort p x, .okWith (field 2 (flagsWord x.events)))

/-- CLEAR_EVENTS (R181). -/
def execClearEvents (p : Port) (args : List Byte) (s : State) : Host.Outcome State Fault Refusal :=
  .next (takeRequest p Catalogue.clearEvents args (State.clearEvents p (argument args 0 2)) s)

/-- SET_LEVEL's own rule (R182). -/
def State.setLevel (p : Port) (number level : Nat) (s : State) : State × Answer :=
  match classOfNumber number with
  | none => refused .badArgument s
  | some c =>
    let x := s.ports.get p
    let l := clamp 0 7 level
    (s.setPort p (PortState.evaluateAlert { x with events := x.events.set c { x.events.get c with level := l } }),
      .okWith (field 1 number ++ field 1 l))

/-- SET_LEVEL (R182). -/
def execSetLevel (p : Port) (args : List Byte) (s : State) : Host.Outcome State Fault Refusal :=
  .next (takeRequest p Catalogue.setLevel args (State.setLevel p (argument args 0 1) (argument args 1 1)) s)

/-- SET_THRESHOLD's own rule (R182). -/
def State.setThreshold (p : Port) (threshold : Nat) (s : State) : State × Answer :=
  let t := clamp 1 7 threshold
  let x := PortState.evaluateAlert { s.ports.get p with threshold := t }
  (s.setPort p x, .okWith (field 1 t ++ indication x.alertLow))

/-- SET_THRESHOLD (R182). -/
def execSetThreshold (p : Port) (args : List Byte) (s : State) : Host.Outcome State Fault Refusal :=
  .next (takeRequest p Catalogue.setThreshold args (State.setThreshold p (argument args 0 1)) s)

end Sys2Proof.Machine
end

