-- ==== Sys2Proof/Machine/Ports.lean ====
section
/-! DEFINITION. The serial ports (R162 to R166, R169, R173, R174): transactions, malformed and unknown frames, and the
requests NOP and IDENTIFY. -/

namespace Sys2Proof.Machine

/-! ### Shifting (R163, R166) -/

/-- The bytes of a response: status, echo code, data length, data (R166). -/
def Response.bytes (x : Response) : List Byte := statusCode x.status :: x.echo :: BitVec.ofNat 8 x.data.length :: x.data

/-- The bit of a byte that travels in a place, the most significant first (R163). -/
def byteBit (b : Byte) (place : Nat) : Bool := b.getLsbD (7 - place)

/-- The bit of a place in what a port shifts out: its response, then 0xFF for every further byte (R166). -/
def Response.bit (x : Response) (place : Nat) : Bool := byteBit (x.bytes[place / 8]?.getD 0xFF) (place % 8)

/-- TRANSACTION_BEGIN: an accepted fall of the select line (R163). A port that has not accepted its select line high since
reset begins none, and one already SELECTED cannot see such a fall (log entry 8). -/
def execTransactionBegin (p : Port) (s : State) : Host.Outcome State Fault Refusal :=
  let x := s.ports.get p
  if x.selectSeenHigh ∧ x.transaction = .idle then
    .next ({ s with lines := { s.lines with
        select := s.lines.select.set p ((s.lines.select.get p).report true false) } }.setPort p
      { x with transaction := .selected [] 0, sdo := some (x.response.bit 0) })
  else .next s

/-- SCK_EDGE: while SELECTED, a rising edge takes in a bit from SDI and a falling edge shifts the next bit onto SDO
(R163). -/
def execSckEdge (p : Port) (edge : SckEdge) (s : State) : Host.Outcome State Fault Refusal :=
  let x := s.ports.get p
  match x.transaction, edge with
  | .idle, _ => .next s
  | .selected bits n, .rising sdi => .next (s.setPort p { x with transaction := .selected (bits ++ [sdi]) n })
  | .selected bits n, .falling =>
    .next (s.setPort p { x with transaction := .selected bits (n + 1), sdo := some (x.response.bit (n + 1)) })

/-- FRAME_ERROR: a transaction that is not well formed ends; during RESTORING too (R165). -/
def execFrameError (p : Port) (first : Option Byte) (s : State) : Host.Outcome State Fault Refusal :=
  .next (s.respond p (first.getD 0) (.refuse .frameError))

/-- UNKNOWN_REQUEST: a well-formed frame whose code is not in the catalogue; STARTING during RESTORING (R169 steps 1
and 2). -/
def execUnknownRequest (p : Port) (code : Byte) (s : State) : Host.Outcome State Fault Refusal :=
  .next (s.respond p code (.refuse (if s.isRestoring then .starting else .unknownRequest)))

/-- NOP (R173). -/
def execNop (p : Port) (args : List Byte) (s : State) : Host.Outcome State Fault Refusal :=
  .next (takeRequest p Catalogue.nop args (fun s => reads [] s) s)

/-- IDENTIFY's 15 bytes (R174). -/
def identityFields (p : Port) : List Byte :=
  field 2 0x0C04 ++ field 1 1 ++ field 1 (portNumber p) ++ field 1 4 ++ field 1 8 ++ field 1 8 ++ field 1 24 ++
    field 1 28 ++ field 1 6 ++ field 1 20 ++ field 1 4 ++ field 1 14 ++ field 1 60 ++ field 1 64

/-- IDENTIFY (R174). -/
def execIdentify (p : Port) (args : List Byte) (s : State) : Host.Outcome State Fault Refusal :=
  .next (takeRequest p Catalogue.identify args (fun s => reads (identityFields p) s) s)

end Sys2Proof.Machine
end

