-- ==== Sys2Proof/Machine/Time.lean ====
section
/-! DEFINITION. The time base's commands (R3, R4, R175): ONE_SECOND_EVENT, SET_TIME and READ_TIME. -/

namespace Sys2Proof.Machine

/-- ONE_SECOND_EVENT: the uptime rises by one, and the station time if it is set; the next such event is 10 000 000 ticks
later (R3, R4). What other blocks do at this event are the commands PROPOSAL_EXPIRY, NO_DETECTOR and
PERIODIC_CHECKPOINT. -/
def execOneSecondEvent (s : State) : Host.Outcome State Fault Refusal :=
  .next { s with
    uptime := s.uptime + 1
    stationTime := if s.stationSet then s.stationTime + 1 else s.stationTime
    nextSecond := s.nextSecond + 10000000 }

/-- SET_TIME (R4). -/
def execSetTime (p : Port) (args : List Byte) (s : State) : Host.Outcome State Fault Refusal :=
  .next (takeRequest p Catalogue.setTime args
    (fun s => ({ s with stationTime := BitVec.ofNat 32 (argument args 0 4), stationSet := true }, .okWith [])) s)

/-- READ_TIME's 15 bytes (R175). -/
def State.timeFields (s : State) : List Byte :=
  tickField s.tick ++ secondsField s.uptime ++ secondsField (if s.stationSet then s.stationTime else 0) ++
    flagsByte [s.stationSet]

/-- READ_TIME (R175). -/
def execReadTime (p : Port) (args : List Byte) (s : State) : Host.Outcome State Fault Refusal :=
  .next (takeRequest p Catalogue.readTime args (fun s => reads s.timeFields s) s)

end Sys2Proof.Machine
end

