-- ==== Sys2Proof/Machine/Dispatch.lean ====
section
/-! DEFINITION. The command table: one arm per command, each one call of its meaning. -/

namespace Sys2Proof.Machine

/-- The effect of a command on everything but the queue. -/
def exec (i : Instr) (s : State) : Host.Outcome State Fault Refusal :=
  match i with
  | .reset => Sys2Proof.Machine.execReset s
  | .restoreComplete => Sys2Proof.Machine.execRestoreComplete s
  | .edgeEvent run a b tick => Sys2Proof.Machine.execEdgeEvent run a b tick s
  | .integrityBlockEnd run isError => Sys2Proof.Machine.execIntegrityBlockEnd run isError s
  | .windowExpiry run => Sys2Proof.Machine.execWindowExpiry run s
  | .pulseEnd => Sys2Proof.Machine.execPulseEnd s
  | .gapEnd => Sys2Proof.Machine.execGapEnd s
  | .rcvhiChange level => Sys2Proof.Machine.execRcvhiChange level s
  | .oneSecondEvent => Sys2Proof.Machine.execOneSecondEvent s
  | .proposalExpiry => Sys2Proof.Machine.execProposalExpiry s
  | .noDetector => Sys2Proof.Machine.execNoDetector s
  | .periodicCheckpoint => Sys2Proof.Machine.execPeriodicCheckpoint s
  | .detectorEvent detector tick => Sys2Proof.Machine.execDetectorEvent detector tick s
  | .passTimeout tD1 => Sys2Proof.Machine.execPassTimeout tD1 s
  | .jobComplete => Sys2Proof.Machine.execJobComplete s
  | .powerFailWarning => Sys2Proof.Machine.execPowerFailWarning s
  | .powerFailClear => Sys2Proof.Machine.execPowerFailClear s
  | .frameError port first => Sys2Proof.Machine.execFrameError port first s
  | .unknownRequest port code => Sys2Proof.Machine.execUnknownRequest port code s
  | .nop port args => Sys2Proof.Machine.execNop port args s
  | .identify port args => Sys2Proof.Machine.execIdentify port args s
  | .readTime port args => Sys2Proof.Machine.execReadTime port args s
  | .readEvents port args => Sys2Proof.Machine.execReadEvents port args s
  | .topEvent port args => Sys2Proof.Machine.execTopEvent port args s
  | .clearEvents port args => Sys2Proof.Machine.execClearEvents port args s
  | .setLevel port args => Sys2Proof.Machine.execSetLevel port args s
  | .setThreshold port args => Sys2Proof.Machine.execSetThreshold port args s
  | .readRun port args => Sys2Proof.Machine.execReadRun port args s
  | .readTotals port args => Sys2Proof.Machine.execReadTotals port args s
  | .readCurve port args => Sys2Proof.Machine.execReadCurve port args s
  | .runEnable port args => Sys2Proof.Machine.execRunEnable port args s
  | .runEnableOff port run => Sys2Proof.Machine.execRunEnableOff port run s
  | .setCutoff port args => Sys2Proof.Machine.execSetCutoff port args s
  | .setIntegrityLimit port args => Sys2Proof.Machine.execSetIntegrityLimit port args s
  | .readBatch port args => Sys2Proof.Machine.execReadBatch port args s
  | .readQueue port args => Sys2Proof.Machine.execReadQueue port args s
  | .planAdd port args => Sys2Proof.Machine.execPlanAdd port args s
  | .planRemove port args => Sys2Proof.Machine.execPlanRemove port args s
  | .planClear port args => Sys2Proof.Machine.execPlanClear port args s
  | .batchOpen port args => Sys2Proof.Machine.execBatchOpen port args s
  | .batchClose port args => Sys2Proof.Machine.execBatchClose port args s
  | .readRecord port args => Sys2Proof.Machine.execReadRecord port args s
  | .findParcel port args => Sys2Proof.Machine.execFindParcel port args s
  | .setCursor port args => Sys2Proof.Machine.execSetCursor port args s
  | .readProving port args => Sys2Proof.Machine.execReadProving port args s
  | .readPass port args => Sys2Proof.Machine.execReadPass port args s
  | .proveStart port args => Sys2Proof.Machine.execProveStart port args s
  | .proveAbort port args => Sys2Proof.Machine.execProveAbort port args s
  | .provePost port args => Sys2Proof.Machine.execProvePost port args s
  | .readProposal port args => Sys2Proof.Machine.execReadProposal port args s
  | .propose port args => Sys2Proof.Machine.execPropose port args s
  | .concur port args => Sys2Proof.Machine.execConcur port args s
  | .reject port args => Sys2Proof.Machine.execReject port args s
  | .withdraw port args => Sys2Proof.Machine.execWithdraw port args s
  | .readSampler port args => Sys2Proof.Machine.execReadSampler port args s
  | .samplerHold port args => Sys2Proof.Machine.execSamplerHold port args s
  | .samplerOutput port args => Sys2Proof.Machine.execSamplerOutput port args s
  | .receiverSwap port args => Sys2Proof.Machine.execReceiverSwap port args s
  | .setTime port args => Sys2Proof.Machine.execSetTime port args s
  | .transactionBegin port => Sys2Proof.Machine.execTransactionBegin port s
  | .sckEdge port edge => Sys2Proof.Machine.execSckEdge port edge s

end Sys2Proof.Machine
end

