-- ==== Sys2Proof/Safety.lean ====
section
/-! DEFINITION. What a sound state is, block by block: the invariants that the rules state of the part, each a predicate
of a state. Where a restore can bring a value back, the predicate also speaks of what the retention store holds. No state
that a run from reset reaches violates one. -/

namespace Sys2Proof.Machine

/-! ### What the retention store holds -/

/-- Every marked copy of an area has a property. -/
def Copies.every {α : Type} (P : α → Prop) (c : Copies α) : Prop :=
  (∀ m, c.first = some m → P m.contents) ∧ (∀ m, c.second = some m → P m.contents)

/-- Every parameter area that the store holds or is writing has a property. -/
def Store.everyParameters (P : ParameterArea → Prop) (x : Store) : Prop :=
  x.parameters.every P ∧ ∀ w m b, x.writing = some w → w.payload = .parameters m b → P m.contents

/-- Every checkpoint that the store holds or is writing has a property. -/
def Store.everyCheckpoint (P : CheckpointArea → Prop) (x : Store) : Prop :=
  x.checkpoints.every P ∧ ∀ w m b, x.writing = some w → w.payload = .checkpoint m b → P m.contents

/-- Every record that the ring or the store holds, waits to write or is writing has a property. -/
def State.everyRecord (P : BatchRecord → Prop) (s : State) : Prop :=
  (∀ e ∈ s.history.ring, P e.record) ∧ (∀ r, some r ∈ s.store.slots → P r) ∧
    (∀ r, Job.record r ∈ s.store.queue → P r) ∧ ∀ w r, s.store.writing = some w → w.payload = .record r → P r

/-! ### Event flags and ALERT lines (R177, R178) -/

/-- A class's entry: a count of 0 to 255, a level of 0 to 7, and a flag that is set exactly while something has been
counted (R177, R181). -/
def EventEntry.legal (e : EventEntry) : Prop := e.count ≤ max8 ∧ e.level ≤ 7 ∧ e.flag = decide (0 < e.count)

/-- A port's flag set: legal entries, a threshold of 1 to 7, and an ALERT line that is low exactly while some set flag's
level is at or above the threshold (R177, R178). -/
def PortState.eventsLegal (x : PortState) : Prop :=
  (∀ c, (x.events.get c).legal) ∧ 1 ≤ x.threshold ∧ x.threshold ≤ 7 ∧
    (x.alertLow = true ↔ ∃ c, (x.events.get c).flag = true ∧ x.threshold ≤ (x.events.get c).level)

/-- Every port's flag set is legal. -/
def State.eventsLegal (s : State) : Prop := ∀ p, (s.ports.get p).eventsLegal

/-! ### Meter pulse inputs (R9, R12, R14, R15, R19, R22) -/

/-- Every one of five counts is at most a bound. -/
def FaultCounts.atMost (n : Nat) (x : FaultCounts) : Prop :=
  x.reverse ≤ n ∧ x.aMissing ≤ n ∧ x.bMissing ≤ n ∧ x.coincident ≤ n ∧ x.dither ≤ n

/-- A channel within its ranges: block numbers 0 to 999, at most ten counts in the history, f their mean rate, E at most
255, a cutoff of 1 to 1000 Hz, and counters of 32 bits. -/
def Channel.legal (c : Channel) : Prop :=
  c.blockCycles ≤ 999 ∧ c.blockErrors ≤ c.blockCycles ∧ c.history.length ≤ 10 ∧ c.freq = estimateFreq c.history ∧
    c.limit ≤ 255 ∧ 1 ≤ c.cutoff ∧ c.cutoff ≤ 1000 ∧ c.cumulative.atMost max32 ∧ c.offlinePulses ≤ max32

/-- What a checkpoint brings back to a channel lies within its ranges. -/
def RunCheckpoint.channelLegal (k : RunCheckpoint) : Prop :=
  k.limit ≤ 255 ∧ 1 ≤ k.cutoff ∧ k.cutoff ≤ 1000 ∧ k.cumulative.atMost max32 ∧ k.offlinePulses ≤ max32

/-- Every channel is within its ranges. -/
def State.channelsLegal (s : State) : Prop :=
  (∀ r, (s.channels.get r).legal) ∧ s.store.everyCheckpoint fun a => ∀ r, (a.runs.get r).channelLegal

/-! ### Totals (R30 to R33, R41, R66) -/

/-- Every one of three figures is below a bound. -/
def Triple.below (n : Nat) (x : Triple) : Prop := x.pulses < n ∧ x.indicated < n ∧ x.gross < n

/-- Eight accumulators of 32 bits (R41). -/
def Accumulators.legal (x : Accumulators) : Prop := x.volume.below (max32 + 1) ∧ x.faults.atMost max32

/-- Remainders below their divisors; 0 while Kx is unset (R30, R31, R34). -/
def remaindersLegal (kx indicated gross : Nat) : Prop :=
  (kx = 0 → indicated = 0 ∧ gross = 0) ∧ (kx ≠ 0 → indicated < kx ∧ gross < kx * 1000000)

/-- A run's totalizer within its ranges: totals below 10^12, rollover counts of 8 bits, remainders below their divisors,
accumulators of 32 bits. -/
def Totalizer.legal (t : Totalizer) : Prop :=
  t.total.below totalModulus ∧ t.rollover.below (max8 + 1) ∧
    remaindersLegal t.kx t.indicatedRemainder t.grossRemainder ∧ t.unbatched.legal

/-- The running batch gross that the batch accumulators make (R66). -/
def OpenBatch.grossSum (b : OpenBatch) : Nat := (allRuns.map fun r => (b.acc.get r).main.volume.gross).sum

/-- The open batch's figures: accumulators within their sizes, 0 for a run outside the run set, and the running batch
gross their sum (R41, R66). -/
def OpenBatch.figuresLegal (b : OpenBatch) : Prop :=
  (∀ r, (b.acc.get r).main.legal ∧ (b.acc.get r).outsideCurve ≤ max32 ∧ (b.acc.get r).mfChanges ≤ max8) ∧
    (∀ r, inRunSet b.plan.runSet r = false → b.acc.get r = .zero) ∧ b.runningGross = b.grossSum

/-- What a checkpoint brings back to a run's totalizer lies within its ranges. -/
def RunCheckpoint.totalsLegal (k : RunCheckpoint) : Prop :=
  k.total.below totalModulus ∧ k.rollover.below (max8 + 1) ∧
    remaindersLegal k.kx k.indicatedRemainder k.grossRemainder ∧ k.unbatched.legal

/-- What a checkpoint brings back to the totalizer and the open batch lies within its ranges. -/
def CheckpointArea.totalsLegal (a : CheckpointArea) : Prop :=
  (∀ r, (a.runs.get r).totalsLegal) ∧ ∀ b, a.batch = some b → b.figuresLegal

/-- Every total, remainder and accumulator is within its range, an enabled run has its Kx set (R20, R24), and what a
restore may take totals from is within range too. -/
def State.totalsLegal (s : State) : Prop :=
  (∀ r, (s.totalizers.get r).legal) ∧
    (∀ r, (s.channels.get r).runState ≠ .offline → (s.totalizers.get r).kx ≠ 0) ∧
    (∀ b, s.batch = some b → b.figuresLegal) ∧ s.store.everyCheckpoint CheckpointArea.totalsLegal ∧
    s.everyRecord fun x => ∀ r, ((x.runs.get r).closing).below totalModulus

/-! ### Batches (R60, R61, R66) -/

/-- A plan with every field in its range (R60). -/
def Plan.legal (p : Plan) : Prop :=
  1 ≤ p.parcel ∧ p.parcel ≤ max32 ∧ 1 ≤ p.grade ∧ p.grade ≤ 255 ∧ p.target ≤ max32 ∧ p.preTarget ≤ max32 ∧
    p.runSet ≠ 0 ∧ 1 ≤ p.repeatCount ∧ p.repeatCount ≤ 255 ∧ (p.mode ≠ .repeating → p.repeatCount = 1)

/-- A queue and an open batch: at most 8 legal plans, no parcel id twice among them and the open batch, and the repeats of
the open batch accounted for (R61, R66). -/
def plansLegal (queue : List Plan) (batch : Option OpenBatch) : Prop :=
  queue.length ≤ 8 ∧ (queue.map Plan.parcel).Nodup ∧ (∀ p ∈ queue, p.legal) ∧
    ∀ b, batch = some b → b.plan.legal ∧ b.plan.parcel ∉ queue.map Plan.parcel ∧ 1 ≤ b.repeatIndex ∧
      1 ≤ b.repeatsRemaining ∧ b.repeatIndex + b.repeatsRemaining = b.plan.repeatCount + 1

/-- The queue and the open batch are legal, and so is what a restore may bring back. -/
def State.plansLegal (s : State) : Prop :=
  Machine.plansLegal s.queue s.batch ∧ s.store.everyCheckpoint fun a => Machine.plansLegal a.queue a.batch

/-! ### History (R84, R87, R185) -/

/-- The record slots: 28 of them, each record in the slot of its sequence number (R185). -/
def slotsLegal (slots : List (Option BatchRecord)) : Prop :=
  slots.length = 28 ∧ ∀ i r, slots[i]? = some (some r) → slotOf r.seq = i

/-- The ring holds at most 24 records in strictly ascending sequence, all below the batch sequence counter; every cursor
names a record of the ring or the end E; lost counts are of 8 bits; every record slot holds its own record (R84, R87,
R185). -/
def State.historyLegal (s : State) : Prop :=
  s.history.ring.length ≤ 24 ∧ s.history.seqs.Pairwise (· < ·) ∧ (∀ q ∈ s.history.seqs, q < s.batchSeq) ∧
    (∀ p, s.history.cursors.get p ∈ s.history.seqs ∨ s.history.cursors.get p = s.endSeq) ∧
    (∀ p, s.history.lost.get p ≤ max8) ∧ slotsLegal s.store.slots

/-! ### Proving (R100, R102, R112, R115, R116) -/

/-- A factor within the custody range (00_scope.md, Conventions). -/
def legalFactor (m : Nat) : Prop := 900000 ≤ m ∧ m ≤ 1100000

/-- A pass record that reads VALID passed every test of R112 that its figures show. -/
def PassRecord.legal (y : PassRecord) : Prop :=
  y.validity = .valid → 500000 ≤ y.t1 ∧ 2 ≤ y.nm ∧ legalFactor y.mf

/-- The session within its ranges: an active one has a run, clamped parameters, fewer passes taken than M and a record for
each; the list never outgrows 20 records (R100, R102, R115, R123). -/
def Session.legal (x : Session) : Prop :=
  (x.state.isActive = true → x.run.isSome ∧ 2 ≤ x.p ∧ x.p ≤ 10 ∧ x.p ≤ x.m ∧ x.m ≤ 20 ∧ 10 ≤ x.l ∧ x.l ≤ 5000 ∧
    x.taken < x.m ∧ x.passes.length = x.taken) ∧
    x.passes.length ≤ 20 ∧ x.outOfOrder ≤ 65535 ∧ ∀ y ∈ x.passes, y.legal

/-- The session is within its ranges. -/
def State.sessionLegal (s : State) : Prop := s.prover.session.legal

/-! ### Custody parameters (R44, R48, R101, R129, R149) -/

/-- Kx: unset, or 1 000 to 99 999 999. -/
def legalKx (kx : Nat) : Prop := kx = 0 ∨ (1000 ≤ kx ∧ kx ≤ 99999999)

/-- A point of a curve (R48). -/
def CurvePoint.legal (p : CurvePoint) : Prop := 1 ≤ p.freq ∧ p.freq ≤ 50000 ∧ legalFactor p.mf

/-- A curve: at most 8 points, in strictly ascending frequency (R48). -/
def legalCurve (l : List CurvePoint) : Prop :=
  l.length ≤ 8 ∧ l.Pairwise (fun p q => p.freq < q.freq) ∧ ∀ p ∈ l, p.legal

/-- BV: unset, or 20 000 to 5 000 000 ml (R101). -/
def legalBase (bv : Nat) : Prop := bv = 0 ∨ (20000 ≤ bv ∧ bv ≤ 5000000)

/-- G, S and C (R129, R149). -/
def SamplerSetup.legal (u : SamplerSetup) : Prop :=
  1 ≤ u.interval ∧ u.interval ≤ 1000000 ∧ 1 ≤ u.size ∧ u.size ≤ 100 ∧ 100 ≤ u.capacity ∧ u.capacity ≤ 100000 ∧
    u.size ≤ u.capacity

/-- The arguments of a proposal (R129). -/
def Change.legal : Change → Prop
  | .kFactor _ kx => 1000 ≤ kx ∧ kx ≤ 99999999
  | .mfPoint _ f m => CurvePoint.legal ⟨f, m⟩
  | .mfPointDelete _ f => 1 ≤ f ∧ f ≤ 50000
  | .proverVolume bv => 20000 ≤ bv ∧ bv ≤ 5000000
  | .samplerSetup g size c => SamplerSetup.legal ⟨g, size, c⟩

/-- The custody parameters, unset or within their ranges, with their change count of 32 bits (R147). -/
def ParameterArea.legal (a : ParameterArea) : Prop :=
  (∀ r, legalKx (a.kx.get r)) ∧ (∀ r, legalCurve (a.curves.get r)) ∧ legalBase a.baseVolume ∧
    (∀ u, a.setup = some u → u.legal) ∧ a.changeCount ≤ max32

/-- Every custody parameter is unset or within its range, in the blocks that own it, in the store, in every proposal, and
in every proved factor that may still be posted. -/
def State.custodyLegal (s : State) : Prop :=
  s.captureParameters.legal ∧ s.store.everyParameters ParameterArea.legal ∧
    (∀ p, some p ∈ s.control.slots → p.change.legal) ∧
    ∀ r x, s.prover.results.get r = some x → x.endState = .resultPass → legalFactor x.mf

/-! ### Change control (R130 to R132, R135, R139) -/

/-- A proposal's verdicts in its state: an OPEN one has no REJECT and not both CONCUR; one APPLIED or FAILED has both
CONCUR; a REJECTED one has a REJECT; and only a PROVER proposal carries LARGE_DEVIATION (R130, R135, R138, R139, R141). -/
def Proposal.legal (p : Proposal) : Prop :=
  (p.largeDeviation = true → p.originator = .prover) ∧
    match p.state with
    | .opened => p.oprVerdict ≠ .reject ∧ p.witVerdict ≠ .reject ∧ ¬(p.oprVerdict = .concur ∧ p.witVerdict = .concur)
    | .applied _ => p.oprVerdict = .concur ∧ p.witVerdict = .concur
    | .failed _ => p.oprVerdict = .concur ∧ p.witVerdict = .concur
    | .rejected => p.oprVerdict = .reject ∨ p.witVerdict = .reject
    | _ => True

/-- An id (R130). -/
def legalId (i : Nat) : Prop := 1 ≤ i ∧ i ≤ 65535

/-- The table has six slots and no id twice; the counter's next id is not one that the table holds; every proposal's
verdicts agree with its state (R130 to R132, R139). -/
def State.tableLegal (s : State) : Prop :=
  s.control.slots.length = 6 ∧ s.control.ids.Nodup ∧ (∀ i ∈ s.control.ids, legalId i) ∧ legalId s.control.nextId ∧
    s.control.nextId ∉ s.control.ids ∧ (∀ p, some p ∈ s.control.slots → p.legal) ∧
    s.store.everyCheckpoint fun a => legalId a.nextId

/-! ### Sampler (R149, R151, R152, R158) -/

/-- Grabs due equal grabs issued plus grabs missed plus own grabs pending (R158). -/
def GrabCounts.accounted (c : GrabCounts) (own : Nat) : Prop := c.due = c.issued + c.hold + c.full + c.overflow + own

/-- At most four grabs wait; the fill does not pass C; outside RESTORING the full indication is what R152 says it is; every
grab that fell due is accounted for, in the open batch, in every checkpoint and in every record; with no batch open the
counts are 0 and no pending grab is marked own. -/
def State.samplerLegal (s : State) : Prop :=
  s.sampler.pendingGrabs.length ≤ 4 ∧ (∀ u, s.sampler.setup = some u → s.sampler.fill ≤ u.capacity) ∧
    (s.isRestoring = false → s.sampler.full = s.sampler.isFull) ∧
    s.sampler.counts.accounted (ownGrabs s.sampler.pendingGrabs) ∧
    (s.batch = none → s.sampler.counts = .zero ∧ ownGrabs s.sampler.pendingGrabs = 0) ∧
    s.store.everyCheckpoint (fun a => a.batch ≠ none → a.grabs.accounted a.ownPending) ∧
    s.everyRecord fun x => x.grabs.accounted x.pendingGrabs

/-! ### Retention store (R186, R188) -/

/-- Whether what is being written is what a job writes. -/
def Payload.belongsTo : Payload → Job → Prop
  | .parameters _ _, .parameters => True
  | .checkpoint _ _, .checkpoint => True
  | .record r, .record q => r = q
  | _, _ => False

/-- The write queue holds at most 4 jobs and its first is the one being written; READY, HALTED and RESTORING have an empty
queue; HALTED only under the power-fail indication, and that only while PFAIL is active (R186, R188, R189). -/
def State.storeLegal (s : State) : Prop :=
  s.store.queue.length ≤ 4 ∧
    (s.store.status = .writing →
      ∃ j rest w, s.store.queue = j :: rest ∧ s.store.writing = some w ∧ w.payload.belongsTo j) ∧
    (s.store.status ≠ .writing → s.store.queue = [] ∧ s.store.writing = none) ∧
    (s.store.status = .halted → s.store.powerFail = true) ∧
    (s.store.status = .restoring → s.store.powerFail = false) ∧
    (s.store.powerFail = true → s.store.pfailActive = true)

/-- Every record in a slot, in a waiting job or being written has a sequence number below the batch sequence counter, and a
store that is RESTORING has no job (R78, R185, R186, R190). -/
def State.recordsLegal (s : State) : Prop :=
  (s.isRestoring = true → s.store.queue = [] ∧ s.store.writing = none) ∧
    (s.isRestoring = false → ∀ r, some r ∈ s.store.slots → r.seq < s.batchSeq) ∧
    (∀ r, Job.record r ∈ s.store.queue → r.seq < s.batchSeq) ∧
    ∀ w r, s.store.writing = some w → w.payload = .record r → r.seq < s.batchSeq

/-! ### The values of reset (R1 to R4, R8, R13, R100, R104, R124, R131, R156, R160, R162, R163, R177, R183, R186, R190, R191) -/

/-- A state holds every value that the rules state for the moment after a reset. -/
def State.atReset (t : State) : Prop :=
  (t.tick = 0 ∧ t.nextSecond = 10000000 ∧ t.uptime = 0 ∧ t.stationTime = 0 ∧ t.stationSet = false) ∧
  ((t.channels.get .run1).deadline = 1000000 ∧ (t.channels.get .run2).deadline = 1250000 ∧
    (t.channels.get .run3).deadline = 1500000 ∧ (t.channels.get .run4).deadline = 1750000) ∧
  (∀ r, (t.channels.get r).direction = .forward ∧ (t.channels.get r).window = .zero ∧
    (t.channels.get r).carried = .zero ∧ (t.channels.get r).held = .zero ∧ (t.channels.get r).degraded = false ∧
    (t.channels.get r).blockCycles = 0 ∧ (t.channels.get r).blockErrors = 0 ∧ (t.channels.get r).history = [] ∧
    (t.channels.get r).freq = 0 ∧ (t.channels.get r).overspeed = false ∧ (t.channels.get r).runState = .offline ∧
    t.curves.get r = [] ∧ t.prover.results.get r = none) ∧
  (t.prover.session = .reset ∧ t.prover.det1.reference = none ∧ t.prover.det2.reference = none ∧
    t.control.slots = List.replicate 6 none) ∧
  (t.sampler.pendingGrabs = [] ∧ t.sampler.output = .idle ∧ t.sampler.hold = false ∧ t.sampler.grabLine = none ∧
    t.sampler.counts = .zero) ∧
  (∀ p, (t.ports.get p).transaction = .idle ∧ (t.ports.get p).sdo = none ∧
    (t.ports.get p).selectSeenHigh = false ∧ (t.ports.get p).response = ⟨.none, 0x00, []⟩ ∧
    (∀ c, (t.ports.get p).events.get c = if c = .restarted then ⟨true, 1, 7⟩ else ⟨false, 0, 4⟩) ∧
    (t.ports.get p).threshold = 1 ∧ (t.ports.get p).causes = .none ∧ (t.ports.get p).alertLow = true ∧
    t.history.lost.get p = 0) ∧
  (t.store.status = .restoring ∧ t.store.queue = [] ∧ t.store.writing = none ∧ t.store.owedParameters = false ∧
    t.store.owedCheckpoint = false ∧ t.store.powerFail = false)

/-! ### What a window hand-off does (R25 to R33, R36 to R41) -/

/-- The argument byte that names a run (00_scope.md, Conventions). -/
def runByte (r : Run) : Byte := BitVec.ofNat 8 (runNumber r)

/-- The window computation's mark on the totalizer: N pulses handed over at frequency f leave run r with the factor and
status looked up, the remainders and the totals of R30, R31 and R33; the other runs' figures stay. -/
def handOff (s t : State) (r : Run) (f n : Nat) : Prop :=
  let x := s.totalizers.get r
  let y := t.totalizers.get r
  let mf := (lookupCurve (s.curves.get r) f).1
  let ri := x.indicatedRemainder + n * 1000000
  let rg := x.grossRemainder + n * 1000000 * mf
  let dI := ri / x.kx
  let dG := rg / (x.kx * 1000000)
  y.kx = x.kx ∧ y.indicatedRemainder = ri % x.kx ∧ y.grossRemainder = rg % (x.kx * 1000000) ∧
  y.total = ⟨(x.total.pulses + n) % 1000000000000, (x.total.indicated + dI) % 1000000000000,
    (x.total.gross + dG) % 1000000000000⟩ ∧
  y.rollover = ⟨if 1000000000000 ≤ x.total.pulses + n then min (x.rollover.pulses + 1) 255 else x.rollover.pulses,
    if 1000000000000 ≤ x.total.indicated + dI then min (x.rollover.indicated + 1) 255 else x.rollover.indicated,
    if 1000000000000 ≤ x.total.gross + dG then min (x.rollover.gross + 1) 255 else x.rollover.gross⟩ ∧
  y.lastMf = some mf ∧ y.curveStatus = (lookupCurve (s.curves.get r) f).2 ∧ y.curveChanged = false ∧
  ∀ q, q ≠ r →
    t.totalizers.get q = { s.totalizers.get q with
      unbatched := (t.totalizers.get q).unbatched, unbatchedSaturated := (t.totalizers.get q).unbatchedSaturated }

/-- The litres of gross volume that a hand-off of N pulses at frequency f gives (R31). -/
def grossOf (s : State) (r : Run) (f n : Nat) : Nat :=
  ((s.totalizers.get r).grossRemainder + n * 1000000 * (lookupCurve (s.curves.get r) f).1) /
    ((s.totalizers.get r).kx * 1000000)

/-- The litres of indicated volume that a hand-off of N pulses gives (R30). -/
def indicatedOf (s : State) (r : Run) (n : Nat) : Nat :=
  ((s.totalizers.get r).indicatedRemainder + n * 1000000) / (s.totalizers.get r).kx

/-- The frequency that a close of the run's window computes (R15 steps 2 and 3). -/
def closingFreq (s : State) (r : Run) : Nat :=
  let h := pushHistory (s.channels.get r).history (s.channels.get r).window.pulses
  roundDiv (h.sum * 10) h.length

/-- The pulses that a close of the run's window hands over: those of the live window and, at the first close after a
restore, those of the carried one (R18, R24). -/
def closingPulses (s : State) (r : Run) : Nat :=
  (s.channels.get r).carried.pulses + (s.channels.get r).window.pulses

/-- The gross litres that a close of the run's window gives. -/
def closingGross (s : State) (r : Run) : Nat := grossOf s r (closingFreq s r) (closingPulses s r)

/-- A run that is enabled, outside RESTORING. -/
def State.enabled (s : State) (r : Run) : Prop :=
  s.isRestoring = false ∧ (s.channels.get r).runState ≠ .offline

/-- The five counts of the closing window, the carried window's added (R18, R24). -/
def closingFaults (s : State) (r : Run) : FaultCounts :=
  let c := s.channels.get r
  { reverse := c.carried.faults.reverse + c.window.faults.reverse
    aMissing := c.carried.faults.aMissing + c.window.faults.aMissing
    bMissing := c.carried.faults.bMissing + c.window.faults.bMissing
    coincident := c.carried.faults.coincident + c.window.faults.coincident
    dither := c.carried.faults.dither + c.window.faults.dither }

/-- Eight accumulators after the closing window of a run, each stopping at 4 294 967 295 (R37, R40, R41). -/
def tookWindow (s : State) (r : Run) (x y : Accumulators) : Prop :=
  let w := closingFaults s r
  y.volume.pulses = min (x.volume.pulses + closingPulses s r) 4294967295 ∧
  y.volume.indicated = min (x.volume.indicated + indicatedOf s r (closingPulses s r)) 4294967295 ∧
  y.volume.gross = min (x.volume.gross + closingGross s r) 4294967295 ∧
  y.faults.reverse = min (x.faults.reverse + w.reverse) 4294967295 ∧
  y.faults.aMissing = min (x.faults.aMissing + w.aMissing) 4294967295 ∧
  y.faults.bMissing = min (x.faults.bMissing + w.bMissing) 4294967295 ∧
  y.faults.coincident = min (x.faults.coincident + w.coincident) 4294967295 ∧
  y.faults.dither = min (x.faults.dither + w.dither) 4294967295

/-- Some of the eight sums would exceed 4 294 967 295 (R41). -/
def overflowsWindow (s : State) (r : Run) (x : Accumulators) : Prop :=
  let w := closingFaults s r
  4294967295 < x.volume.pulses + closingPulses s r ∨
  4294967295 < x.volume.indicated + indicatedOf s r (closingPulses s r) ∨
  4294967295 < x.volume.gross + closingGross s r ∨
  4294967295 < x.faults.reverse + w.reverse ∨ 4294967295 < x.faults.aMissing + w.aMissing ∨
  4294967295 < x.faults.bMissing + w.bMissing ∨ 4294967295 < x.faults.coincident + w.coincident ∨
  4294967295 < x.faults.dither + w.dither

/-- The closing window of a run went into its unbatched accumulators, and into nothing else beside its own totalizer: the
mark is set exactly if it was set or some of the eight saturates (R36, R40, R41). -/
def wentUnbatched (s t : State) (r : Run) : Prop :=
  tookWindow s r (s.totalizers.get r).unbatched (t.totalizers.get r).unbatched ∧
  ((t.totalizers.get r).unbatchedSaturated = true ↔
    (s.totalizers.get r).unbatchedSaturated = true ∨ overflowsWindow s r (s.totalizers.get r).unbatched) ∧
  (∀ q, q ≠ r → t.totalizers.get q = s.totalizers.get q) ∧
  t.batch = s.batch ∧ t.batchSeq = s.batchSeq ∧ t.queue = s.queue ∧ t.history = s.history ∧ t.sampler = s.sampler ∧
  t.store = s.store

/-- What the batch gross of a run takes of its closing window (R41, R70). -/
def grossTaken (s : State) (r : Run) (b : OpenBatch) : Nat :=
  min ((b.acc.get r).main.volume.gross + closingGross s r) 4294967295 - (b.acc.get r).main.volume.gross

/-- The closing window of a run went into its accumulators in the open batch `b`, which is `c` then: SATURATED is set exactly
if it was set or a batch accumulator saturates (R36 to R39, R41, R70). The flag PRE_TARGET_REACHED is left open. -/
def wentIntoBatch (s : State) (r : Run) (b c : OpenBatch) : Prop :=
  let x := b.acc.get r
  let y := c.acc.get r
  let found := lookupCurve (s.curves.get r) (closingFreq s r)
  let outside := if found.2 = .inRange then 0 else closingGross s r
  tookWindow s r x.main y.main ∧
  y.outsideCurve = min (x.outsideCurve + outside) 4294967295 ∧
  y.mfChanges = min (x.mfChanges + (if (s.totalizers.get r).curveChanged = true ∧
    (∃ m, (s.totalizers.get r).lastMf = some m ∧ m ≠ found.1) then 1 else 0)) 255 ∧
  (∀ q, q ≠ r → c.acc.get q = b.acc.get q) ∧
  c.runningGross = b.runningGross + grossTaken s r b ∧
  (c.flags.saturated = true ↔
    b.flags.saturated = true ∨ overflowsWindow s r x.main ∨ 4294967295 < x.outsideCurve + outside) ∧
  c = { b with acc := c.acc, runningGross := c.runningGross, flags := { b.flags with
    saturated := c.flags.saturated, preTargetReached := c.flags.preTargetReached } }

/-! ### Figures that fit in the fields that report them (R166) -/

/-- Every one of three figures fits in so many bits. -/
def Triple.fits (bits : Nat) (x : Triple) : Prop := x.below (2 ^ bits)

/-- A channel whose figures fit in READ_RUN's fields (R46). -/
def Channel.fits (c : Channel) : Prop :=
  c.legal ∧ c.freq < 2 ^ 32 ∧ c.window.pulses < 2 ^ 32 ∧ c.window.faults.reverse < 2 ^ 32

/-- A totalizer whose figures fit in READ_RUN's and READ_TOTALS's fields (R45, R47). -/
def Totalizer.fits (t : Totalizer) : Prop :=
  t.legal ∧ t.kx ≤ 99999999 ∧ ∀ m, t.lastMf = some m → m ≤ 1100000

/-- An open batch whose figures fit in READ_BATCH's fields (R83). -/
def OpenBatch.fits (b : OpenBatch) : Prop :=
  b.plan.legal ∧ b.figuresLegal ∧ b.repeatIndex ≤ 255 ∧ b.repeatsRemaining ≤ 255 ∧ b.changeCountAtOpen ≤ max32 ∧
    ∀ r, (b.opening.get r).below totalModulus ∧ (b.preceding.get r).indicated ≤ max32 ∧ (b.preceding.get r).gross ≤ max32

/-- A run's part whose figures fit in the record layout (R86). -/
def RunPart.fits (x : RunPart) : Prop :=
  x.volume.fits 32 ∧ x.outsideCurve < 2 ^ 32 ∧ x.preceding.indicated < 2 ^ 32 ∧ x.preceding.gross < 2 ^ 32 ∧
    x.faults.atMost max8 ∧ x.mfChanges ≤ max8 ∧ x.weightedMf < 2 ^ 24 ∧ x.opening.fits 40 ∧ x.closing.fits 40

/-- A record whose figures fit in the record layout (R86). -/
def BatchRecord.fits (x : BatchRecord) : Prop :=
  x.seq < 2 ^ 32 ∧ x.parcel < 2 ^ 32 ∧ x.grade < 2 ^ 8 ∧ x.repeatIndex < 2 ^ 8 ∧ x.target < 2 ^ 32 ∧
    x.overshoot < 2 ^ 32 ∧ x.changesOpen < 2 ^ 32 ∧ x.changesClose < 2 ^ 32 ∧ x.grabs.due < 2 ^ 32 ∧
    x.grabs.issued < 2 ^ 32 ∧ x.grabs.hold < 2 ^ 32 ∧ x.grabs.full < 2 ^ 32 ∧ x.grabs.overflow < 2 ^ 32 ∧
    x.pendingGrabs < 2 ^ 8 ∧ x.grabs.carriedIn < 2 ^ 8 ∧ x.fill < 2 ^ 32 ∧ ∀ r, (x.runs.get r).fits

/-- A prover controller whose session fits in READ_PROVING's fields (R127). -/
def Prover.fits (x : Prover) : Prop :=
  x.session.p ≤ 255 ∧ x.session.m ≤ 255 ∧ x.session.l ≤ 65535 ∧ x.session.taken ≤ 255 ∧
    x.session.passes.length ≤ 255 ∧ x.session.outOfOrder ≤ 65535 ∧ x.baseVolume < 2 ^ 32 ∧ x.session.pass.nm < 2 ^ 32

/-- A result that fits in READ_PROVING's fields (R127). -/
def ProvingResult.fits (x : ProvingResult) : Prop :=
  x.p ≤ 255 ∧ x.taken ≤ 255 ∧ x.l ≤ 65535 ∧ (∀ n, x.lastSpread = some n → n < 2 ^ 32) ∧ x.mf < 2 ^ 32 ∧
    x.freq < 2 ^ 32 ∧ x.proposalId ≤ 65535

/-- A pass record that fits in READ_PASS's fields (R128). -/
def PassRecord.fits (y : PassRecord) : Prop :=
  y.index ≤ 255 ∧ y.t1 < 2 ^ 32 ∧ y.t2 < 2 ^ 32 ∧ y.nm < 2 ^ 32 ∧ y.ni < 2 ^ 48 ∧ y.mf < 2 ^ 32 ∧ y.freq < 2 ^ 32

/-- A proposal whose numbers fit in READ_PROPOSAL's fields (R148). -/
def Proposal.fits (q : Proposal) : Prop :=
  legalId q.id ∧ q.change.legal ∧ (∀ n, q.state = .applied n → n ≤ max32) ∧ ∀ i, q.state = .superseded i → legalId i

/-- A sampler whose figures fit in READ_SAMPLER's fields (R161). -/
def Sampler.fits (x : Sampler) : Prop :=
  (∀ u, x.setup = some u → u.legal) ∧ x.width ≤ 2000 ∧ x.pendingGrabs.length ≤ 4 ∧ x.volume < 2 ^ 32 ∧ x.fill < 2 ^ 32 ∧
    x.counts.due < 2 ^ 32 ∧ x.counts.issued < 2 ^ 32 ∧ x.counts.hold < 2 ^ 32 ∧ x.counts.full < 2 ^ 32 ∧
    x.counts.overflow < 2 ^ 32 ∧ x.counts.carriedIn ≤ 255

/-- A byte whose bits are some flags, bit 0 first, the bits above them 0 (R167). -/
def holdsFlags (b : Byte) (flags : List Bool) : Prop := ∀ i, i < 8 → b.getLsbD i = flags.getD i false

/-- A number in one byte. -/
def byteOf (n : Nat) : Byte := BitVec.ofNat 8 n

/-- An indication's byte (R167). -/
def bitByte (b : Bool) : Byte := if b then 1 else 0

/-- The five fault counts, in the order every rule names them, each in so many bytes. -/
def faultBytes (size : Nat) (x : FaultCounts) : List Byte :=
  bytesOf size x.reverse ++ bytesOf size x.aMissing ++ bytesOf size x.bMissing ++ bytesOf size x.coincident ++
    bytesOf size x.dither

/-- Pulses, indicated and gross, each in so many bytes. -/
def tripleBytes (size : Nat) (x : Triple) : List Byte :=
  bytesOf size x.pulses ++ bytesOf size x.indicated ++ bytesOf size x.gross

/-! ### Jobs of the write queue (R184 to R187) -/

/-- The copy that a job writes, the one that does not hold the newest marked contents, and its write count, one higher than
the other copy's (R184). With no copy marked it is the first, with write count 1 (log entry 17). -/
def Copies.nextWrite {α : Type} (c : Copies α) (second : Bool) (count : Nat) : Prop :=
  (∀ x y, c = ⟨some x, some y⟩ → (second = true ↔ y.count ≤ x.count) ∧ count = max x.count y.count + 1) ∧
  (∀ x, c = ⟨some x, none⟩ → second = true ∧ count = x.count + 1) ∧
  (∀ y, c = ⟨none, some y⟩ → second = false ∧ count = y.count + 1) ∧
  (c = ⟨none, none⟩ → second = false ∧ count = 1)

/-- Entries of the ring became NOT_RETAINED: those with some sequence numbers, and no other entry changed (R85). -/
def ringLoses (s t : State) (lost : Nat → Prop) : Prop :=
  t.history.ring.length = s.history.ring.length ∧ ∀ (i : Nat) (e : RingEntry), s.history.ring[i]? = some e →
    (lost e.record.seq → t.history.ring[i]? = some { e with retention := .notRetained }) ∧
    (¬ lost e.record.seq → t.history.ring[i]? = some e)

/-- RETENTION was raised so many times in every port, and nothing else of the ports changed but the causes and the ALERT
lines (R85, R177). -/
def retentionTimes (s t : State) (n : Nat) : Prop :=
  ∀ p, t.ports.get p = { s.ports.get p with
      events := (t.ports.get p).events, causes := (t.ports.get p).causes, alertLow := (t.ports.get p).alertLow } ∧
    (∀ c, c ≠ .retention → (t.ports.get p).events.get c = (s.ports.get p).events.get c) ∧
    (n ≠ 0 → ((t.ports.get p).events.get .retention).flag = true) ∧
    (((s.ports.get p).events.get .retention).count ≤ 255 →
      ((t.ports.get p).events.get .retention).count = min (((s.ports.get p).events.get .retention).count + n) 255)

/-- A RECORD job's record lies in the slot (seq - 1) modulo 28; a marked record of that slot's sector of four (R185). -/
def inSectorOf (slots : List (Option BatchRecord)) (seq : Nat) (q : BatchRecord) : Prop :=
  ∃ i : Nat, i / 4 = (seq - 1) % 28 / 4 ∧ slots[i]? = some (some q)

/-- The oldest job begins in the state `s`, with the contents of that event, and leaves `t` (R184 to R187). A RECORD job
erases its sector first exactly if the sector holds a record below the sequence number of the sector's first slot in the
current wrap; what that destroys is NOT_RETAINED if it is still in the ring, with one RETENTION each. A copy or slot being
written has no marker (log entry 17), and a slot without a marker does not count in that check (log entry 32). -/
def jobBegins (s t : State) : Job → Prop
  | .parameters => ∃ second count, s.store.parameters.nextWrite second count ∧ t = { s with store := { s.store with
      status := .writing
      parameters := if second then ⟨s.store.parameters.first, none⟩ else ⟨none, s.store.parameters.second⟩
      writing := some ⟨.parameters ⟨count, s.captureParameters⟩ second, s.tick + 600000⟩ } }
  | .checkpoint => ∃ second count, s.store.checkpoints.nextWrite second count ∧ t = { s with store := { s.store with
      status := .writing
      checkpoints := if second then ⟨s.store.checkpoints.first, none⟩ else ⟨none, s.store.checkpoints.second⟩
      periodicRef := s.uptime
      writing := some ⟨.checkpoint ⟨count, s.captureCheckpoint⟩ second, s.tick + 200000⟩ } }
  | .record r =>
    let old : Prop := ∃ q, inSectorOf s.store.slots r.seq q ∧ q.seq < r.seq - (r.seq - 1) % 28 % 4
    (¬ old → t = { s with store := { s.store with
      status := .writing
      slots := s.store.slots.set ((r.seq - 1) % 28) none
      writing := some ⟨.record r, s.tick + 300000⟩ } }) ∧
    (old →
      let destroyed (seq : Nat) : Prop := ∃ q, inSectorOf s.store.slots r.seq q ∧ q.seq = seq
      t.store = { s.store with
        status := .writing, slots := t.store.slots, writing := some ⟨.record r, s.tick + 750000⟩ } ∧
      t.store.slots.length = s.store.slots.length ∧
      (∀ i, i < s.store.slots.length → i / 4 = (r.seq - 1) % 28 / 4 → t.store.slots[i]? = some none) ∧
      (∀ i : Nat, i / 4 ≠ (r.seq - 1) % 28 / 4 → t.store.slots[i]? = s.store.slots[i]?) ∧
      ringLoses s t destroyed ∧
      (∀ l : List Nat, l.Nodup → (∀ i : Nat, i ∈ l ↔ ∃ e, s.history.ring[i]? = some e ∧ destroyed e.record.seq ∧
          e.retention ≠ .notRetained) →
        retentionTimes s t l.length ∧ (l = [] → t.ports = s.ports) ∧
        (l ≠ [] → ∀ p, (t.ports.get p).causes = { (s.ports.get p).causes with recordNotRetained := true })) ∧
      t = { s with store := t.store, ports := t.ports, history := { s.history with ring := t.history.ring } })

/-- A PARAMETERS or CHECKPOINT request that a store takes in the state `now`: it is merged with a waiting job of its kind,
joins the tail, begins at once in READY, or sets the kind's owed mark (R186). -/
def jobAsked (now : State) (x y : Store) (j : Job) : Prop :=
  let room : Prop := x.powerFail = false ∧ x.queue.length < 4
  let owed : Store := match j with
    | .parameters => { x with owedParameters := true }
    | _ => { x with owedCheckpoint := true }
  (j ∈ x.queue.drop 1 → (j = .parameters → x.powerFail = false) → y = x) ∧
  (j ∉ x.queue.drop 1 → room → x.status = .writing → y = { x with queue := x.queue ++ [j] }) ∧
  (room → x.status = .ready → x.queue = [] →
    ∃ u, jobBegins { now with store := { x with queue := [j] } } u j ∧ y = u.store) ∧
  (j ∉ x.queue.drop 1 → ¬ room ∨ x.status = .halted → y = owed) ∧
  (j = .parameters → x.powerFail = true → y = owed)

/-! ### Grabs falling due (R150 to R153) -/

/-- The receiver is full: never while the setup is unset; else when the fill, S for each pending grab and S once more pass C,
or RCVHI is active (R152). -/
def Sampler.receiverFull (x : Sampler) : Prop :=
  ∃ u, x.setup = some u ∧ (u.capacity < x.fill + u.size * x.pendingGrabs.length + u.size ∨ x.rcvhi = true)

/-- One grab of a gross increment, at a tick: G leaves A, the grab is counted as due, and the first case of R151 that applies
disposes of it; an issued or queued grab leaves the full indication evaluated afresh (R152, R153). -/
def grabFallsDue (u : SamplerSetup) (tick : Tick) (x y : Sampler) : Prop :=
  let a := x.volume - u.interval
  let n := x.counts.due + 1
  (x.hold = true → y = { x with volume := a, counts := { x.counts with due := n, hold := x.counts.hold + 1 } }) ∧
  (x.hold = false → x.full = true →
    y = { x with volume := a, counts := { x.counts with due := n, full := x.counts.full + 1 } }) ∧
  (x.hold = false → x.full = false →
    (x.output = .idle → y = { x with
      volume := a, output := .pulse (tick + BitVec.ofNat 48 (x.width * 10000)), grabLine := some (!x.activeLow)
      fill := min (x.fill + u.size) u.capacity, full := y.full
      counts := { x.counts with due := n, issued := x.counts.issued + 1 } }) ∧
    (x.output ≠ .idle → x.pendingGrabs.length < 4 → y = { x with
      volume := a, pendingGrabs := x.pendingGrabs ++ [.own], full := y.full, counts := { x.counts with due := n } }) ∧
    (x.output ≠ .idle → 4 ≤ x.pendingGrabs.length → y = { x with
      volume := a, counts := { x.counts with due := n, overflow := x.counts.overflow + 1 } }) ∧
    (x.output = .idle ∨ x.pendingGrabs.length < 4 → (y.full = true ↔ y.receiverFull)))

/-! ### Postings (R129, R132, R134, R135) -/

/-- The argument bytes of PROPOSE for a change (R129, R133). -/
def proposeBytes : Change → List Byte
  | .kFactor r kx => [0, runByte r] ++ bytesOf 4 kx
  | .mfPoint r f m => [1, runByte r] ++ bytesOf 2 f ++ bytesOf 4 m
  | .mfPointDelete r f => [2, runByte r] ++ bytesOf 2 f
  | .proverVolume bv => [3] ++ bytesOf 4 bv
  | .samplerSetup g size c => [4] ++ bytesOf 4 g ++ [byteOf size] ++ bytesOf 4 c

/-- The slot a posting takes: the lowest never-used one, else the terminal one of the greatest age, the lowest of equally
old ones (R134). -/
def takesSlot (s : State) (slot : Nat) : Prop :=
  (s.control.slots[slot]? = some none ∧ ∀ i, i < slot → s.control.slots[i]? ≠ some none) ∨
  (none ∉ s.control.slots ∧ ∃ x, s.control.slots[slot]? = some (some x) ∧ x.state ≠ .opened ∧
    ∀ i y, s.control.slots[i]? = some (some y) → y.state ≠ .opened →
      secondsBetween y.ended s.uptime < secondsBetween x.ended s.uptime ∨
      (secondsBetween y.ended s.uptime = secondsBetween x.ended s.uptime ∧ slot ≤ i))

/-- A posting leaves the table with the new record in its slot, and the counter on the next id after the record's that the
table does not hold, with 0 passed over and 1 after 65 535 (R132, R134, R135). -/
def posts (s t : State) (change : Change) (originator : Originator) (deviation : Bool) (slot : Nat) : Prop :=
  takesSlot s slot ∧
  t.control.slots = s.control.slots.set slot (some {
    id := s.control.nextId, change := change, originator := originator, created := s.uptime
    oprVerdict := if originator = .opr then .concur else .none
    witVerdict := if originator = .wit then .concur else .none
    largeDeviation := deviation, state := .opened, ended := 0 }) ∧
  t.control.changeCount = s.control.changeCount ∧
  t.control.nextId ∉ t.control.ids ∧
  ∃ k, 1 ≤ k ∧ t.control.nextId = (s.control.nextId - 1 + k) % 65535 + 1 ∧
    ∀ j, 1 ≤ j → j < k → (s.control.nextId - 1 + j) % 65535 + 1 ∈ t.control.ids

/-- Every slot of the table holds an OPEN proposal (R133, R134). -/
def State.tableFull (s : State) : Prop := ∀ q ∈ s.control.slots, ∃ x, q = some x ∧ x.state = .opened

/-- An OPEN proposal of a change concerns the same parameter as an applied one (the table of R143). -/
def sameParameter : Change → Change → Prop
  | .kFactor r _, .kFactor q _ => r = q
  | .mfPoint r f _, .mfPoint q g _ => r = q ∧ ((g : Int) - f).natAbs * 50 ≤ f
  | .mfPoint r f _, .mfPointDelete q g => r = q ∧ ((g : Int) - f).natAbs * 50 ≤ f
  | .mfPointDelete r f, .mfPoint q g _ => r = q ∧ ((g : Int) - f).natAbs * 50 ≤ f
  | .mfPointDelete r f, .mfPointDelete q g => r = q ∧ ((g : Int) - f).natAbs * 50 ≤ f
  | .proverVolume _, .proverVolume _ => True
  | .samplerSetup .., .samplerSetup .. => True
  | _, _ => False

end Sys2Proof.Machine
end

