-- ==== Sys2Proof/Certificates/Slice0/Obligations.lean ====
section
/-! DEFINITION. The statements for the provers, family by family, each formalising rules of spec/. A completion statement
has as its conclusion the next state of a command; `State.raise` and `State.respond`, in whose terms they speak, have
a statement of their own (RaisingAndResponding). -/

open Sys2Proof Sys2Proof.Machine

/-! ### The step, the queue, reset -/

/-- Every command is taken whole, first in first out (R168 for requests; the queue is the model's). -/
def Obligations.StepTakesFrontCommand : Prop :=
  ∀ (c : Instr) (rest : List Instr) (s : State), s.pending = c :: rest → step s = exec c { s with pending := rest }

/-- With no command waiting a step is one tick of REFCLK (R1; the model's choice, log entry 2). Every input pin is observed
once; a level observed at two consecutive ticks is accepted (R5, R104, R152, R163, R188), the first one without an edge
(log entry 7). The queue then holds exactly the commands of this tick, each once: the edges whose first observation was the
tick before, in front (log entry 4), then those of the tick itself: the deadlines reached (R2, R3, R113, R154, R186), the
four parts of a one-second event in their order (R3, R122, R144, R187; log entry 24), the end of the restore, free before
tick 1 500 000 and due there (R190; log entry 5), and the changes of RCVHI, PFAIL and the select lines with the frame that
a rise ends (R163 to R165). Beside the tick counter, the pins and the queue only accepted levels change. While RESETn is
low the step asks for a reset (R190). That a deadline's command comes with its tick is log entry 3, and that the pins are
the world's is log entry 6. -/
def Obligations.IdleStepIsOneTick : Prop :=
  ∀ s : State, s.pending = [] →
    (s.lines.resetN = false → step s = .next { s with pending := [.reset] }) ∧
    (s.lines.resetN = true →
      let twice (l : Line) : Bool := l.seen == some l.level
      let taken (l : Line) (old : Bool) : Bool := if twice l then l.level else old
      let observed (l m : Line) : Prop :=
        m.level = l.level ∧ m.seen = some l.level ∧ (m.settled = true ↔ l.settled = true ∨ twice l = true)
      let seenLow (p : Port) : Bool := twice (s.lines.select.get p) && !(s.lines.select.get p).level
      let seenHigh (p : Port) : Bool := twice (s.lines.select.get p) && (s.lines.select.get p).level
      let bothSettled (r : Run) : Bool := (s.lines.plsA.get r).settled && (s.lines.plsB.get r).settled
      let pair (r : Run) : Pair :=
        ⟨taken (s.lines.plsA.get r) (s.channels.get r).pair.a, taken (s.lines.plsB.get r) (s.channels.get r).pair.b⟩
      let one (due : Bool) (i : Instr) : List Instr := if due then [i] else []
      let rises (l : Line) (x : DetectorInput) : Bool := l.settled && twice l && l.level && !x.level
      let now := s.tick + 1
      let x := s.prover.session
      ∃ t, step s = .next t ∧ t.tick = s.tick + 1 ∧
        (∀ r, .windowExpiry r ∈ t.pending ↔ (s.channels.get r).deadline = s.tick + 1) ∧
        (.oneSecondEvent ∈ t.pending ↔ s.nextSecond = s.tick + 1) ∧
        (.pulseEnd ∈ t.pending ↔ s.sampler.output = .pulse (s.tick + 1)) ∧
        (.gapEnd ∈ t.pending ↔ s.sampler.output = .gap (s.tick + 1)) ∧
        (.jobComplete ∈ t.pending ↔ ∃ w, s.store.writing = some w ∧ w.endsAt = s.tick + 1) ∧
        (∀ tD1, .passTimeout tD1 ∈ t.pending ↔ tD1 = s.prover.session.pass.tD1 ∧ tD1 + 600000000 = s.tick + 1 ∧
          (s.prover.session.state = .inPass ∨ s.prover.session.state = .waitStop)) ∧
        (s.nextSecond = now → [.oneSecondEvent, .proposalExpiry, .noDetector, .periodicCheckpoint] <:+: t.pending) ∧
        (∃ (ends : Bool) (edges clock : List Instr),
          (s.isRestoring = false → ends = false) ∧ (s.isRestoring = true → 1500000 ≤ now.toNat → ends = true) ∧
          t.pending = edges ++ clock ∧
          edges.Perm (
            (allRuns.flatMap fun r =>
              one (bothSettled r && decide (pair r ≠ (s.channels.get r).pair))
                (.edgeEvent r (pair r).a (pair r).b s.tick)) ++
            one (rises s.lines.det1 s.prover.det1) (.detectorEvent .det1 s.tick) ++
            one (rises s.lines.det2 s.prover.det2) (.detectorEvent .det2 s.tick)) ∧
          clock.Perm (
            (allRuns.flatMap fun r => one (decide ((s.channels.get r).deadline = now)) (.windowExpiry r)) ++
            (if s.nextSecond = now then [.oneSecondEvent, .proposalExpiry, .noDetector, .periodicCheckpoint] else []) ++
            one (decide (s.sampler.output = .pulse now)) .pulseEnd ++ one (decide (s.sampler.output = .gap now)) .gapEnd ++
            one (decide ((x.state = .inPass ∨ x.state = .waitStop) ∧ x.pass.tD1 + 600000000 = now))
              (.passTimeout x.pass.tD1) ++
            one (s.store.writing.any fun w => decide (w.endsAt = now)) .jobComplete ++ one ends .restoreComplete ++
            one ((s.lines.rcvhi.settled || !s.isRestoring) && twice s.lines.rcvhi &&
              decide (s.lines.rcvhi.level ≠ s.sampler.rcvhi)) (.rcvhiChange s.lines.rcvhi.level) ++
            one (twice s.lines.pfail && !s.lines.pfail.level && !s.store.pfailActive) .powerFailWarning ++
            one (twice s.lines.pfail && s.lines.pfail.level && s.store.pfailActive) .powerFailClear ++
            allPorts.flatMap fun p => match (s.ports.get p).transaction with
              | .idle => one (seenLow p && (s.ports.get p).selectSeenHigh) (.transactionBegin p)
              | .selected bits _ => one (seenHigh p) (decodeFrame p bits))) ∧
        ((∀ r, observed (s.lines.plsA.get r) (t.lines.plsA.get r) ∧ observed (s.lines.plsB.get r) (t.lines.plsB.get r)) ∧
          observed s.lines.det1 t.lines.det1 ∧ observed s.lines.det2 t.lines.det2 ∧
          observed s.lines.rcvhi t.lines.rcvhi ∧ observed s.lines.pfail t.lines.pfail ∧
          (∀ p, observed (s.lines.select.get p) (t.lines.select.get p)) ∧ t.lines.resetN = true) ∧
        (∀ r, (bothSettled r = true → t.channels.get r = s.channels.get r) ∧
          (bothSettled r = false → (t.channels.get r).pair = pair r ∧
            (t.channels.get r).tracking =
              if (t.lines.plsA.get r).settled = true ∧ (t.lines.plsB.get r).settled = true
              then (if pair r = .zero then .outside else .waiting) else (s.channels.get r).tracking)) ∧
        (∀ d, (t.prover.detector d).reference = (s.prover.detector d).reference ∧
          let l := match d with
            | .det1 => s.lines.det1
            | .det2 => s.lines.det2
          (t.prover.detector d).level =
            if l.settled then (s.prover.detector d).level && taken l (s.prover.detector d).level
            else taken l (s.prover.detector d).level) ∧
        t.sampler.rcvhi = (if s.isRestoring = true ∧ s.lines.rcvhi.settled = false
          then taken s.lines.rcvhi s.sampler.rcvhi else s.sampler.rcvhi) ∧
        (∀ p, (t.ports.get p).selectSeenHigh = ((s.ports.get p).selectSeenHigh || seenHigh p)) ∧
        t = { s with
          tick := t.tick, lines := t.lines, channels := t.channels, ports := t.ports, freeIndex := t.freeIndex,
          pending := t.pending
          prover := { s.prover with det1 := t.prover.det1, det2 := t.prover.det2 }
          sampler := { s.sampler with rcvhi := t.sampler.rcvhi } } ∧
        (∀ r, t.channels.get r = { s.channels.get r with
          pair := (t.channels.get r).pair, tracking := (t.channels.get r).tracking }) ∧
        ∀ p, t.ports.get p = { s.ports.get p with selectSeenHigh := (t.ports.get p).selectSeenHigh })

/-- RESET puts every block at the values that the rules state for reset, and the state after reset has them; the marked
copies and the record slots outlive it (R183, R184, R190, R191). -/
def Obligations.ResetPutsEveryBlockAtItsResetValues : Prop :=
  State.reset.atReset ∧
    ∀ s : State, ∃ t, exec .reset s = .next t ∧ t.atReset ∧ t.store.parameters = s.store.parameters ∧
      t.store.checkpoints = s.store.checkpoints ∧ t.store.slots = s.store.slots

/-- Every invariant of Safety.lean holds right after reset. -/
def Obligations.ResetMeetsEveryInvariant : Prop :=
  State.reset.eventsLegal ∧ State.reset.channelsLegal ∧ State.reset.totalsLegal ∧ State.reset.plansLegal ∧
    State.reset.historyLegal ∧ State.reset.sessionLegal ∧ State.reset.custodyLegal ∧ State.reset.tableLegal ∧
    State.reset.samplerLegal ∧ State.reset.storeLegal ∧ State.reset.recordsLegal

/-- No command of the table stops the part: each ends in a next state. -/
def Obligations.EveryCommandCompletes : Prop := ∀ (i : Instr) (s : State), ∃ t, exec i s = .next t

/-! ### Invariants that every step keeps -/

/-- R177, R178: counts, levels and thresholds stay in range, a flag is set exactly while its count is not 0, and the ALERT
line is low exactly while some set flag's level is at or above the threshold. -/
def Obligations.StepKeepsEventFlagsAndAlert : Prop :=
  ∀ s t : State, s.eventsLegal → step s = .next t → t.eventsLegal

/-- R12, R14, R15, R19, R9, R22: the channels stay within their ranges. -/
def Obligations.StepKeepsChannelsInRange : Prop :=
  ∀ s t : State, s.channelsLegal → step s = .next t → t.channelsLegal

/-- R30, R31, R33, R41, R66: totals, remainders and accumulators stay within their ranges, and the running batch gross
stays the sum of the batch gross accumulators. -/
def Obligations.StepKeepsTotalsInRange : Prop :=
  ∀ s t : State, s.custodyLegal → s.totalsLegal → step s = .next t → t.totalsLegal

/-- R61: at most 8 plans, no parcel id twice among the queued plans and the open batch. -/
def Obligations.StepKeepsPlansAndParcels : Prop :=
  ∀ s t : State, s.plansLegal → step s = .next t → t.plansLegal

/-- R84, R87: at most 24 records in strictly ascending sequence; every cursor names a record or the end. Every record in a
slot or a job is numbered below the batch sequence counter (R78, R185, R190). -/
def Obligations.StepKeepsRingAndCursors : Prop :=
  ∀ s t : State, (s.historyLegal → step s = .next t → t.historyLegal) ∧
    (s.recordsLegal → step s = .next t → t.recordsLegal)

/-- R100, R115, R123: an active session stays below M passes, and the pass list never outgrows 20 records. -/
def Obligations.StepKeepsSessionInRange : Prop :=
  ∀ s t : State, s.sessionLegal → step s = .next t → t.sessionLegal

/-- R48, R101, R129, R149: no custody parameter ever leaves its range. -/
def Obligations.StepKeepsCustodyParametersInRange : Prop :=
  ∀ s t : State, s.sessionLegal → s.custodyLegal → step s = .next t → t.custodyLegal

/-- R131, R132, R139: six slots, ids all different, and a proposal APPLIED only with both verdicts CONCUR. -/
def Obligations.StepKeepsProposalTable : Prop :=
  ∀ s t : State, s.tableLegal → step s = .next t → t.tableLegal

/-- R149, R152, R158: at most 4 grabs pending, the fill within C, the full indication right, and in every record grabs due
equal to grabs issued, missed and pending. -/
def Obligations.StepKeepsGrabAccounting : Prop :=
  ∀ s t : State, s.samplerLegal → step s = .next t → t.samplerLegal

/-- R186, R188: the write queue holds at most 4 jobs with the one being written first, and HALTED only under the power-fail
indication. -/
def Obligations.StepKeepsWriteQueue : Prop :=
  ∀ s t : State, s.storeLegal → step s = .next t → t.storeLegal

/-! ### Shared operations -/

/-- R163, R166, R177, R178: a class raised is taken by the flag set of every port: flag set, count one higher up to 255, every
other class and setting as before, the ALERT line evaluated afresh; nothing else of the part changes. At a transaction's
end event the response replaces the one in the buffer, the port is IDLE with SDO released; the other ports and all else
stay (the select pin's level is the model's, log entry 6). -/
def Obligations.RaisingAndResponding : Prop :=
  (∀ (c : EventClass) (s : State),
    s.raise c = { s with ports := (s.raise c).ports } ∧
    ∀ p, ∃ x : PortState, (s.raise c).ports.get p = x ∧
      x = { s.ports.get p with events := x.events, alertLow := x.alertLow } ∧
      (x.events.get c).flag = true ∧
      (x.events.get c).count = min (((s.ports.get p).events.get c).count + 1) 255 ∧
      (x.events.get c).level = ((s.ports.get p).events.get c).level ∧
      (∀ d, d ≠ c → x.events.get d = (s.ports.get p).events.get d) ∧
      (x.alertLow = true ↔ ∃ d, (x.events.get d).flag = true ∧ x.threshold ≤ (x.events.get d).level)) ∧
  ∀ (p : Port) (echo : Byte) (a : Answer) (s : State),
    s.respond p echo a = { s with lines := (s.respond p echo a).lines, ports := (s.respond p echo a).ports } ∧
    (s.respond p echo a).ports.get p = { s.ports.get p with
      transaction := .idle, sdo := none, selectSeenHigh := true, response := ⟨a.status, echo, a.data⟩ } ∧
    (∀ q, q ≠ p → (s.respond p echo a).ports.get q = s.ports.get q) ∧
    (s.respond p echo a).lines = { s.lines with select := (s.respond p echo a).lines.select } ∧
    ∀ q, q ≠ p → (s.respond p echo a).lines.select.get q = s.lines.select.get q

/-! ### Requests (R162 to R171) -/

/-- R164: reading back the bits of a request's frame, with any number of fill bytes, gives the request. -/
def Obligations.DecodeOfEncodedFrameIsTheRequest : Prop :=
  ∀ (i : Instr) (fill : Nat) (p : Port) (bits : List Bool),
    i.wellFormed = true → encodeFrame i fill = some (p, bits) → decodeFrame p bits = i

/-- R162, R163, R169: a well-formed request is decided in the order STARTING, UNKNOWN_REQUEST, NOT_PERMITTED, BAD_ARGUMENT for its
length, its own rule; a request that is not answered OK changes nothing but the response, which then carries no data; the
echo is the request's code; no response carries more than 64 bytes of data. It ends the transaction of its own port and
reaches no other port's transaction, response buffer, levels or threshold. -/
def Obligations.RequestsAreDecidedInOrder : Prop :=
  (∀ (i : Instr) (p : Port) (code : Byte) (args : List Byte) (s : State),
    i.wellFormed = true → frameParts i = some (p, code, args) →
    (s.isRestoring = true → exec i s = .next (s.respond p code ⟨.starting, []⟩)) ∧
    (s.isRestoring = false → Catalogue.holds code = false →
      exec i s = .next (s.respond p code ⟨.unknownRequest, []⟩)) ∧
    (∀ row ∈ Catalogue.rows, row.code = code → s.isRestoring = false →
      (row.ports.has p = false → exec i s = .next (s.respond p code ⟨.notPermitted, []⟩)) ∧
      (row.ports.has p = true → ∀ n, row.length = some n → args.length ≠ n →
        exec i s = .next (s.respond p code ⟨.badArgument, []⟩))) ∧
    ∀ t, exec i s = .next t →
      (t.ports.get p).response.echo = code ∧
      ((t.ports.get p).response.status ≠ .ok → t = s.respond p code ⟨(t.ports.get p).response.status, []⟩) ∧
      (s.custodyLegal → s.tableLegal → (t.ports.get p).response.data.length ≤ 64)) ∧
  ∀ (i : Instr) (p q : Port) (code : Byte) (args : List Byte) (s t : State),
    frameParts i = some (p, code, args) → exec i s = .next t → q ≠ p →
    (t.ports.get p).transaction = .idle ∧ (t.ports.get p).sdo = none ∧
    (t.ports.get q).transaction = (s.ports.get q).transaction ∧ (t.ports.get q).sdo = (s.ports.get q).sdo ∧
    (t.ports.get q).response = (s.ports.get q).response ∧
    (t.ports.get q).selectSeenHigh = (s.ports.get q).selectSeenHigh ∧
    (t.ports.get q).threshold = (s.ports.get q).threshold ∧
    ∀ c, ((t.ports.get q).events.get c).level = ((s.ports.get q).events.get c).level

/-- R165, R169 step 2: a malformed transaction is discarded with FRAME_ERROR, during RESTORING too, its echo byte 0 or 0x00;
a code outside the catalogue is answered UNKNOWN_REQUEST, or STARTING during RESTORING. -/
def Obligations.MalformedAndUnknownFramesChangeNothing : Prop :=
  ∀ (p : Port) (first : Option Byte) (code : Byte) (s : State),
    exec (.frameError p first) s = .next (s.respond p (first.getD 0x00) ⟨.frameError, []⟩) ∧
    exec (.unknownRequest p code) s =
      .next (s.respond p code ⟨if s.isRestoring then .starting else .unknownRequest, []⟩)

/-- R163, R166: an accepted fall of an idle port's select line, once it has been accepted high, selects the port, clears its
received bits and presents the first bit of its response; while SELECTED a rising edge of SCK takes in a bit and a falling
edge presents the next bit of the response, then of 0xFF. -/
def Obligations.SelectedPortShiftsItsResponse : Prop :=
  ∀ (p : Port) (s : State),
    ((s.ports.get p).selectSeenHigh = true → (s.ports.get p).transaction = .idle →
      ∃ t, exec (.transactionBegin p) s = .next t ∧
        t = { s with lines := { s.lines with select := t.lines.select }, ports := t.ports } ∧
        (∀ q, q ≠ p → t.lines.select.get q = s.lines.select.get q) ∧
        t.ports = s.ports.set p { s.ports.get p with
          transaction := .selected [] 0, sdo := some (byteBit (statusCode (s.ports.get p).response.status) 0) }) ∧
    ∀ bits n, (s.ports.get p).transaction = .selected bits n →
      (∀ sdi, exec (.sckEdge p (.rising sdi)) s =
        .next (s.setPort p { s.ports.get p with transaction := .selected (bits ++ [sdi]) n })) ∧
      exec (.sckEdge p .falling) s = .next (s.setPort p { s.ports.get p with
        transaction := .selected bits (n + 1)
        sdo := some (byteBit ((s.ports.get p).response.bytes[(n + 1) / 8]?.getD 0xFF) ((n + 1) % 8)) })

/-- R173, R174: NOP answers OK with no data, STARTING during RESTORING, and its response is three bytes; IDENTIFY answers the part
and format identity, the port and the limits. Neither changes anything. -/
def Obligations.NopAndIdentifyAnswer : Prop :=
  ∀ (p : Port) (s : State),
    (s.isRestoring = false → exec (.nop p []) s = .next (s.respond p 0x00 ⟨.ok, []⟩)) ∧
    (s.isRestoring = true → exec (.nop p []) s = .next (s.respond p 0x00 ⟨.starting, []⟩)) ∧
    (∀ t, exec (.nop p []) s = .next t → (t.ports.get p).response.bytes.length = 3) ∧
    (s.isRestoring = false → exec (.identify p []) s = .next (s.respond p 0x01
      ⟨.ok, [0x0C, 0x04, 1, BitVec.ofNat 8 (portNumber p), 4, 8, 8, 24, 28, 6, 20, 4, 14, 60, 64]⟩)) ∧
    portNumber .opr = 0 ∧ portNumber .wit = 1 ∧ portNumber .sup = 2

/-! ### Time (R2 to R4, R175) -/

/-- R3, R4, R175: a one-second event raises the uptime by one, and the station time by one if it is set, both modulo 2^32;
SET_TIME writes the station time and marks it set; READ_TIME answers the clocks of its event. Nothing else changes (what
other blocks do at a one-second event are commands of their own, log entry 24). -/
def Obligations.ClocksAdvanceAndAreRead : Prop :=
  ∀ s : State,
    exec .oneSecondEvent s = .next { s with
      uptime := s.uptime + 1
      stationTime := if s.stationSet then s.stationTime + 1 else s.stationTime
      nextSecond := s.nextSecond + 10000000 } ∧
    (∀ a b c d : Byte, s.isRestoring = false →
      exec (.setTime .sup [a, b, c, d]) s = .next (State.respond .sup 0x48 ⟨.ok, []⟩
        { s with stationTime := a ++ b ++ c ++ d, stationSet := true })) ∧
    ∀ p : Port, s.isRestoring = false →
      exec (.readTime p []) s = .next (s.respond p 0x02 ⟨.ok,
        bytesOf 6 s.tick.toNat ++ bytesOf 4 s.uptime.toNat ++
          bytesOf 4 (if s.stationSet then s.stationTime.toNat else 0) ++ [bitByte s.stationSet]⟩)

/-! ### Event flags (R179 to R182) -/

/-- R179, R180: READ_EVENTS returns the requesting port's flags, counts, levels, threshold, ALERT state and retention causes;
TOP_EVENT chooses, among its set flags of level 1 or more, the highest level and then the lowest class number, and with
none answers class 0xFF, level 0, count 0. -/
def Obligations.EventReadsAnswerOwnFlags : Prop :=
  (∀ (p : Port) (s : State), s.isRestoring = false → (s.ports.get p).eventsLegal →
    ∃ flags : BitVec 16, ∃ causes : Byte,
      exec (.readEvents p []) s = .next (s.respond p 0x03 ⟨.ok,
        bytesOf 2 flags.toNat ++
          (allClasses.map fun c => BitVec.ofNat 8 ((s.ports.get p).events.get c).count) ++
          (allClasses.map fun c => BitVec.ofNat 8 ((s.ports.get p).events.get c).level) ++
          [BitVec.ofNat 8 (s.ports.get p).threshold, if (s.ports.get p).alertLow then 1 else 0, causes]⟩) ∧
      (∀ c, flags.getLsbD (classNumber c) = ((s.ports.get p).events.get c).flag) ∧
      flags.getLsbD 14 = false ∧ flags.getLsbD 15 = false ∧
      causes.getLsbD 0 = (s.ports.get p).causes.powerWarning ∧
      causes.getLsbD 1 = (s.ports.get p).causes.parametersLost ∧
      causes.getLsbD 2 = (s.ports.get p).causes.totalsFromRecord ∧
      causes.getLsbD 3 = (s.ports.get p).causes.totalsLost ∧
      causes.getLsbD 4 = (s.ports.get p).causes.recordNotRetained) ∧
  ∀ (p : Port) (s : State), s.isRestoring = false → (s.ports.get p).eventsLegal →
    let x := s.ports.get p
    let alert : Byte := if x.alertLow then 1 else 0
    ((∀ c, (x.events.get c).flag = true → (x.events.get c).level = 0) →
      exec (.topEvent p []) s = .next (s.respond p 0x04 ⟨.ok, [0xFF, 0, 0, alert]⟩)) ∧
    ∀ c, (x.events.get c).flag = true → 1 ≤ (x.events.get c).level →
      (∀ d, (x.events.get d).flag = true → (x.events.get d).level < (x.events.get c).level ∨
        ((x.events.get d).level = (x.events.get c).level ∧ classNumber c ≤ classNumber d)) →
      exec (.topEvent p []) s = .next (s.respond p 0x04 ⟨.ok,
        [BitVec.ofNat 8 (classNumber c), BitVec.ofNat 8 (x.events.get c).level,
          BitVec.ofNat 8 (x.events.get c).count, alert]⟩)

/-- R181: CLEAR_EVENTS clears flag and count of the named classes in the requesting port only, with RETENTION the cause set;
a mask with bit 14 or 15 is refused. -/
def Obligations.ClearEventsClearsNamedClasses : Prop :=
  ∀ (p : Port) (hi lo : Byte) (s : State), s.isRestoring = false →
    let mask : BitVec 16 := hi ++ lo
    (mask.getLsbD 14 = true ∨ mask.getLsbD 15 = true →
      exec (.clearEvents p [hi, lo]) s = .next (s.respond p 0x05 ⟨.badArgument, []⟩)) ∧
    (mask.getLsbD 14 = false → mask.getLsbD 15 = false →
      ∃ x : PortState, ∃ flags : BitVec 16,
        exec (.clearEvents p [hi, lo]) s = .next ((s.setPort p x).respond p 0x05 ⟨.ok, bytesOf 2 flags.toNat⟩) ∧
        (∀ c, flags.getLsbD (classNumber c) = (x.events.get c).flag) ∧
        x = { s.ports.get p with events := x.events, causes := x.causes, alertLow := x.alertLow } ∧
        (∀ c, x.events.get c = if mask.getLsbD (classNumber c) then
          ⟨false, 0, ((s.ports.get p).events.get c).level⟩ else (s.ports.get p).events.get c) ∧
        x.causes = (if mask.getLsbD 1 then .none else (s.ports.get p).causes) ∧
        (x.alertLow = true ↔ ∃ c, (x.events.get c).flag = true ∧ x.threshold ≤ (x.events.get c).level))

/-- R182: SET_LEVEL and SET_THRESHOLD. -/
def Obligations.LevelsAndThresholdsAreSet : Prop :=
  ∀ (p : Port) (s : State), s.isRestoring = false →
    (∀ (c : EventClass) (l : Byte), ∃ x : PortState,
      exec (.setLevel p [BitVec.ofNat 8 (classNumber c), l]) s = .next ((s.setPort p x).respond p 0x06 ⟨.ok,
        [BitVec.ofNat 8 (classNumber c), BitVec.ofNat 8 (min l.toNat 7)]⟩) ∧
      x = { s.ports.get p with events := x.events, alertLow := x.alertLow } ∧
      (∀ d, x.events.get d = if d = c then { (s.ports.get p).events.get c with level := min l.toNat 7 }
        else (s.ports.get p).events.get d) ∧
      (x.alertLow = true ↔ ∃ d, (x.events.get d).flag = true ∧ x.threshold ≤ (x.events.get d).level)) ∧
    (∀ n l : Byte, 13 < n.toNat →
      exec (.setLevel p [n, l]) s = .next (s.respond p 0x06 ⟨.badArgument, []⟩)) ∧
    ∀ n : Byte, ∃ x : PortState,
      exec (.setThreshold p [n]) s = .next ((s.setPort p x).respond p 0x07 ⟨.ok,
        [BitVec.ofNat 8 x.threshold, if x.alertLow then 1 else 0]⟩) ∧
      x = { s.ports.get p with threshold := max 1 (min n.toNat 7), alertLow := x.alertLow } ∧
      (x.alertLow = true ↔ ∃ d, (x.events.get d).flag = true ∧ x.threshold ≤ (x.events.get d).level)

/-! ### Meter pulse inputs (R5 to R24) -/

/-- R7: the class of a cycle from its path and double steps, the pulse it produces and the error it counts. -/
def Obligations.CyclesAreClassifiedByPath : Prop :=
  ∀ (path : List Pair) (double : Bool) (memory : Direction),
    let cls := classify path double
    (cls = .coincident ↔ double = true) ∧
    (cls = .forwardGood ↔ double = false ∧ path = [⟨true, false⟩, ⟨true, true⟩, ⟨false, true⟩]) ∧
    (cls = .reverseGood ↔ double = false ∧ path = [⟨false, true⟩, ⟨true, true⟩, ⟨true, false⟩]) ∧
    (cls = .bMissing ↔ double = false ∧ path = [⟨true, false⟩]) ∧
    (cls = .aMissing ↔ double = false ∧ path = [⟨false, true⟩]) ∧
    countedDirection .forwardGood memory = some .forward ∧ countedDirection .reverseGood memory = some .reverse ∧
    countedDirection .bMissing memory = some memory ∧ countedDirection .aMissing memory = some memory ∧
    countedDirection .coincident memory = some memory ∧ countedDirection .incomplete memory = none ∧
    (cls.isError = true ↔ cls ≠ .forwardGood ∧ cls ≠ .reverseGood) ∧
    ∀ counted, (cycleFaults cls counted).aMissing = (if cls = .aMissing then 1 else 0) ∧
      (cycleFaults cls counted).bMissing = (if cls = .bMissing then 1 else 0) ∧
      (cycleFaults cls counted).coincident = (if cls = .coincident then 1 else 0) ∧
      (cycleFaults cls counted).dither = (if cls = .incomplete then 1 else 0)

/-- R5, R6: an edge event that leaves 00 begins a cycle with the edge's tick as its stamp; one inside a cycle adds the new
pair to the path and notes a double step; a channel that joined an excursion in mid-course waits for 00. Nothing else but
the run's pins changes, and of these a line whose first level is accepted stays as it was observed where the event leaves
its level or the line was last observed at the new one (log entry 6). -/
def Obligations.EdgeEventsWalkTheLinePair : Prop :=
  ∀ (r : Run) (a b : Bool) (tick : Tick) (s : State),
    let c := s.channels.get r
    let new : Pair := ⟨a, b⟩
    let double := (a != c.pair.a) && (b != c.pair.b)
    let walk (tracking : Tracking) : Prop := ∃ t, exec (.edgeEvent r a b tick) s = .next t ∧
      t = { s with
        lines := { s.lines with plsA := t.lines.plsA, plsB := t.lines.plsB }
        channels := s.channels.set r { c with pair := new, tracking := tracking } } ∧
      (∀ q, q ≠ r → t.lines.plsA.get q = s.lines.plsA.get q ∧ t.lines.plsB.get q = s.lines.plsB.get q) ∧
      ((s.lines.plsA.get r).settled = true → a = c.pair.a ∨ (s.lines.plsA.get r).seen = some a →
        t.lines.plsA.get r = s.lines.plsA.get r) ∧
      ((s.lines.plsB.get r).settled = true → b = c.pair.b ∨ (s.lines.plsB.get r).seen = some b →
        t.lines.plsB.get r = s.lines.plsB.get r)
    new ≠ c.pair →
    (c.tracking = .outside → new ≠ .zero → walk (.inCycle tick [new] double)) ∧
    (∀ stamp path d, c.tracking = .inCycle stamp path d → new ≠ .zero →
      walk (.inCycle stamp (path ++ [new]) (d || double))) ∧
    (c.tracking = .waiting → walk (if new = .zero then .outside else .waiting))

/-- R8, R9, R12, R13: while a run is enabled and no session holds it, the cycle that returns the pair to 00 is counted in the
window, the cumulative counters and the integrity block; the direction memory follows good cycles; the window's first
reverse pulse raises REVERSE; the block's 1000th cycle sets the integrity status from E and raises INTEGRITY if it changed.
Nothing else changes but the run's pins. -/
def Obligations.EnabledRunsCountCycles : Prop :=
  ∀ (r : Run) (tick stamp : Tick) (path : List Pair) (d : Bool) (s : State),
    let c := s.channels.get r
    let cls := classify path (d || (c.pair.a && c.pair.b))
    let counted := countedDirection cls c.direction
    let cycles := c.blockCycles + 1
    let errors := c.blockErrors + (if cls.isError then 1 else 0)
    let reverse : Bool := counted == some .reverse
    let ends : Bool := decide (1000 ≤ cycles)
    let degraded : Bool := if ends then decide (c.limit < errors) else c.degraded
    s.enabled r → s.prover.session.holds r = false → c.pair ≠ .zero → c.tracking = .inCycle stamp path d →
    ∃ t, exec (.edgeEvent r false false tick) s = .next t ∧
      t = State.raiseIf (degraded != c.degraded) .integrity
        (State.raiseIf (reverse && c.window.faults.reverse == 0) .reverse { s with
          lines := { s.lines with plsA := t.lines.plsA, plsB := t.lines.plsB }
          channels := s.channels.set r { c with
            pair := .zero
            tracking := .outside
            direction := match cls with
              | .forwardGood => .forward
              | .reverseGood => .reverse
              | _ => c.direction
            window := ⟨c.window.pulses + (if counted = some .forward then 1 else 0), {
              reverse := c.window.faults.reverse + (if reverse then 1 else 0)
              aMissing := c.window.faults.aMissing + (if cls = .aMissing then 1 else 0)
              bMissing := c.window.faults.bMissing + (if cls = .bMissing then 1 else 0)
              coincident := c.window.faults.coincident + (if cls = .coincident then 1 else 0)
              dither := c.window.faults.dither + (if cls = .incomplete then 1 else 0) }⟩
            cumulative := {
              reverse := min (c.cumulative.reverse + (if reverse then 1 else 0)) 4294967295
              aMissing := min (c.cumulative.aMissing + (if cls = .aMissing then 1 else 0)) 4294967295
              bMissing := min (c.cumulative.bMissing + (if cls = .bMissing then 1 else 0)) 4294967295
              coincident := min (c.cumulative.coincident + (if cls = .coincident then 1 else 0)) 4294967295
              dither := min (c.cumulative.dither + (if cls = .incomplete then 1 else 0)) 4294967295 }
            blockCycles := if ends then 0 else cycles
            blockErrors := if ends then 0 else errors
            degraded := degraded } }) ∧
      ∀ q, q ≠ r → t.lines.plsA.get q = s.lines.plsA.get q ∧ t.lines.plsB.get q = s.lines.plsB.get q

/-- R2, R15, R22, R23: a cycle of an OFFLINE run adds a forward pulse to the offline-pulse counter alone, and the first one
raises OFFLINE_PULSES; during RESTORING a cycle goes into the live window and the held counts, and raises nothing. A window
expiry of an OFFLINE run only moves its deadline on by 1 000 000 ticks; during RESTORING the window enters the history and
is added to the carried window, and nothing is handed over. -/
def Obligations.OfflineAndRestoringRunsCountApart : Prop :=
  (∀ (r : Run) (tick stamp : Tick) (path : List Pair) (d : Bool) (s : State),
    let c := s.channels.get r
    let cls := classify path (d || (c.pair.a && c.pair.b))
    let counted := countedDirection cls c.direction
    let forward : Bool := counted == some .forward
    let c1 : Channel := { c with
      pair := .zero, tracking := .outside, direction := match cls with
        | .forwardGood => .forward
        | .reverseGood => .reverse
        | _ => c.direction }
    c.pair ≠ .zero → c.tracking = .inCycle stamp path d →
    ∃ t, exec (.edgeEvent r false false tick) s = .next t ∧
      (s.isRestoring = false → c.runState = .offline →
        t = State.raiseIf (forward && !c.offlineSeen) .offlinePulses { s with
          lines := { s.lines with plsA := t.lines.plsA, plsB := t.lines.plsB }
          channels := s.channels.set r { c1 with
            offlinePulses := min (c.offlinePulses + (if forward then 1 else 0)) 4294967295
            offlineSeen := c.offlineSeen || forward } }) ∧
      (∀ q, q ≠ r → t.lines.plsA.get q = s.lines.plsA.get q ∧ t.lines.plsB.get q = s.lines.plsB.get q) ∧
      (s.isRestoring = true →
        t = { s with
          lines := { s.lines with plsA := t.lines.plsA, plsB := t.lines.plsB }
          channels := s.channels.set r { c1 with
            window := ⟨c.window.pulses + (if forward then 1 else 0), {
              reverse := c.window.faults.reverse + (if counted = some .reverse then 1 else 0)
              aMissing := c.window.faults.aMissing + (if cls = .aMissing then 1 else 0)
              bMissing := c.window.faults.bMissing + (if cls = .bMissing then 1 else 0)
              coincident := c.window.faults.coincident + (if cls = .coincident then 1 else 0)
              dither := c.window.faults.dither + (if cls = .incomplete then 1 else 0) }⟩
            held := {
              reverse := c.held.reverse + (if counted = some .reverse then 1 else 0)
              aMissing := c.held.aMissing + (if cls = .aMissing then 1 else 0)
              bMissing := c.held.bMissing + (if cls = .bMissing then 1 else 0)
              coincident := c.held.coincident + (if cls = .coincident then 1 else 0)
              dither := c.held.dither + (if cls = .incomplete then 1 else 0) } } })) ∧
  ∀ (r : Run) (s : State),
    let c := s.channels.get r
    (s.isRestoring = false → c.runState = .offline →
      exec (.windowExpiry r) s =
        .next { s with channels := s.channels.set r { c with deadline := c.deadline + 1000000 } }) ∧
    (s.isRestoring = true →
      exec (.windowExpiry r) s = .next { s with channels := s.channels.set r { c with
        deadline := c.deadline + 1000000
        history := (c.history ++ [c.window.pulses]).drop (c.history.length + 1 - 10)
        freq := closingFreq s r
        window := .zero
        carried := {
          pulses := c.carried.pulses + c.window.pulses
          faults := c.carried.faults.add c.window.faults } } })

/-- R12, R13: the 1000th cycle of a block ends it: DEGRADED exactly if the block's errors, its own included, number more than
E; INTEGRITY raised if the status changed; both block numbers 0; nothing else changes. (EDGE_EVENT ends the block of the
cycle it classifies; this command stands for the end on its own, log entry 11.) -/
def Obligations.IntegrityBlockEndJudgesTheBlock : Prop :=
  ∀ (r : Run) (isError : Bool) (s : State),
    let c := s.channels.get r
    let degraded := decide (c.limit < c.blockErrors + (if isError then 1 else 0))
    c.runState ≠ .offline → c.blockCycles = 999 →
    exec (.integrityBlockEnd r isError) s = .next (State.raiseIf (degraded != c.degraded) .integrity
      { s with channels := s.channels.set r { c with degraded := degraded, blockCycles := 0, blockErrors := 0 } })

/-- R15 to R18, R24 to R33: the close of an enabled run's window moves its deadline, enters N into the history, computes f,
sets OVERSPEED, evaluates the run state, empties the window, and hands N over to the totalizer; RUN_STATE is raised on a
change of run state. No other run's channel changes. -/
def Obligations.WindowCloseOfEnabledRun : Prop :=
  ∀ (r : Run) (s : State),
    let c := s.channels.get r
    let f := closingFreq s r
    let state : RunState := if f < c.cutoff then .standby else .flowing
    s.enabled r → (s.totalizers.get r).kx ≠ 0 →
    ∃ t, exec (.windowExpiry r) s = .next t ∧
      t.channels = s.channels.set r { c with
        deadline := c.deadline + 1000000
        history := (c.history ++ [c.window.pulses]).drop (c.history.length + 1 - 10)
        freq := f
        window := .zero
        carried := .zero
        overspeed := decide (25000 < f)
        runState := state } ∧
      handOff s t r f (closingPulses s r) ∧
      (state ≠ c.runState → ∀ p, ((t.ports.get p).events.get .runState).flag = true) ∧
      (state = c.runState → ∀ p, (t.ports.get p).events.get .runState = (s.ports.get p).events.get .runState) ∧
      ((lookupCurve (s.curves.get r) f).2 ≠ (s.totalizers.get r).curveStatus →
        ∀ p, ((t.ports.get p).events.get .curveRange).flag = true) ∧
      t = { s with
        channels := t.channels, totalizers := t.totalizers, queue := t.queue, batch := t.batch, batchSeq := t.batchSeq,
        history := t.history, prover := t.prover, sampler := t.sampler, ports := t.ports, store := t.store }

/-- R17, R120, R123, R124: when the run that a session holds leaves FLOWING at a window close, the session ends
RESULT_ABORTED with reason RUN_STOPPED; a pass in progress joins the list as ABORTED with the passes taken as they were. -/
def Obligations.SessionEndsWhenItsRunStops : Prop :=
  ∀ (r : Run) (s : State),
    s.isRestoring = false → (s.channels.get r).runState = .flowing → s.prover.session.holds r = true →
    closingFreq s r < (s.channels.get r).cutoff →
    ∃ t x, exec (.windowExpiry r) s = .next t ∧ t.prover.session.state = .resultAborted ∧
      t.prover.session.taken = s.prover.session.taken ∧
      (s.prover.session.state = .waitDet1 → t.prover.session.passes = s.prover.session.passes) ∧
      (s.prover.session.state ≠ .waitDet1 → ∃ y, t.prover.session.passes = s.prover.session.passes ++ [y] ∧
        y.validity = .aborted ∧ y.tD1 = s.prover.session.pass.tD1 ∧ y.nm = s.prover.session.pass.nm ∧ y.t2 = 0 ∧
        y.ni = 0 ∧ y.mf = 0 ∧ y.freq = 0) ∧
      t.prover.results.get r = some x ∧ x.endState = .resultAborted ∧ x.reason = .runStopped ∧ x.mf = 0 ∧
      x.freq = 0 ∧ x.endUptime = s.uptime ∧ ∀ q, q ≠ r → t.prover.results.get q = s.prover.results.get q

/-- R36, R40, R41: a window of a run that belongs to no open batch goes into the run's eight unbatched accumulators, each
stopping at 4 294 967 295; the mark is set exactly if it was set or some of the eight saturates. The other runs' totalizers,
the batch, the queue, the history and the sampler are not touched. -/
def Obligations.WindowOutsideABatchIsUnbatched : Prop :=
  ∀ (r : Run) (s : State), s.enabled r → (s.totalizers.get r).kx ≠ 0 →
    (∀ b, s.batch = some b → inRunSet b.plan.runSet r = false) →
    ∃ t, exec (.windowExpiry r) s = .next t ∧ wentUnbatched s t r ∧
      t = { s with channels := t.channels, totalizers := t.totalizers, prover := t.prover, ports := t.ports }

/-- R36 to R41, R70, R71: a window of a run of the open batch that does not reach the target is added to the run's nine batch
accumulators with saturation, gross outside the curve and a factor moved by a changed curve counted apart, SATURATED set
exactly if it was set or one of the nine saturates; the running batch gross rises by what the batch gross took; the
pre-target sets its flag and raises PRE_TARGET; the other runs' accumulators and the unbatched ones are not touched. -/
def Obligations.WindowOfABatchedRunJoinsTheBatch : Prop :=
  ∀ (r : Run) (s : State) (b : OpenBatch),
    let reached := b.plan.target ≠ 0 ∧ b.plan.preTarget ≠ 0 ∧
      b.plan.target ≤ b.runningGross + grossTaken s r b + b.plan.preTarget
    s.enabled r → (s.totalizers.get r).kx ≠ 0 → s.batch = some b → inRunSet b.plan.runSet r = true →
    (b.acc.get r).main.volume.gross ≤ 4294967295 →
    (b.plan.target = 0 ∨ b.runningGross + grossTaken s r b < b.plan.target) →
    ∃ t b', exec (.windowExpiry r) s = .next t ∧ t.batch = some b' ∧ wentIntoBatch s r b b' ∧
      (b'.flags.preTargetReached = true ↔ b.flags.preTargetReached = true ∨ reached) ∧
      (reached → b.flags.preTargetReached = false →
        ∀ p, ((t.ports.get p).events.get .preTarget).flag = true) ∧
      (∀ q, (t.totalizers.get q).unbatched = (s.totalizers.get q).unbatched ∧
        (t.totalizers.get q).unbatchedSaturated = (s.totalizers.get q).unbatchedSaturated) ∧
      t = { s with
        channels := t.channels, totalizers := t.totalizers, batch := t.batch, prover := t.prover, sampler := t.sampler,
        ports := t.ports }

/-- R72, R76 to R81: the window that brings the running batch gross to the target is added whole and closes the batch with
cause TARGET; the record carries the overshoot and the batch sequence counter's number; then SINGLE opens nothing, CHAIN the
head plan of the queue, REPEAT the same plan with the next repeat index, each with a running batch gross of 0. With the
counter exhausted by the close nothing opens and the queue stays. -/
def Obligations.TargetWindowClosesTheBatch : Prop :=
  ∀ (r : Run) (s : State) (b : OpenBatch),
    let took := min ((b.acc.get r).main.volume.gross + closingGross s r) 4294967295 - (b.acc.get r).main.volume.gross
    s.enabled r → (s.totalizers.get r).kx ≠ 0 → s.batch = some b → inRunSet b.plan.runSet r = true →
    (b.acc.get r).main.volume.gross ≤ 4294967295 → b.plan.target ≠ 0 → b.plan.target ≤ b.runningGross + took →
    s.batchSeq ≤ 4294967295 →
    ∃ t e, exec (.windowExpiry r) s = .next t ∧ t.history.ring.getLast? = some e ∧ t.batchSeq = s.batchSeq + 1 ∧
      e.record.seq = s.batchSeq ∧ e.record.cause = .target ∧ e.record.parcel = b.plan.parcel ∧
      e.record.repeatIndex = b.repeatIndex ∧ e.record.target = b.plan.target ∧
      e.record.overshoot = b.runningGross + took - b.plan.target ∧
      (e.record.runs.get r).volume.gross = (b.acc.get r).main.volume.gross + took ∧
      (∀ q, (e.record.runs.get q).closing = (t.totalizers.get q).total ∧
        (e.record.runs.get q).opening = b.opening.get q) ∧
      (∀ p, ((t.ports.get p).events.get .batchClosed).flag = true) ∧
      (s.batchSeq = 4294967295 → t.batch = none ∧ t.queue = s.queue) ∧
      (s.batchSeq < 4294967295 →
        (b.plan.mode = .single → t.batch = none ∧ t.queue = s.queue) ∧
        (b.plan.mode = .chain → s.queue = [] → t.batch = none ∧ t.queue = []) ∧
        (∀ plan rest, b.plan.mode = .chain → s.queue = plan :: rest → t.queue = rest ∧
          ∃ b', t.batch = some b' ∧ b'.plan = plan ∧ b'.repeatIndex = 1 ∧ b'.repeatsRemaining = plan.repeatCount ∧
            b'.runningGross = 0 ∧ ∀ q, b'.opening.get q = (t.totalizers.get q).total) ∧
        (b.plan.mode = .repeating → b.repeatsRemaining ≤ 1 → t.batch = none ∧ t.queue = s.queue) ∧
        (b.plan.mode = .repeating → 1 < b.repeatsRemaining → t.queue = s.queue ∧
          ∃ b', t.batch = some b' ∧ b'.plan = b.plan ∧ b'.repeatIndex = b.repeatIndex + 1 ∧
            b'.repeatsRemaining = b.repeatsRemaining - 1 ∧ b'.runningGross = 0))

/-- R14, R19, R20: SET_CUTOFF and SET_INTEGRITY_LIMIT store the value clamped to 1 to 1 000 and to 0 to 255, answer OK and
change nothing else, whatever the run's state. RUN_ENABLE with on = 1 enables an OFFLINE run whose Kx is set and raises
RUN_STATE, is refused WRONG_STATE while Kx is unset, and changes nothing on a run already enabled; an on value above 1 is
refused BAD_ARGUMENT. -/
def Obligations.RunSettingsAndEnable : Prop :=
  ∀ (r : Run) (s : State), s.isRestoring = false →
    let c := s.channels.get r
    (∀ hi lo : Byte,
      exec (.setCutoff .sup [runByte r, hi, lo]) s = .next (State.respond .sup 0x19 ⟨.ok, []⟩
        (s.setChannel r { c with cutoff := max 1 (min (hi ++ lo).toNat 1000) })) ∧
      exec (.setIntegrityLimit .sup [runByte r, hi, lo]) s = .next (State.respond .sup 0x1A ⟨.ok, []⟩
        (s.setChannel r { c with limit := min (hi ++ lo).toNat 255 }))) ∧
    (c.runState = .offline → (s.totalizers.get r).kx = 0 →
      exec (.runEnable .sup [runByte r, 1]) s = .next (s.respond .sup 0x18 ⟨.wrongState, []⟩)) ∧
    (c.runState = .offline → (s.totalizers.get r).kx ≠ 0 →
      exec (.runEnable .sup [runByte r, 1]) s = .next (State.respond .sup 0x18 ⟨.ok, []⟩
        (State.raise .runState { s with channels := s.channels.set r { c with
          history := [], freq := 0, window := .zero, direction := .forward, blockCycles := 0, blockErrors := 0,
          overspeed := false, offlineSeen := false, runState := .standby } }))) ∧
    (c.runState ≠ .offline →
      exec (.runEnable .sup [runByte r, 1]) s = .next (s.respond .sup 0x18 ⟨.ok, []⟩)) ∧
    ∀ on : Byte, 1 < on.toNat →
      exec (.runEnable .sup [runByte r, on]) s = .next (s.respond .sup 0x18 ⟨.badArgument, []⟩)

/-- R21: RUN_ENABLE with on = 0 closes the partial window of an enabled run and hands it over as a full one, takes the run
OFFLINE with RUN_STATE raised, empties the history and clears OVERSPEED; the direction memory, the integrity status and
block, the cumulative counters, the cutoff and the limit are kept; on an OFFLINE run it changes nothing. The window goes to
the open batch if the run belongs to it, where it may reach the target, and else to the unbatched accumulators (R36, R70,
R72). A session that holds the FLOWING run ends RESULT_ABORTED with reason RUN_STOPPED (R17, R120, R123, R124). (A carried
window not yet handed over goes with it, log entry 12.) -/
def Obligations.DisableClosesThePartialWindow : Prop :=
  ∀ (r : Run) (s : State), s.isRestoring = false →
    let c := s.channels.get r
    (c.runState = .offline → exec (.runEnableOff .sup (runByte r)) s = .next (s.respond .sup 0x18 ⟨.ok, []⟩)) ∧
    (c.runState ≠ .offline → (s.totalizers.get r).kx ≠ 0 →
      ∃ t, exec (.runEnableOff .sup (runByte r)) s = .next t ∧ (t.ports.get .sup).response = ⟨.ok, 0x18, []⟩ ∧
        t.channels = s.channels.set r { c with
          window := .zero, carried := .zero, history := [], freq := 0, overspeed := false, offlineSeen := false,
          runState := .offline } ∧
        handOff s t r (closingFreq s r) (closingPulses s r) ∧
        (∀ p, ((t.ports.get p).events.get .runState).flag = true) ∧
        ((∀ b, s.batch = some b → inRunSet b.plan.runSet r = false) → wentUnbatched s t r) ∧
        (∀ b, s.batch = some b → inRunSet b.plan.runSet r = true → (b.acc.get r).main.volume.gross ≤ 4294967295 →
          (b.plan.target = 0 ∨ b.runningGross + grossTaken s r b < b.plan.target →
            ∃ b', t.batch = some b' ∧ wentIntoBatch s r b b' ∧ t.history = s.history ∧ t.store = s.store ∧
              ∀ q, (t.totalizers.get q).unbatched = (s.totalizers.get q).unbatched) ∧
          (b.plan.target ≠ 0 → b.plan.target ≤ b.runningGross + grossTaken s r b → s.batchSeq ≤ 4294967295 →
            ∃ e, t.history.ring.getLast? = some e ∧ e.record.seq = s.batchSeq ∧ e.record.cause = .target ∧
              e.record.overshoot = b.runningGross + grossTaken s r b - b.plan.target ∧
              (e.record.runs.get r).volume.gross = (b.acc.get r).main.volume.gross + grossTaken s r b ∧
              ∀ p, ((t.ports.get p).events.get .batchClosed).flag = true)) ∧
        (s.prover.session.holds r = false → t.prover = s.prover) ∧
        (s.prover.session.holds r = true → c.runState = .flowing →
          t.prover.session.state = .resultAborted ∧ t.prover.session.taken = s.prover.session.taken ∧
          (s.prover.session.state = .waitDet1 → t.prover.session.passes = s.prover.session.passes) ∧
          (s.prover.session.state ≠ .waitDet1 → ∃ y, t.prover.session.passes = s.prover.session.passes ++ [y] ∧
            y.validity = .aborted ∧ y.tD1 = s.prover.session.pass.tD1 ∧ y.nm = s.prover.session.pass.nm) ∧
          (∀ q, q ≠ r → t.prover.results.get q = s.prover.results.get q) ∧
          ∃ x, t.prover.results.get r = some x ∧ x.endState = .resultAborted ∧ x.reason = .runStopped ∧
            x.endUptime = s.uptime) ∧
        t = { s with
          lines := t.lines, channels := t.channels, totalizers := t.totalizers, queue := t.queue, batch := t.batch,
          batchSeq := t.batchSeq, history := t.history, prover := t.prover, sampler := t.sampler, ports := t.ports,
          store := t.store })

/-- R14, R19, R20, R21, R45, R46, R57, R102, R126: a run number outside 1 to 4 is refused BAD_ARGUMENT by every request that
names a run, and changes nothing. -/
def Obligations.RunNumbersOutsideOneToFourAreRefused : Prop :=
  ∀ (n x y z a b : Byte) (p : Port) (s : State), s.isRestoring = false → n = 0 ∨ 4 < n.toNat →
    exec (.setCutoff .sup [n, x, y]) s = .next (s.respond .sup 0x19 ⟨.badArgument, []⟩) ∧
    exec (.setIntegrityLimit .sup [n, x, y]) s = .next (s.respond .sup 0x1A ⟨.badArgument, []⟩) ∧
    exec (.runEnable .sup [n, 1]) s = .next (s.respond .sup 0x18 ⟨.badArgument, []⟩) ∧
    exec (.runEnableOff .sup n) s = .next (s.respond .sup 0x18 ⟨.badArgument, []⟩) ∧
    exec (.readTotals p [n, x]) s = .next (s.respond p 0x11 ⟨.badArgument, []⟩) ∧
    exec (.readRun p [n, x]) s = .next (s.respond p 0x10 ⟨.badArgument, []⟩) ∧
    exec (.readCurve p [n]) s = .next (s.respond p 0x12 ⟨.badArgument, []⟩) ∧
    exec (.proveStart .sup [n, x, y, z, a, b]) s = .next (s.respond .sup 0x32 ⟨.badArgument, []⟩) ∧
    exec (.provePost .sup [n]) s = .next (s.respond .sup 0x34 ⟨.badArgument, []⟩)

/-! ### Volume arithmetic and curves (R26 to R31, R45 to R59) -/

/-- R26, R27: the lookup's factor and status for every place of the frequency, the factor between two points rounded to
nearest with halves away from zero and lying between theirs, and every factor within 900 000 to 1 100 000. -/
def Obligations.CurveLookupFollowsTheTable : Prop :=
  ∀ (points : List CurvePoint) (f : Nat), legalCurve points →
    legalFactor (lookupCurve points f).1 ∧
    (points = [] → lookupCurve points f = (1000000, .noCurve)) ∧
    (∀ p rest, points = p :: rest →
      (f < p.freq → lookupCurve points f = (p.mf, .belowCurve)) ∧
      (f = p.freq → lookupCurve points f = (p.mf, .inRange))) ∧
    (∀ front q, points = front ++ [q] →
      (f = q.freq → lookupCurve points f = (q.mf, .inRange)) ∧
      (q.freq < f → lookupCurve points f = (q.mf, .aboveCurve))) ∧
    ∀ front p q rest, points = front ++ p :: q :: rest → p.freq ≤ f → f < q.freq →
      let n : Int := ((q.mf : Int) - p.mf) * ((f : Int) - p.freq)
      let d : Int := (q.freq : Int) - p.freq
      ∃ m : Nat, lookupCurve points f = (m, .inRange) ∧
        (0 ≤ n → 2 * n - d < 2 * d * ((m : Int) - p.mf) ∧ 2 * d * ((m : Int) - p.mf) ≤ 2 * n + d) ∧
        (n < 0 → 2 * n - d ≤ 2 * d * ((m : Int) - p.mf) ∧ 2 * d * ((m : Int) - p.mf) < 2 * n + d) ∧
        min p.mf q.mf ≤ m ∧ m ≤ max p.mf q.mf

/-- R30, R31: cutting pulses into windows loses no litre and makes none: over any run of windows with an unchanged Kx the
indicated increments sum to floor((R0 + P x 10^6) / Kx), the gross increments to the same floor over the windows' factors,
and after every window each remainder lies below its divisor. -/
def Obligations.RemaindersLoseNoLitre : Prop :=
  ∀ (t : Totalizer) (windows : List (Nat × Nat)), t.kx ≠ 0 →
    t.indicatedRemainder < t.kx → t.grossRemainder < t.kx * 1000000 →
    let out := windows.foldl (fun (sum : Nat × Nat × Totalizer) w =>
      let x := sum.2.2.convert w.1 w.2
      (sum.1 + x.1.indicated, sum.2.1 + x.1.gross, x.2)) (0, 0, t)
    let pulses := (windows.map fun w => w.1 * 1000000).sum
    let corrected := (windows.map fun w => w.1 * 1000000 * w.2).sum
    out.1 = (t.indicatedRemainder + pulses) / t.kx ∧
    out.2.1 = (t.grossRemainder + corrected) / (t.kx * 1000000) ∧
    out.2.2 = { t with
      indicatedRemainder := (t.indicatedRemainder + pulses) % t.kx
      grossRemainder := (t.grossRemainder + corrected) % (t.kx * 1000000) } ∧
    out.2.2.indicatedRemainder < t.kx ∧ out.2.2.grossRemainder < t.kx * 1000000

/-- R48, R52 to R55: an applied point replaces the nearest point of its band in place, the lower of two equally near; with none
in the band it joins in ascending frequency while there is room, and else fails CURVE_FULL; a deletion removes the point at
exactly its frequency or fails NO_POINT; every outcome is a curve of R48. -/
def Obligations.CurvePointChanges : Prop :=
  ∀ (points : List CurvePoint) (x : CurvePoint), legalCurve points → x.legal →
    let away (p : CurvePoint) : Nat := ((p.freq : Int) - x.freq).natAbs
    let band (p : CurvePoint) : Prop := away p * 50 ≤ x.freq
    (∀ front p rest, points = front ++ p :: rest → band p →
      (∀ q ∈ points, band q → away p < away q ∨ (away p = away q ∧ p.freq ≤ q.freq)) →
      applyPoint x points = .ok (front ++ x :: rest)) ∧
    ((∀ p ∈ points, ¬ band p) → points.length < 8 →
      ∃ front rest, points = front ++ rest ∧ (∀ p ∈ front, p.freq < x.freq) ∧ (∀ p ∈ rest, x.freq < p.freq) ∧
        applyPoint x points = .ok (front ++ x :: rest)) ∧
    ((∀ p ∈ points, ¬ band p) → points.length = 8 → applyPoint x points = .error .curveFull) ∧
    (∀ front p rest, points = front ++ p :: rest → p.freq = x.freq → deletePoint x.freq points = .ok (front ++ rest)) ∧
    ((∀ p ∈ points, p.freq ≠ x.freq) → deletePoint x.freq points = .error .noPoint) ∧
    (∀ l, applyPoint x points = .ok l → legalCurve l) ∧
    ∀ l, deletePoint x.freq points = .ok l → legalCurve l

/-- R45 to R47, R57: READ_RUN's two parts, READ_TOTALS and READ_CURVE answer the figures of the request event in the rules'
order and sizes, and change nothing; a part above 1 is refused. -/
def Obligations.RunReadsAnswerTheFigures : Prop :=
  ∀ (p : Port) (r : Run) (s : State), s.isRestoring = false →
    let c := s.channels.get r
    let t := s.totalizers.get r
    let points := s.curves.get r
    (c.fits → ∃ flags : Byte, holdsFlags flags [c.degraded, c.overspeed, c.offlineSeen, decide (c.direction = .reverse)] ∧
      exec (.readRun p [runByte r, 0]) s = .next (s.respond p 0x10 ⟨.ok,
        [runByte r, byteOf (runStateCode c.runState), flags, byteOf c.history.length] ++ bytesOf 4 c.freq ++
          bytesOf 2 c.cutoff ++ [byteOf c.limit] ++ bytesOf 2 c.blockCycles ++ bytesOf 2 c.blockErrors ++
          bytesOf 4 c.window.pulses ++ bytesOf 4 c.window.faults.reverse ++ faultBytes 4 c.cumulative ++
          bytesOf 4 c.offlinePulses⟩)) ∧
    (t.fits → ∃ flags : Byte, holdsFlags flags [t.unbatchedSaturated, t.curveChanged] ∧
      exec (.readRun p [runByte r, 1]) s = .next (s.respond p 0x10 ⟨.ok,
        [runByte r] ++ bytesOf 4 t.kx ++ [byteOf (curveStatusCode t.curveStatus)] ++ bytesOf 4 (t.lastMf.getD 0) ++
          [flags] ++ bytesOf 4 t.indicatedRemainder ++ bytesOf 6 t.grossRemainder ++ tripleBytes 4 t.unbatched.volume ++
          faultBytes 4 t.unbatched.faults⟩)) ∧
    (∀ part : Byte, 1 < part.toNat →
      exec (.readRun p [runByte r, part]) s = .next (s.respond p 0x10 ⟨.badArgument, []⟩)) ∧
    (t.fits → ∀ scale : Byte,
      let used := min scale.toNat 6
      exec (.readTotals p [runByte r, scale]) s = .next (s.respond p 0x11 ⟨.ok,
        [runByte r, byteOf used] ++ bytesOf 6 s.tick.toNat ++ bytesOf 6 (t.total.pulses / 10 ^ used) ++
          bytesOf 6 (t.total.indicated / 10 ^ used) ++ bytesOf 6 (t.total.gross / 10 ^ used) ++
          tripleBytes 1 t.rollover⟩)) ∧
    (legalCurve points → s.control.changeCount ≤ max32 →
      exec (.readCurve p [runByte r]) s = .next (s.respond p 0x12 ⟨.ok,
        [runByte r, byteOf points.length] ++ bytesOf 4 s.control.changeCount ++
          points.flatMap fun x => bytesOf 2 x.freq ++ bytesOf 4 x.mf⟩))

/-! ### Batches (R60 to R83) -/

/-- R60, R62 to R64: PLAN_ADD checks its fields, then the parcel id, then the room, and queues the plan at the tail;
PLAN_REMOVE takes a queued plan out; PLAN_CLEAR empties the queue; nothing but the queue and the response changes. -/
def Obligations.PlanCommandsChangeTheQueue : Prop :=
  ∀ s : State, s.isRestoring = false → s.queue.length ≤ 8 → (s.queue.map Plan.parcel).Nodup →
    let ok (code : Byte) (data : List Byte) (q : List Plan) : Host.Outcome State Fault Refusal :=
      .next (State.respond .sup code ⟨.ok, data⟩ { s with queue := q })
    let no (code : Byte) (status : Status) : Host.Outcome State Fault Refusal :=
      .next (s.respond .sup code ⟨status, []⟩)
    let isOpen (parcel : Nat) : Prop := ∃ b, s.batch = some b ∧ b.plan.parcel = parcel
    let isQueued (parcel : Nat) : Prop := parcel ∈ s.queue.map Plan.parcel
    (∀ a b c d g t0 t1 t2 t3 q0 q1 q2 q3 rs md rp : Byte,
      let args := [a, b, c, d, g, t0, t1, t2, t3, q0, q1, q2, q3, rs, md, rp]
      let parcel := (a ++ b ++ c ++ d).toNat
      let bad : Prop := parcel = 0 ∨ g = 0 ∨ rs = 0 ∨ 15 < rs.toNat ∨ 2 < md.toNat ∨ (md = 2 ∧ rp = 0)
      let plan : Plan := {
        parcel := parcel, grade := g.toNat, target := (t0 ++ t1 ++ t2 ++ t3).toNat
        preTarget := (q0 ++ q1 ++ q2 ++ q3).toNat, runSet := rs.setWidth 4
        mode := if md = 0 then .single else if md = 1 then .chain else .repeating
        repeatCount := if md = 2 then rp.toNat else 1 }
      (bad → exec (.planAdd .sup args) s = no 0x22 .badArgument) ∧
      (¬ bad → isQueued parcel ∨ isOpen parcel → exec (.planAdd .sup args) s = no 0x22 .duplicate) ∧
      (¬ bad → ¬ isQueued parcel → ¬ isOpen parcel → s.queue.length = 8 →
        exec (.planAdd .sup args) s = no 0x22 .full) ∧
      (¬ bad → ¬ isQueued parcel → ¬ isOpen parcel → s.queue.length < 8 →
        exec (.planAdd .sup args) s = ok 0x22 [byteOf (s.queue.length + 1)] (s.queue ++ [plan]))) ∧
    (∀ a b c d : Byte,
      let parcel := (a ++ b ++ c ++ d).toNat
      (isOpen parcel → exec (.planRemove .sup [a, b, c, d]) s = no 0x23 .wrongState) ∧
      (¬ isOpen parcel → ¬ isQueued parcel → exec (.planRemove .sup [a, b, c, d]) s = no 0x23 .notFound) ∧
      ∀ front plan rest, ¬ isOpen parcel → s.queue = front ++ plan :: rest → plan.parcel = parcel →
        exec (.planRemove .sup [a, b, c, d]) s = ok 0x23 [byteOf (front ++ rest).length] (front ++ rest)) ∧
    exec (.planClear .sup []) s = ok 0x24 [] []

/-- R67 to R69: BATCH_OPEN is refused WRONG_STATE, NOT_FOUND or FULL in that order; else the head plan leaves the queue and
opens with index 1, the snapshots of totals, change count and unbatched litres, empty accumulators and flags; every
unbatched accumulator is emptied, the sampler starts from 0 with its pending grabs carried in, and BATCH_OPENED is raised. -/
def Obligations.BatchOpenTakesTheHeadPlan : Prop :=
  ∀ s : State, s.isRestoring = false →
    ((∃ b, s.batch = some b) → exec (.batchOpen .sup []) s = .next (s.respond .sup 0x25 ⟨.wrongState, []⟩)) ∧
    (s.batch = none → s.queue = [] → exec (.batchOpen .sup []) s = .next (s.respond .sup 0x25 ⟨.notFound, []⟩)) ∧
    ∀ plan rest, s.batch = none → s.queue = plan :: rest →
      (4294967295 < s.batchSeq → exec (.batchOpen .sup []) s = .next (s.respond .sup 0x25 ⟨.full, []⟩)) ∧
      (s.batchSeq ≤ 4294967295 → plan.parcel ≤ 4294967295 →
        ∃ saturated : Bool, (saturated = true ↔ ∃ r, (s.totalizers.get r).unbatchedSaturated = true) ∧
          exec (.batchOpen .sup []) s = .next (State.respond .sup 0x25 ⟨.ok, bytesOf 4 plan.parcel ++ [1]⟩
            (State.raise .batchOpened { s with
              queue := rest
              batch := some {
                plan := plan, repeatIndex := 1, repeatsRemaining := plan.repeatCount
                openTime := if s.stationSet then s.stationTime else 0, openTimeValid := s.stationSet
                opening := .ofFn fun r => (s.totalizers.get r).total
                changeCountAtOpen := s.control.changeCount
                preceding := .ofFn fun r =>
                  ⟨(s.totalizers.get r).unbatched.volume.indicated, (s.totalizers.get r).unbatched.volume.gross⟩
                acc := .all .zero
                flags := ⟨saturated, false, false, false, false⟩
                runningGross := 0 }
              totalizers := .ofFn fun r =>
                { s.totalizers.get r with unbatched := .zero, unbatchedSaturated := false }
              sampler := { s.sampler with
                volume := 0, counts := ⟨0, 0, 0, 0, 0, s.sampler.pendingGrabs.length⟩ } })))

/-- R74, R76 to R79, R84, R85, R88, R89, R158: BATCH_CLOSE is refused WRONG_STATE with no batch open; else the batch is frozen
into the record numbered by the batch sequence counter, which joins the ring behind what a full ring keeps; the counter
moves on, every pending grab becomes carried, the grab counts read 0, BATCH_CLOSED is raised and no batch follows. A cursor
on the dropped record moves to the new oldest, with one more record lost and RECORD_LOST raised in that port; a cursor at
the end names the new record. Then the RECORD job is handed to the store: accepted it leaves the record PENDING, and it
joins the tail or, in READY, begins at once; refused it leaves the record NOT_RETAINED with RETENTION raised. A CHECKPOINT
request follows it (R79 steps 2 and 3, R186, R187). The copy or slot of a job that begins, and its marker, are log
entry 17. -/
def Obligations.BatchCloseFreezesTheRecord : Prop :=
  ∀ s : State, s.isRestoring = false →
    (s.batch = none → exec (.batchClose .sup []) s = .next (s.respond .sup 0x26 ⟨.wrongState, []⟩)) ∧
    ∀ b, s.batch = some b → s.batchSeq ≤ 4294967295 → s.historyLegal →
      ∃ t e front, exec (.batchClose .sup []) s = .next t ∧
        (t.ports.get .sup).response = ⟨.ok, 0x26, bytesOf 4 s.batchSeq⟩ ∧
        t.history.ring = front ++ [e] ∧
        front.map (fun x => x.record) =
          (s.history.ring.map fun x => x.record).drop (if s.history.ring.length = 24 then 1 else 0) ∧
        e.record = {
          seq := s.batchSeq, parcel := b.plan.parcel, grade := b.plan.grade, mode := b.plan.mode
          repeatIndex := b.repeatIndex, cause := .requested, flags := b.flags
          timeValid := b.openTimeValid && s.stationSet, runSet := b.plan.runSet, openTime := b.openTime
          closeTime := if s.stationSet then s.stationTime else 0, target := b.plan.target, overshoot := 0
          changesOpen := b.changeCountAtOpen, changesClose := s.control.changeCount, grabs := s.sampler.counts
          pendingGrabs := (s.sampler.pendingGrabs.filter (· = .own)).length, fill := s.sampler.fill
          runs := .ofFn fun r => {
            volume := (b.acc.get r).main.volume, outsideCurve := (b.acc.get r).outsideCurve
            preceding := b.preceding.get r
            faults := {
              reverse := min (b.acc.get r).main.faults.reverse 255
              aMissing := min (b.acc.get r).main.faults.aMissing 255
              bMissing := min (b.acc.get r).main.faults.bMissing 255
              coincident := min (b.acc.get r).main.faults.coincident 255
              dither := min (b.acc.get r).main.faults.dither 255 }
            mfChanges := (b.acc.get r).mfChanges
            weightedMf := if (b.acc.get r).main.volume.indicated = 0 then 0 else
              (2 * ((b.acc.get r).main.volume.gross * 1000000) + (b.acc.get r).main.volume.indicated) /
                (2 * (b.acc.get r).main.volume.indicated)
            opening := b.opening.get r, closing := (s.totalizers.get r).total } } ∧
        e.retention ≠ .retained ∧
        (s.store.status = .halted ∨ s.store.powerFail = true ∨ s.store.queue.length = 4 → e.retention = .notRetained) ∧
        (s.storeLegal → s.recordsLegal →
          let x := s.store
          let kept := s.history.ring.drop (if s.history.ring.length = 24 then 1 else 0)
          let refused : Prop := x.status = .halted ∨ x.powerFail = true ∨ x.queue.length = 4
          (refused → front = kept ∧ jobAsked t x t.store .checkpoint ∧
            ∀ p, ((t.ports.get p).events.get .retention).flag = true ∧ (t.ports.get p).causes.recordNotRetained = true) ∧
          (¬ refused → e.retention = .pending ∧
            (x.status = .writing → front = kept ∧
              jobAsked t { x with queue := x.queue ++ [.record e.record] } t.store .checkpoint) ∧
            (x.status = .ready → ∃ u, u.history.ring = front ++ [e] ∧ jobAsked t u.store t.store .checkpoint ∧
              jobBegins { s with
                store := { x with queue := [.record e.record] }
                history := { s.history with ring := kept ++ [e] } } u (.record e.record) ∧
              ∀ p, (t.ports.get p).events.get .retention = (u.ports.get p).events.get .retention ∧
                (t.ports.get p).causes = (u.ports.get p).causes))) ∧
        t.batch = none ∧ t.batchSeq = s.batchSeq + 1 ∧
        t.sampler = { s.sampler with
          counts := ⟨0, 0, 0, 0, 0, 0⟩, pendingGrabs := List.replicate s.sampler.pendingGrabs.length .carried } ∧
        (∀ p, ((t.ports.get p).events.get .batchClosed).flag = true) ∧
        (∀ p, (s.history.cursors.get p = s.endSeq →
            t.history.cursors.get p = s.batchSeq ∧ t.history.lost.get p = s.history.lost.get p) ∧
          (∀ oldest second rest, s.history.seqs = oldest :: second :: rest → s.history.ring.length = 24 →
            s.history.cursors.get p = oldest →
            t.history.cursors.get p = second ∧ t.history.lost.get p = min (s.history.lost.get p + 1) 255 ∧
              ((t.ports.get p).events.get .recordLost).flag = true) ∧
          (s.history.cursors.get p ∈ s.history.seqs.drop (if s.history.ring.length = 24 then 1 else 0) →
            t.history.cursors.get p = s.history.cursors.get p ∧ t.history.lost.get p = s.history.lost.get p)) ∧
        t = { s with
          lines := t.lines, batch := t.batch, batchSeq := t.batchSeq, history := t.history, sampler := t.sampler
          ports := t.ports, store := t.store }

/-- R65, R83: READ_QUEUE answers a queued plan, or NOT_FOUND at or beyond the queue's length; READ_BATCH answers the open batch
or zeros, and a run's figures in it, WRONG_STATE for a run's part with no batch open, BAD_ARGUMENT for a part above 4.
Nothing changes. -/
def Obligations.BatchReadsAnswerTheFigures : Prop :=
  ∀ (p : Port) (s : State), s.isRestoring = false → s.queue.length ≤ 8 →
    let counter := if s.batchSeq ≤ 4294967295 then s.batchSeq else 0
    (∀ (n : Byte) (plan : Plan), s.queue[n.toNat]? = some plan → plan.legal →
      exec (.readQueue p [n]) s = .next (s.respond p 0x21 ⟨.ok,
        [n, byteOf s.queue.length] ++ bytesOf 4 plan.parcel ++ [byteOf plan.grade] ++ bytesOf 4 plan.target ++
          bytesOf 4 plan.preTarget ++ [byteOf plan.runSet.toNat, byteOf (modeCode plan.mode), byteOf plan.repeatCount]⟩)) ∧
    (∀ n : Byte, s.queue.length ≤ n.toNat →
      exec (.readQueue p [n]) s = .next (s.respond p 0x21 ⟨.notFound, []⟩)) ∧
    (s.batch = none →
      exec (.readBatch p [0]) s = .next (s.respond p 0x20 ⟨.ok,
        bytesOf 33 0 ++ [byteOf s.queue.length] ++ bytesOf 4 counter⟩)) ∧
    (s.batch = none → ∀ r,
      exec (.readBatch p [runByte r]) s = .next (s.respond p 0x20 ⟨.wrongState, []⟩)) ∧
    (∀ n : Byte, 4 < n.toNat → exec (.readBatch p [n]) s = .next (s.respond p 0x20 ⟨.badArgument, []⟩)) ∧
    ∀ b, s.batch = some b → b.fits →
      (∃ flags : Byte,
        holdsFlags flags [b.flags.saturated, b.flags.powerInterrupted, b.flags.kChanged, b.flags.provedDuring,
          b.flags.preTargetReached, b.openTimeValid] ∧
        exec (.readBatch p [0]) s = .next (s.respond p 0x20 ⟨.ok,
          [1] ++ bytesOf 4 b.plan.parcel ++
            [byteOf b.plan.grade, byteOf (modeCode b.plan.mode), byteOf b.repeatIndex, byteOf b.repeatsRemaining, flags] ++
            bytesOf 4 b.openTime.toNat ++ bytesOf 4 b.plan.target ++ bytesOf 4 b.plan.preTarget ++
            [byteOf b.plan.runSet.toNat] ++ bytesOf 6 b.runningGross ++ bytesOf 4 b.changeCountAtOpen ++
            [byteOf s.queue.length] ++ bytesOf 4 counter⟩)) ∧
      ∀ r, exec (.readBatch p [runByte r]) s = .next (s.respond p 0x20 ⟨.ok,
        [runByte r] ++ tripleBytes 4 (b.acc.get r).main.volume ++ bytesOf 4 (b.acc.get r).outsideCurve ++
          faultBytes 4 (b.acc.get r).main.faults ++ [byteOf (b.acc.get r).mfChanges] ++
          bytesOf 4 (b.preceding.get r).indicated ++ bytesOf 4 (b.preceding.get r).gross ++
          tripleBytes 6 (b.opening.get r)⟩)

/-! ### History requests (R86 to R95) -/

/-- R86, R90, R91: READ_RECORD refuses a part above 4 or an advance above 1 and a sequence that names no record; else it answers
the 64 bytes of the part in the record layout, and only selector 0 with part 4 and advance 1 moves the port's cursor on, to
the next record or the end. -/
def Obligations.RecordReadsFollowTheLayout : Prop :=
  ∀ (p : Port) (a b c d part adv : Byte) (s : State), s.isRestoring = false → s.historyLegal →
    let q := (a ++ b ++ c ++ d).toNat
    let chosen := if q = 0 then s.history.cursors.get p else q
    let answer := exec (.readRecord p [a, b, c, d, part, adv]) s
    (4 < part.toNat ∨ 1 < adv.toNat → answer = .next (s.respond p 0x28 ⟨.badArgument, []⟩)) ∧
    (part.toNat ≤ 4 → adv.toNat ≤ 1 → (∀ e ∈ s.history.ring, e.record.seq ≠ chosen) →
      answer = .next (s.respond p 0x28 ⟨.notFound, []⟩)) ∧
    ∀ front e rest, part.toNat ≤ 4 → adv.toNat ≤ 1 → s.history.ring = front ++ e :: rest → e.record.seq = chosen →
      e.record.fits →
      let x := e.record
      let next := match rest with
        | [] => x.seq + 1
        | y :: _ => y.record.seq
      ∃ data : List Byte,
        answer = .next (State.respond p 0x28 ⟨.ok, data⟩
          (if q = 0 ∧ part = 4 ∧ adv = 1 then
            { s with history := { s.history with cursors := s.history.cursors.set p next } } else s)) ∧
        data.length = 64 ∧
        (part = 0 → ∃ flags : Byte,
          holdsFlags flags [x.flags.saturated, x.flags.powerInterrupted, x.flags.kChanged, x.flags.provedDuring,
            x.flags.preTargetReached, x.timeValid, decide (e.retention = .retained), decide (e.retention = .notRetained)] ∧
          data = bytesOf 4 x.seq ++ bytesOf 4 x.parcel ++
            [byteOf x.grade, byteOf (modeCode x.mode), byteOf x.repeatIndex, byteOf (causeCode x.cause), flags,
              byteOf x.runSet.toNat] ++ bytesOf 4 x.openTime.toNat ++ bytesOf 4 x.closeTime.toNat ++ bytesOf 4 x.target ++
            bytesOf 4 x.overshoot ++ bytesOf 4 x.changesOpen ++ bytesOf 4 x.changesClose ++ bytesOf 4 x.grabs.due ++
            bytesOf 4 x.grabs.issued ++ bytesOf 4 x.grabs.hold ++ bytesOf 4 x.grabs.full ++ bytesOf 4 x.grabs.overflow ++
            [byteOf x.pendingGrabs, byteOf x.grabs.carriedIn] ++ bytesOf 4 x.fill) ∧
        ∀ r, part = runByte r →
          let y := x.runs.get r
          data = [runByte r] ++ tripleBytes 4 y.volume ++ bytesOf 4 y.outsideCurve ++ bytesOf 4 y.preceding.indicated ++
            bytesOf 4 y.preceding.gross ++ faultBytes 1 y.faults ++ [byteOf y.mfChanges] ++ bytesOf 3 y.weightedMf ++
            tripleBytes 5 y.opening ++ tripleBytes 5 y.closing

/-- R92 to R95: SET_CURSOR clamps a value from 1 upward into O to E and moves it up over a gap, leaves the cursor for 0, answers
the port's position and clears its lost count; FIND_PARCEL answers the first record of the parcel in its direction, the
cursor's own included, and moves the cursor only on request. No other port's cursor moves. That the answer of FIND_PARCEL is
the seven bytes of R95, the sequence in four, and has not the five-byte field of R99, is the model's choice (log
entry 27). -/
def Obligations.CursorsAndParcelSearch : Prop :=
  ∀ (p : Port) (a b c d : Byte) (s : State), s.isRestoring = false → s.historyLegal → s.batchSeq ≤ 4294967296 →
    let v := (a ++ b ++ c ++ d).toNat
    let cursor := s.history.cursors.get p
    (∃ n, (v = 0 → n = cursor) ∧
      (v ≠ 0 → max s.oldestSeq (min v s.endSeq) ≤ n ∧ (n ∈ s.history.seqs ∨ n = s.endSeq) ∧
        ∀ q ∈ s.history.seqs, max s.oldestSeq (min v s.endSeq) ≤ q → n ≤ q) ∧
      exec (.setCursor p [a, b, c, d]) s = .next (State.respond p 0x2A ⟨.ok,
        bytesOf 5 n ++ bytesOf 5 s.oldestSeq ++ bytesOf 5 s.endSeq ++
          [byteOf s.history.ring.length, byteOf (s.history.lost.get p)]⟩
        { s with history := { s.history with
          cursors := s.history.cursors.set p n, lost := s.history.lost.set p 0 } })) ∧
    (s.history.ring = [] → s.oldestSeq = s.batchSeq ∧ s.endSeq = s.batchSeq) ∧
    (∀ e rest, s.history.ring = e :: rest → s.oldestSeq = e.record.seq) ∧
    (∀ front e, s.history.ring = front ++ [e] → s.endSeq = e.record.seq + 1) ∧
    ∀ dir move : Byte,
      let answer := exec (.findParcel p [a, b, c, d, dir, move]) s
      let scanned (e : RingEntry) : Prop := if dir = 0 then cursor ≤ e.record.seq else e.record.seq ≤ cursor
      (1 < dir.toNat ∨ 1 < move.toNat → answer = .next (s.respond p 0x29 ⟨.badArgument, []⟩)) ∧
      (dir.toNat ≤ 1 → move.toNat ≤ 1 →
        (v = 0 ∨ ∀ e ∈ s.history.ring, scanned e → e.record.parcel ≠ v) →
        answer = .next (s.respond p 0x29 ⟨.notFound, []⟩)) ∧
      ∀ e ∈ s.history.ring, dir.toNat ≤ 1 → move.toNat ≤ 1 → v ≠ 0 → e.record.parcel = v → scanned e →
        (∀ y ∈ s.history.ring, scanned y → y.record.parcel = v →
          if dir = 0 then e.record.seq ≤ y.record.seq else y.record.seq ≤ e.record.seq) →
        e.record.fits →
        answer = .next (State.respond p 0x29 ⟨.ok,
          bytesOf 4 e.record.seq ++
            [byteOf e.record.repeatIndex, byteOf (causeCode e.record.cause), byteOf (retentionCode e.retention)]⟩
          (if move = 1 then
            { s with history := { s.history with cursors := s.history.cursors.set p e.record.seq } } else s))

/-! ### Proving (R100 to R128) -/

/-- R102, R103: PROVE_START is refused BAD_ARGUMENT for a post above 1, BUSY while a session is active, WRONG_STATE unless the
run is FLOWING and NORMAL with BV and Kx set; else it clamps P, M and L, sets up the session in WAIT_DET1 and answers them.
No event is raised and no last result changes. -/
def Obligations.ProveStartSetsUpTheSession : Prop :=
  ∀ (r : Run) (required most hi lo post : Byte) (s : State), s.isRestoring = false →
    let answer := exec (.proveStart .sup [runByte r, required, most, hi, lo, post]) s
    let ready : Prop := (s.channels.get r).runState = .flowing ∧ (s.channels.get r).degraded = false ∧
      s.prover.baseVolume ≠ 0 ∧ (s.totalizers.get r).kx ≠ 0
    let p := max 2 (min required.toNat 10)
    let m := max p (min most.toNat 20)
    let l := max 10 (min (hi ++ lo).toNat 5000)
    (1 < post.toNat → answer = .next (s.respond .sup 0x32 ⟨.badArgument, []⟩)) ∧
    (post.toNat ≤ 1 → s.prover.session.state.isActive = true → answer = .next (s.respond .sup 0x32 ⟨.busy, []⟩)) ∧
    (post.toNat ≤ 1 → s.prover.session.state.isActive = false → ¬ ready →
      answer = .next (s.respond .sup 0x32 ⟨.wrongState, []⟩)) ∧
    (post.toNat ≤ 1 → s.prover.session.state.isActive = false → ready →
      answer = .next (State.respond .sup 0x32 ⟨.ok, [byteOf p, byteOf m] ++ bytesOf 2 l⟩
        { s with prover := { s.prover with session := {
          state := .waitDet1, run := some r, p := p, m := m, l := l, post := decide (post = 1), taken := 0, passes := []
          outOfOrder := 0, entryUptime := s.uptime, pass := ⟨0, false, 0, 0, 0, false, false⟩, lastSpread := none } } }))

/-- R119, R123 to R126: PROVE_ABORT ends the active session RESULT_ABORTED with reason REQUESTED, a pass in progress kept as
ABORTED with the passes taken as they were, and is refused WRONG_STATE with none active. PROVE_POST offers a RESULT_PASS
result that is NOT_POSTED to change control as an MF_POINT of the prover, and is refused WRONG_STATE for any other result
or an inadmissible frequency, FULL while every slot is OPEN. That an abort in a pass raises PROVING once and clears the
figures of the pass is log entry 23, the next proposal id log entry 19, the aborted pass's T1 log entry 26; the id 0 and
the clear LARGE_DEVIATION of a result not posted are the model's choice (log entry 30). -/
def Obligations.ProveAbortAndPost : Prop :=
  ∀ (r : Run) (s : State), s.isRestoring = false → s.tableLegal →
    let x := s.prover.session
    let results := s.prover.results
    let post := exec (.provePost .sup [runByte r]) s
    let wrong : Host.Outcome State Fault Refusal := .next (s.respond .sup 0x34 ⟨.wrongState, []⟩)
    (x.state.isActive = false →
      exec (.proveAbort .sup []) s = .next (s.respond .sup 0x33 ⟨.wrongState, []⟩)) ∧
    (x.state.isActive = true → x.run = some r →
      exec (.proveAbort .sup []) s = .next (State.respond .sup 0x33 ⟨.ok, []⟩ (State.raise .proving
        { s with prover := { s.prover with
          session := { x with
            state := .resultAborted
            passes := if x.state = .waitDet1 then x.passes else x.passes ++ [{
              index := x.passes.length + 1, validity := .aborted, tD1 := x.pass.tD1
              t1 := if x.state = .waitStop then (x.pass.tD2 - x.pass.tD1).toNat else 0
              t2 := 0, nm := x.pass.nm, ni := 0, mf := 0, freq := 0 }]
            pass := if x.state = .waitDet1 then x.pass else ⟨0, false, 0, 0, 0, false, false⟩ }
          results := results.set r (some {
            endState := .resultAborted, reason := .requested, p := x.p, l := x.l, taken := x.taken
            lastSpread := x.lastSpread, mf := 0, freq := 0, posting := .none, proposalId := 0, largeDeviation := false
            post := x.post, endUptime := s.uptime }) } }))) ∧
    (results.get r = none → post = wrong) ∧
    ∀ y, results.get r = some y →
      (y.endState ≠ .resultPass ∨ y.posting ≠ .notPosted ∨ y.freq = 0 ∨ 50000 < y.freq → post = wrong) ∧
      (y.endState = .resultPass → y.posting = .notPosted → 1 ≤ y.freq → y.freq ≤ 50000 →
        let deviation := decide (2500 < ((y.mf : Int) - (lookupCurve (s.curves.get r) y.freq).1).natAbs)
        (s.tableFull →
          post = .next (s.respond .sup 0x34 ⟨.full, []⟩)) ∧
        (¬ s.tableFull →
          ∃ t slot, posts s t (.mfPoint r y.freq y.mf) .prover deviation slot ∧
            post = .next (State.respond .sup 0x34 ⟨.ok, bytesOf 2 s.control.nextId⟩ (State.raise .proposal
              { s with
                control := t.control
                prover := { s.prover with results := results.set r (some { y with
                  posting := .posted, proposalId := s.control.nextId, largeDeviation := deviation }) } }))))

/-- R104 to R106, R109, R113 to R115, R117, R122: a bounce leaves the reference tick and the session; every other active edge sets
the reference, and in each session state does what the table of R105 says; a time limit ends the pass that began at its tick;
300 s in WAIT_DET1 end the session NO_DETECTOR. A recorded pass raises PROVING, and the pass that brings the passes taken
to M ends the session RESULT_FAIL. With no run in the session (IDLE after start-up) an edge sets
its reference alone. That PASS_TIMEOUT and NO_DETECTOR do nothing where nothing waits is log entry 8,
that the figures of the pass are cleared with its record also where it ends the session is log entry 23, T1 of a pass that
ends after DET2 is log entry 26, and an edge at a detector that is high already is log entry 29; the id 0 and the clear
LARGE_DEVIATION of a result not posted are the model's choice (log entry 30). -/
def Obligations.DetectorsAndTimeLimitsDriveTheSession : Prop :=
  (∀ (r : Run) (s : State), s.sessionLegal → s.prover.session.run = some r →
      let x := s.prover.session
      let clear : PassInProgress := ⟨0, false, 0, 0, 0, false, false⟩
      let ended (v : Validity) : List PassRecord := x.passes ++ [{
        index := x.passes.length + 1, validity := v, tD1 := x.pass.tD1
        t1 := if x.state = .waitStop then (x.pass.tD2 - x.pass.tD1).toNat else 0
        t2 := 0, nm := x.pass.nm, ni := 0, mf := 0, freq := 0 }]
      let result (e : SessionState) (why : AbortReason) (taken : Nat) : ProvingResult := {
        endState := e, reason := why, p := x.p, l := x.l, taken := taken, lastSpread := x.lastSpread, mf := 0, freq := 0
        posting := .none, proposalId := 0, largeDeviation := false, post := x.post, endUptime := s.uptime }
      let becomes (t : State) (y : Session) : Prop := t = { s with
        lines := { s.lines with det1 := t.lines.det1, det2 := t.lines.det2 }
        prover := { s.prover with session := y, det1 := t.prover.det1, det2 := t.prover.det2 } }
      let records (t : State) (y : Session) (result : PerRun (Option ProvingResult)) : Prop :=
        (∀ p, ((t.ports.get p).events.get .proving).flag = true) ∧ t = { s with
          lines := { s.lines with det1 := t.lines.det1, det2 := t.lines.det2 }
          ports := t.ports
          prover := { s.prover with session := y, results := result, det1 := t.prover.det1, det2 := t.prover.det2 } }
      (∀ d tick ref, (s.prover.detector d).reference = some ref → (tick - ref).toNat < 100000 →
        ∃ t, exec (.detectorEvent d tick) s = .next t ∧ becomes t x ∧ (t.prover.detector d).reference = some ref ∧
          ∀ e, e ≠ d → t.prover.detector e = s.prover.detector e) ∧
      (∀ d tick, (∀ ref, (s.prover.detector d).reference = some ref → 100000 ≤ (tick - ref).toNat) →
        ∃ t, exec (.detectorEvent d tick) s = .next t ∧ t.prover.detector d = ⟨true, some tick⟩ ∧
          (∀ e, e ≠ d → t.prover.detector e = s.prover.detector e) ∧
          (x.state.isActive = false → becomes t x) ∧
          (x.state = .waitDet1 → d = .det1 → becomes t { x with state := .inPass, pass := { clear with tD1 := tick } }) ∧
          (x.state = .inPass → d = .det2 → becomes t { x with state := .waitStop, pass := { x.pass with tD2 := tick } }) ∧
          (x.state = .waitDet1 ∨ x.state = .waitStop → d = .det2 →
            becomes t { x with outOfOrder := min (x.outOfOrder + 1) 65535 }) ∧
          (x.state = .inPass ∨ x.state = .waitStop → d = .det1 → x.taken + 1 < x.m →
            records t { x with
              state := .inPass, taken := x.taken + 1, passes := ended .detectorSequence, pass := { clear with tD1 := tick } }
              s.prover.results) ∧
          (x.state = .inPass ∨ x.state = .waitStop → d = .det1 → x.taken + 1 = x.m →
            records t { x with
              state := .resultFail, taken := x.taken + 1, passes := ended .detectorSequence, pass := clear }
              (s.prover.results.set r (some (result .resultFail .none (x.taken + 1)))))) ∧
      (∀ tD1, ¬ ((x.state = .inPass ∨ x.state = .waitStop) ∧ x.pass.tD1 = tD1) → exec (.passTimeout tD1) s = .next s) ∧
      (x.state = .inPass ∨ x.state = .waitStop → ∃ t, exec (.passTimeout x.pass.tD1) s = .next t ∧
        (x.taken + 1 < x.m → records t { x with
          state := .waitDet1, taken := x.taken + 1, passes := ended .timeout, pass := clear, entryUptime := s.uptime }
          s.prover.results) ∧
        (x.taken + 1 = x.m → records t { x with
          state := .resultFail, taken := x.taken + 1, passes := ended .timeout, pass := clear }
          (s.prover.results.set r (some (result .resultFail .none (x.taken + 1)))))) ∧
      (x.state = .waitDet1 → 300 ≤ (s.uptime - x.entryUptime).toNat → ∃ t, exec .noDetector s = .next t ∧
        records t { x with state := .resultAborted }
          (s.prover.results.set r (some (result .resultAborted .noDetector x.taken)))) ∧
      (x.state ≠ .waitDet1 ∨ (s.uptime - x.entryUptime).toNat < 300 → exec .noDetector s = .next s)) ∧
  ∀ s : State, s.sessionLegal → s.prover.session.run = none →
    exec .noDetector s = .next s ∧ (∀ tD1, exec (.passTimeout tD1) s = .next s) ∧
    ∀ d tick, ∃ t, exec (.detectorEvent d tick) s = .next t ∧ (∀ e, e ≠ d → t.prover.detector e = s.prover.detector e) ∧
      (∀ ref, (s.prover.detector d).reference = some ref → (tick - ref).toNat < 100000 →
        (t.prover.detector d).reference = some ref) ∧
      ((∀ ref, (s.prover.detector d).reference = some ref → 100000 ≤ (tick - ref).toNat) →
        t.prover.detector d = ⟨true, some tick⟩) ∧
      t = { s with
        lines := { s.lines with det1 := t.lines.det1, det2 := t.lines.det2 }
        prover := { s.prover with det1 := t.prover.det1, det2 := t.prover.det2 } }

/-- R107, R108, R110 to R112, R115 to R118, R124, R125: a cycle of the run that the session holds counts in its channel as it would
without the session, marks the pass, and a forward pulse is start pulse, period or stop pulse by its stamp. The stop pulse's
pass record holds the figures of R111 and the first reason of R112; the P most recent passes, all valid, are tested; a
spread within L ends the session RESULT_PASS with the means and posts them if the post flag is set, else the pass that
brings the passes taken to M ends it RESULT_FAIL, else it waits for DET1. The next proposal id is log entry 19, the figures
cleared with the record log entry 23, T1 of a TOO_FEW_PULSES pass log entry 26; that one DET1 and DET2 at the same tick make
such a pass is log entry 28. -/
def Obligations.PulsesPlaceAndEndThePass : Prop :=
  ∀ (r : Run) (tick stamp : Tick) (path : List Pair) (d : Bool) (s : State),
    s.enabled r → s.sessionLegal → s.tableLegal → s.prover.session.holds r = true →
    (s.channels.get r).pair ≠ .zero → (s.channels.get r).tracking = .inCycle stamp path d →
    let c := s.channels.get r
    let cls := classify path (d || (c.pair.a && c.pair.b))
    let counted := countedDirection cls c.direction
    let x := s.prover.session
    let q : PassInProgress := { x.pass with
      errorMark := x.pass.errorMark || cls.isError, reverseMark := x.pass.reverseMark || decide (counted = some .reverse) }
    let after (t : Tick) : Prop := (stamp - t).toNat < 2 ^ 47
    let clear : PassInProgress := ⟨0, false, 0, 0, 0, false, false⟩
    ∃ t u, exec (.edgeEvent r false false tick) s = .next t ∧
      exec (.edgeEvent r false false tick) { s with prover := { s.prover with session := { x with state := .idle } } } =
        .next u ∧
      t = { u with
        prover := { s.prover with session := t.prover.session, results := t.prover.results }, ports := t.ports
        batch := t.batch, control := t.control } ∧
      (x.state = .waitDet1 → t.prover.session = x) ∧
      (x.state ≠ .waitDet1 → counted ≠ some .forward → t.prover.session = { x with pass := q }) ∧
      (x.state = .inPass → counted = some .forward →
        (q.startFound = true → t.prover.session = { x with pass := { q with nm := q.nm + 1 } }) ∧
        (q.startFound = false → after q.tD1 →
          t.prover.session = { x with pass := { q with startFound := true, tStart := stamp } }) ∧
        (q.startFound = false → ¬ after q.tD1 → t.prover.session = { x with pass := q })) ∧
      (x.state = .waitStop → counted = some .forward → q.startFound = false →
        (¬ after q.tD1 → t.prover.session = { x with pass := q }) ∧
        (after q.tD1 → ¬ after q.tD2 →
          t.prover.session = { x with pass := { q with startFound := true, tStart := stamp } }) ∧
        (after q.tD1 → after q.tD2 → q.nm = 0 →
          t.prover.session.passes = x.passes ++ [{
            index := x.passes.length + 1, validity := .tooFewPulses, tD1 := q.tD1, t1 := (q.tD2 - q.tD1).toNat, t2 := 0
            nm := 0, ni := 0, mf := 0, freq := 0 }] ∧
          t.prover.session.taken = x.taken + 1 ∧ t.prover.session.pass = clear ∧
          t.prover.session.state = (if x.taken + 1 = x.m then .resultFail else .waitDet1) ∧
          ∀ p, ((t.ports.get p).events.get .proving).flag = true)) ∧
      (x.state = .waitStop → counted = some .forward → q.startFound = true → ¬ after q.tD2 →
        t.prover.session = { x with pass := { q with nm := q.nm + 1 } }) ∧
      (x.state = .waitStop → counted = some .forward → q.startFound = true → after q.tD2 →
        let t1 := (q.tD2 - q.tD1).toNat
        let t2 := (stamp - q.tStart).toNat
        let nm := q.nm + 1
        let ni := (2 * (nm * t1 * 10000) + t2) / (2 * t2)
        let mf := if ni = 0 then 0 else (2 * (s.prover.baseVolume * (s.totalizers.get r).kx * 10) + ni) / (2 * ni)
        let y : PassRecord := {
          index := x.passes.length + 1
          validity :=
            if q.errorMark then .integrity else if q.reverseMark then .reverse else if t1 < 500000 then .shortPass
            else if nm < 2 then .tooFewPulses else if mf < 900000 ∨ 1100000 < mf then .mfOutOfBounds else .valid
          tD1 := q.tD1, t1 := t1, t2 := t2, nm := nm, ni := ni, mf := mf
          freq := (2 * (nm * 10000000) + t2) / (2 * t2) }
        let last := (x.passes ++ [y]).drop (x.passes.length + 1 - x.p)
        let tested : Prop := x.p ≤ x.passes.length + 1 ∧ ∀ z ∈ last, z.validity = .valid
        t.prover.session.passes = x.passes ++ [y] ∧ t.prover.session.taken = x.taken + 1 ∧
        t.prover.session.pass = clear ∧ (∀ p, ((t.ports.get p).events.get .proving).flag = true) ∧
        (¬ tested → t.prover.session.lastSpread = x.lastSpread ∧
          t.prover.session.state = (if x.taken + 1 = x.m then .resultFail else .waitDet1)) ∧
        (tested → ∀ low high, (∀ z ∈ last, low ≤ z.mf ∧ z.mf ≤ high) → (∃ z ∈ last, z.mf = low) →
          (∃ z ∈ last, z.mf = high) →
          let spread := (high - low) * 1000000 / low
          let factor := (2 * (last.map PassRecord.mf).sum + x.p) / (2 * x.p)
          let freq := (2 * (last.map PassRecord.freq).sum + x.p) / (2 * x.p)
          let deviation := decide (2500 < ((factor : Int) - (lookupCurve (s.curves.get r) freq).1).natAbs)
          let admissible : Prop := 1 ≤ freq ∧ freq ≤ 50000
          t.prover.session.lastSpread = some spread ∧
          (x.l < spread → t.prover.session.state = (if x.taken + 1 = x.m then .resultFail else .waitDet1)) ∧
          (spread ≤ x.l → t.prover.session.state = .resultPass ∧ ∃ z, t.prover.results.get r = some z ∧
            z.endState = .resultPass ∧ z.mf = factor ∧ z.freq = freq ∧ z.lastSpread = some spread ∧
            z.taken = x.taken + 1 ∧ z.endUptime = s.uptime ∧
            (¬ admissible → z.posting = .notAdmissible) ∧
            (admissible → x.post = false ∨ s.tableFull → z.posting = .notPosted) ∧
            (admissible → x.post = true → ¬ s.tableFull → z.posting = .posted ∧ z.proposalId = s.control.nextId ∧
              z.largeDeviation = deviation ∧ ∃ slot, posts s t (.mfPoint r freq factor) .prover deviation slot) ∧
            ∀ b, s.batch = some b → inRunSet b.plan.runSet r = true →
              t.batch = some { b with flags := { b.flags with provedDuring := true } })))

/-- R127, R128: READ_PROVING answers the session, or a run's last result, or zeros where it has none; READ_PASS answers a record of
the pass list or NOT_FOUND. Nothing changes. What the last-spread field reads without a test, and the run field of a run
without a result, are the model's (log entry 21). -/
def Obligations.ProvingReadsAnswerTheFigures : Prop :=
  ∀ (p : Port) (s : State), s.isRestoring = false →
    let x := s.prover.session
    (s.prover.fits → exec (.readProving p [0]) s = .next (s.respond p 0x30 ⟨.ok,
      [byteOf (sessionStateCode x.state), (x.run.map runByte).getD 0, byteOf x.p, byteOf x.m] ++ bytesOf 2 x.l ++
        [bitByte x.post, byteOf x.taken, byteOf x.passes.length] ++ bytesOf 2 x.outOfOrder ++
        bytesOf 4 s.prover.baseVolume ++ bytesOf 6 x.pass.tD1.toNat ++ [bitByte x.pass.startFound] ++
        bytesOf 6 x.pass.tStart.toNat ++ bytesOf 4 x.pass.nm ++ bytesOf 6 x.pass.tD2.toNat ++
        bytesOf 4 x.entryUptime.toNat⟩)) ∧
    (∀ n : Byte, 4 < n.toNat → exec (.readProving p [n]) s = .next (s.respond p 0x30 ⟨.badArgument, []⟩)) ∧
    (∀ r, s.prover.results.get r = none →
      exec (.readProving p [runByte r]) s = .next (s.respond p 0x30 ⟨.ok, bytesOf 28 0⟩)) ∧
    (∀ r y, s.prover.results.get r = some y → y.fits →
      ∃ spread : List Byte, ∃ flags : Byte, spread.length = 4 ∧ (∀ n, y.lastSpread = some n → spread = bytesOf 4 n) ∧
        holdsFlags flags [y.lastSpread.isSome, y.largeDeviation, y.post] ∧
        exec (.readProving p [runByte r]) s = .next (s.respond p 0x30 ⟨.ok,
          [runByte r, 1, byteOf (sessionStateCode y.endState), byteOf (abortReasonCode y.reason), byteOf y.p,
            byteOf y.taken] ++ bytesOf 2 y.l ++ spread ++ bytesOf 4 y.mf ++ bytesOf 4 y.freq ++
            [byteOf (postingCode y.posting)] ++ bytesOf 2 y.proposalId ++ [flags] ++ bytesOf 4 y.endUptime.toNat⟩)) ∧
    ∀ n : Byte,
      ((n = 0 ∨ x.passes.length < n.toNat) →
        exec (.readPass p [n]) s = .next (s.respond p 0x31 ⟨.notFound, []⟩)) ∧
      ∀ front y rest, x.passes = front ++ y :: rest → n.toNat = front.length + 1 → y.fits →
        exec (.readPass p [n]) s = .next (s.respond p 0x31 ⟨.ok,
          [byteOf y.index, byteOf (validityCode y.validity)] ++ bytesOf 6 y.tD1.toNat ++ bytesOf 4 y.t1 ++
            bytesOf 4 y.t2 ++ bytesOf 4 y.nm ++ bytesOf 6 y.ni ++ bytesOf 4 y.mf ++ bytesOf 4 y.freq⟩)

/-! ### Change control (R129 to R148) -/

/-- R129 to R138, R142, R144: PROPOSE of exactly the byte strings that spell a change within its ranges posts it, FULL while every
slot is OPEN, and is refused BAD_ARGUMENT for all others; CONCUR and REJECT are refused NOT_FOUND, WRONG_STATE, DECIDED in
that order; REJECT ends an OPEN proposal; WITHDRAW ends its own port's, and for SUP a PROVER one, NOT_FOUND,
NOT_PERMITTED and WRONG_STATE in that order; the expiry of a one-second event ends every OPEN proposal aged 900 s or more,
one occurrence of PROPOSAL for each. That the next id is looked for in the table with the new record in place is log
entry 19. -/
def Obligations.ProposalsArePostedAndEnded : Prop :=
  ∀ (p : Port) (s : State), s.isRestoring = false → s.tableLegal →
    let origin : Originator := match p with
      | .opr => .opr
      | .wit => .wit
      | .sup => .sup
    let verdict (q : Proposal) : Verdict := match p with
      | .opr => q.oprVerdict
      | .wit => q.witVerdict
      | .sup => .none
    let answer (code : Byte) (status : Status) : Host.Outcome State Fault Refusal :=
      .next (s.respond p code ⟨status, []⟩)
    let ended (code : Byte) (data : List Byte) (slot : Nat) (q : Proposal) : Host.Outcome State Fault Refusal :=
      .next (State.respond p code ⟨.ok, data⟩ (State.raise .proposal
        { s with control := { s.control with slots := s.control.slots.set slot (some q) } }))
    (∀ args, args.length ≤ 60 → (∀ c : Change, c.legal → args ≠ proposeBytes c) →
      exec (.propose p args) s = answer 0x39 .badArgument) ∧
    (∀ c : Change, c.legal →
      (s.tableFull → exec (.propose p (proposeBytes c)) s = answer 0x39 .full) ∧
      (¬ s.tableFull → ∃ t slot, posts s t c origin false slot ∧
        exec (.propose p (proposeBytes c)) s = .next (State.respond p 0x39
          ⟨.ok, bytesOf 2 s.control.nextId ++ [byteOf slot]⟩ (State.raise .proposal { s with control := t.control })))) ∧
    (∀ hi lo : Byte, (hi ++ lo).toNat ∉ s.control.ids →
      exec (.withdraw p [hi, lo]) s = answer 0x3C .notFound ∧
      (p ≠ .sup → exec (.concur p [hi, lo]) s = answer 0x3A .notFound ∧
        exec (.reject p [hi, lo]) s = answer 0x3B .notFound)) ∧
    (∀ (hi lo : Byte) (slot : Nat) (q : Proposal), s.control.slots[slot]? = some (some q) → q.id = (hi ++ lo).toNat →
      let mine : Prop := q.originator = origin ∨ (p = .sup ∧ q.originator = .prover)
      (p ≠ .sup → q.state ≠ .opened →
        exec (.concur p [hi, lo]) s = answer 0x3A .wrongState ∧ exec (.reject p [hi, lo]) s = answer 0x3B .wrongState) ∧
      (p ≠ .sup → q.state = .opened → verdict q ≠ .none →
        exec (.concur p [hi, lo]) s = answer 0x3A .decided ∧ exec (.reject p [hi, lo]) s = answer 0x3B .decided) ∧
      (p = .opr → q.state = .opened → verdict q = .none → exec (.reject p [hi, lo]) s =
        ended 0x3B [hi, lo, 3] slot { q with oprVerdict := .reject, state := .rejected, ended := s.uptime }) ∧
      (p = .wit → q.state = .opened → verdict q = .none → exec (.reject p [hi, lo]) s =
        ended 0x3B [hi, lo, 3] slot { q with witVerdict := .reject, state := .rejected, ended := s.uptime }) ∧
      (¬ mine → exec (.withdraw p [hi, lo]) s = answer 0x3C .notPermitted) ∧
      (mine → q.state ≠ .opened → exec (.withdraw p [hi, lo]) s = answer 0x3C .wrongState) ∧
      (mine → q.state = .opened → exec (.withdraw p [hi, lo]) s =
        ended 0x3C [hi, lo, 5] slot { q with state := .withdrawn, ended := s.uptime })) ∧
    ∃ t, exec .proposalExpiry s = .next t ∧
      let expires (q : Proposal) : Prop := q.state = .opened ∧ 900 ≤ (s.uptime - q.created).toNat
      (∀ (slot : Nat) (q : Proposal), s.control.slots[slot]? = some (some q) →
        (expires q → t.control.slots[slot]? = some (some { q with state := .expired, ended := s.uptime })) ∧
        (¬ expires q → t.control.slots[slot]? = some (some q))) ∧
      (∀ slot : Nat, s.control.slots[slot]? = some none → t.control.slots[slot]? = some none) ∧
      t.control.slots.length = s.control.slots.length ∧
      (∀ l : List Nat, l.Nodup → (∀ slot : Nat, slot ∈ l ↔ ∃ q, s.control.slots[slot]? = some (some q) ∧ expires q) →
        ∀ a, ((s.ports.get a).events.get .proposal).count ≤ 255 →
          ((t.ports.get a).events.get .proposal).count =
            min (((s.ports.get a).events.get .proposal).count + l.length) 255 ∧
          (l ≠ [] → ((t.ports.get a).events.get .proposal).flag = true) ∧ (l = [] → t = s)) ∧
      t = { s with control := { s.control with slots := t.control.slots }, ports := t.ports }

/-- R137, R139 to R141, R143, R147: a CONCUR that leaves the other custody verdict NONE keeps the proposal OPEN and changes nothing
else. The one that completes both verdicts hands the change to its owner: a full curve or a missing point makes the proposal
FAILED, and nothing else changes but its flag; otherwise it is APPLIED with the custody change count one higher as its
change number, a PARAMETERS job is asked of the store (merged with one that waits, not with one being written; owed where
there is no room, R141, R186), every other OPEN proposal for the same parameter is SUPERSEDED by it, PROPOSAL is
raised once for the application and once for each superseded, and the owner holds the new value; a K-factor of the session's
run or a prover volume aborts an active session. The copy that a job begun at once writes, and its marker, are log entry 17. -/
def Obligations.ConcurrenceAppliesTheChange : Prop :=
  ∀ (p : Port) (hi lo : Byte) (slot : Nat) (q : Proposal) (s : State),
    p ≠ .sup → s.isRestoring = false → s.tableLegal → s.custodyLegal →
    s.control.slots[slot]? = some (some q) → q.id = (hi ++ lo).toNat → q.state = .opened →
    (if p = .opr then q.oprVerdict else q.witVerdict) = .none →
    let other := if p = .opr then q.witVerdict else q.oprVerdict
    let count := min (s.control.changeCount + 1) 4294967295
    let put (y : Proposal) : State :=
      { s with control := { s.control with slots := s.control.slots.set slot (some y) } }
    let both : Proposal := { q with oprVerdict := .concur, witVerdict := .concur, ended := s.uptime }
    let curve (r : Run) (changed : Except FailureReason (List CurvePoint)) : Prop :=
      (∀ e, changed = .error e → exec (.concur p [hi, lo]) s = .next (State.respond p 0x3A
        ⟨.ok, [hi, lo, 2, if e = .curveFull then 1 else 2] ++ bytesOf 4 s.control.changeCount⟩
        (State.raise .proposal (put { both with state := .failed e })))) ∧
      ∀ l, changed = .ok l → ∃ t, exec (.concur p [hi, lo]) s = .next t ∧ t.curves = s.curves.set r l ∧
        t.totalizers = s.totalizers.set r { s.totalizers.get r with curveChanged := true } ∧
        t.batch = s.batch ∧ t.prover = s.prover ∧ t.sampler = s.sampler
    let applied : Prop := ∃ t, exec (.concur p [hi, lo]) s = .next t ∧
      (t.ports.get p).response = ⟨.ok, 0x3A, [hi, lo, 1, 0] ++ bytesOf 4 count⟩ ∧
      t.control.changeCount = count ∧ t.control.nextId = s.control.nextId ∧
      t.control.slots.length = 6 ∧
      t.control.slots[slot]? = some (some { both with state := .applied count }) ∧
      (∀ (j : Nat) (x : Proposal), j ≠ slot → s.control.slots[j]? = some (some x) →
        (x.state = .opened ∧ sameParameter q.change x.change →
          t.control.slots[j]? = some (some { x with state := .superseded q.id, ended := s.uptime })) ∧
        (¬ (x.state = .opened ∧ sameParameter q.change x.change) → t.control.slots[j]? = some (some x))) ∧
      (∀ j : Nat, s.control.slots[j]? = some none → t.control.slots[j]? = some none) ∧
      (.parameters ∈ t.store.queue ∨ t.store.owedParameters = true) ∧
      (s.storeLegal → s.store.status ≠ .restoring ∧ jobAsked t s.store t.store .parameters) ∧
      (∀ a, ((t.ports.get a).events.get .proposal).flag = true) ∧
      (∀ l : List Nat, l.Nodup → (∀ j : Nat, j ∈ l ↔ j ≠ slot ∧ ∃ x, s.control.slots[j]? = some (some x) ∧
          x.state = .opened ∧ sameParameter q.change x.change) →
        ∀ a, ((s.ports.get a).events.get .proposal).count ≤ 255 →
          ((t.ports.get a).events.get .proposal).count =
            min (((s.ports.get a).events.get .proposal).count + 1 + l.length) 255) ∧
      t = { s with
        lines := t.lines, totalizers := t.totalizers, curves := t.curves, batch := t.batch, prover := t.prover
        control := t.control, sampler := t.sampler, ports := t.ports, store := t.store }
    let aborted (t : State) (holds : Prop) : Prop :=
      (holds → t.prover.session.state = .resultAborted ∧ ∀ r, s.prover.session.run = some r →
        ∃ x, t.prover.results.get r = some x ∧ x.endState = .resultAborted ∧ x.reason = .paramChanged) ∧
      (¬ holds → t.prover.session = s.prover.session ∧ t.prover.results = s.prover.results)
    (other = .none → exec (.concur p [hi, lo]) s = .next (State.respond p 0x3A
      ⟨.ok, [hi, lo, 0, 0] ++ bytesOf 4 s.control.changeCount⟩
      (put (if p = .opr then { q with oprVerdict := .concur } else { q with witVerdict := .concur })))) ∧
    (other = .concur →
      ((∀ r f m, q.change = .mfPoint r f m → ∃ l, applyPoint ⟨f, m⟩ (s.curves.get r) = .ok l) →
        (∀ r f, q.change = .mfPointDelete r f → ∃ l, deletePoint f (s.curves.get r) = .ok l) → applied) ∧
      match q.change with
      | .mfPoint r f m => curve r (applyPoint ⟨f, m⟩ (s.curves.get r))
      | .mfPointDelete r f => curve r (deletePoint f (s.curves.get r))
      | .kFactor r kx => ∃ t, exec (.concur p [hi, lo]) s = .next t ∧
          t.totalizers = s.totalizers.set r { s.totalizers.get r with
            kx := kx, indicatedRemainder := 0, grossRemainder := 0 } ∧
          (∀ b, s.batch = some b → inRunSet b.plan.runSet r = true →
            t.batch = some { b with flags := { b.flags with kChanged := true } }) ∧
          ((∀ b, s.batch = some b → inRunSet b.plan.runSet r = false) → t.batch = s.batch) ∧
          aborted t (s.prover.session.state.isActive = true ∧ s.prover.session.run = some r) ∧
          t.curves = s.curves ∧ t.prover.baseVolume = s.prover.baseVolume ∧ t.sampler = s.sampler
      | .proverVolume bv => ∃ t, exec (.concur p [hi, lo]) s = .next t ∧ t.prover.baseVolume = bv ∧
          aborted t (s.prover.session.state.isActive = true) ∧
          t.totalizers = s.totalizers ∧ t.curves = s.curves ∧ t.batch = s.batch ∧ t.sampler = s.sampler
      | .samplerSetup g size cap => ∃ t full, exec (.concur p [hi, lo]) s = .next t ∧
          t.sampler = { s.sampler with
            setup := some ⟨g, size, cap⟩, volume := 0, fill := min s.sampler.fill cap, full := full } ∧
          (full = true ↔ t.sampler.receiverFull) ∧
          (full ≠ s.sampler.full → ∀ a, ((t.ports.get a).events.get .sampler).flag = true) ∧
          t.totalizers = s.totalizers ∧ t.curves = s.curves ∧ t.batch = s.batch ∧ t.prover = s.prover)

/-! ### Sampler (R149 to R161) -/

/-- R150, R151: the gross litres of a batched window that does not reach the target go into A while the setup is set; a grab falls
due for every whole G of the sum, the rest stays in A; the grabs are disposed of one after another: under HOLD, or with the
receiver full, one is missed for that cause; else it is issued from IDLE with its pulse W x 10 000 ticks long, else joins
the pending list while fewer than 4 wait, else is missed for OVERFLOW. A missed grab raises SAMPLER. No grab falls due past
4 294 967 295 in the batch, A is reduced below G all the same, and with the count standing there increments are not added. -/
def Obligations.GrabsFallDueByGrossVolume : Prop :=
  ∀ (r : Run) (s : State) (b : OpenBatch) (u : SamplerSetup),
    let x := s.sampler
    let dG := closingGross s r
    let due := (x.volume + dG) / u.interval
    let falls := min due (4294967295 - x.counts.due)
    s.enabled r → (s.totalizers.get r).kx ≠ 0 → s.batch = some b → inRunSet b.plan.runSet r = true →
    (b.plan.target = 0 ∨ b.runningGross + grossTaken s r b < b.plan.target) → s.samplerLegal → x.setup = some u →
    u.legal →
    ∃ t, exec (.windowExpiry r) s = .next t ∧
      (4294967295 ≤ x.counts.due → t.sampler = x) ∧
      (x.counts.due < 4294967295 →
        t.sampler.volume = (x.volume + dG) % u.interval ∧ t.sampler.counts.due = x.counts.due + falls ∧
        t.sampler.counts.accounted (ownGrabs t.sampler.pendingGrabs) ∧
        (∃ grabs : Nat → Sampler, grabs 0 = { x with volume := x.volume + dG } ∧
          (∀ n, n < falls → grabFallsDue u s.tick (grabs n) (grabs (n + 1))) ∧
          t.sampler = { grabs falls with volume := t.sampler.volume }) ∧
        (t.sampler.counts.hold + t.sampler.counts.full + t.sampler.counts.overflow ≠
            x.counts.hold + x.counts.full + x.counts.overflow →
          ∀ p, ((t.ports.get p).events.get .sampler).flag = true) ∧
        (due = 0 → t.sampler = { x with volume := x.volume + dG }) ∧
        (x.hold = true → t.sampler = { x with
          volume := t.sampler.volume
          counts := { x.counts with due := x.counts.due + falls, hold := x.counts.hold + falls } }) ∧
        (x.hold = false → x.full = true → t.sampler = { x with
          volume := t.sampler.volume
          counts := { x.counts with due := x.counts.due + falls, full := x.counts.full + falls } }) ∧
        (due ≠ 0 → x.hold = true ∨ x.full = true → ∀ p, ((t.ports.get p).events.get .sampler).flag = true) ∧
        (falls = 1 → x.hold = false → x.full = false →
          (x.output = .idle → t.sampler = { x with
            volume := t.sampler.volume, output := .pulse (s.tick + BitVec.ofNat 48 (x.width * 10000))
            grabLine := some (!x.activeLow), fill := min (x.fill + u.size) u.capacity, full := t.sampler.full
            counts := { x.counts with due := x.counts.due + 1, issued := x.counts.issued + 1 } }) ∧
          (x.output ≠ .idle → x.pendingGrabs.length < 4 → t.sampler = { x with
            volume := t.sampler.volume, pendingGrabs := x.pendingGrabs ++ [.own], full := t.sampler.full
            counts := { x.counts with due := x.counts.due + 1 } }) ∧
          (x.output ≠ .idle → x.pendingGrabs.length = 4 →
            t.sampler = { x with
              volume := t.sampler.volume
              counts := { x.counts with due := x.counts.due + 1, overflow := x.counts.overflow + 1 } } ∧
            ∀ p, ((t.ports.get p).events.get .sampler).flag = true))) ∧
      (t.sampler.full = true ↔ t.sampler.receiverFull)

/-- R152 to R157: SAMPLER_HOLD sets or clears HOLD; SAMPLER_OUTPUT sets polarity and the clamped width, the line following in IDLE
and GAP; RECEIVER_SWAP empties the fill, BUSY in PULSE; the end of a pulse begins a gap at the idle level; the end of a gap
issues the oldest pending grab or goes IDLE; a new RCVHI level is taken, and outside RESTORING the full indication is
evaluated afresh, SAMPLER raised if it changed. Nothing else changes but the pin that RCVHI_CHANGE reports (log entry 6).
That PULSE_END outside PULSE and GAP_END outside GAP change nothing is log entry 8. -/
def Obligations.SamplerCommandsAndOutput : Prop :=
  ∀ s : State,
    let x := s.sampler
    let span : Tick := BitVec.ofNat 48 (x.width * 10000)
    (s.isRestoring = false →
      (∀ on : Byte,
        (on.toNat ≤ 1 → exec (.samplerHold .sup [on]) s = .next (State.respond .sup 0x41 ⟨.ok, []⟩
          { s with sampler := { x with hold := decide (on = 1) } })) ∧
        (1 < on.toNat → exec (.samplerHold .sup [on]) s = .next (s.respond .sup 0x41 ⟨.badArgument, []⟩))) ∧
      (∀ polarity hi lo : Byte,
        let width := max 20 (min (hi ++ lo).toNat 2000)
        (1 < polarity.toNat →
          exec (.samplerOutput .sup [polarity, hi, lo]) s = .next (s.respond .sup 0x42 ⟨.badArgument, []⟩)) ∧
        (polarity.toNat ≤ 1 →
          exec (.samplerOutput .sup [polarity, hi, lo]) s = .next (State.respond .sup 0x42 ⟨.ok, bytesOf 2 width⟩
            { s with sampler := { x with
              activeLow := decide (polarity = 1), width := width
              grabLine := match x.output with
                | .pulse _ => x.grabLine
                | _ => some (decide (polarity = 1)) } }))) ∧
      (∀ e, x.output = .pulse e → exec (.receiverSwap .sup []) s = .next (s.respond .sup 0x43 ⟨.busy, []⟩)) ∧
      ((∀ e, x.output ≠ .pulse e) → x.fill < 4294967296 → ∃ full : Bool,
        (full = true ↔ { x with fill := 0 }.receiverFull) ∧
        exec (.receiverSwap .sup []) s = .next (State.respond .sup 0x43 ⟨.ok, bytesOf 4 x.fill⟩
          (State.raiseIf (full != x.full) .sampler { s with sampler := { x with fill := 0, full := full } })))) ∧
    (∀ e, x.output = .pulse e → exec .pulseEnd s = .next { s with sampler := { x with
      output := .gap (s.tick + span), grabLine := some x.activeLow } }) ∧
    ((∀ e, x.output ≠ .pulse e) → exec .pulseEnd s = .next s) ∧
    (∀ e, x.output = .gap e →
      (x.pendingGrabs = [] → exec .gapEnd s = .next { s with sampler := { x with output := .idle } }) ∧
      ∀ g rest, x.pendingGrabs = g :: rest → ∃ full : Bool,
        let y : Sampler := { x with
          output := .pulse (s.tick + span), grabLine := some (!x.activeLow), pendingGrabs := rest
          fill := match x.setup with
            | none => x.fill
            | some u => min (x.fill + u.size) u.capacity
          counts := { x.counts with issued := x.counts.issued + (if g = .own then 1 else 0) } }
        (full = true ↔ y.receiverFull) ∧
        exec .gapEnd s = .next (State.raiseIf (full != x.full) .sampler { s with sampler := { y with full := full } })) ∧
    ((∀ e, x.output ≠ .gap e) → exec .gapEnd s = .next s) ∧
    ∀ level : Bool, ∃ t full, exec (.rcvhiChange level) s = .next t ∧
      (s.isRestoring = true → full = x.full) ∧
      (s.isRestoring = false → (full = true ↔ { x with rcvhi := level }.receiverFull)) ∧
      t = State.raiseIf (full != x.full) .sampler { s with
        lines := { s.lines with rcvhi := t.lines.rcvhi }, sampler := { x with rcvhi := level, full := full } }

/-- R148, R161: READ_PROPOSAL answers the summary of the table for id 0 and a proposal's record for its id, NOT_FOUND for an id
that no record holds; READ_SAMPLER answers the sampler's figures, its batch counts reading 0 with no batch open. Nothing
changes. What a never-used slot's kind and originator read is the model's (log entry 21). -/
def Obligations.CustodyAndSamplerReadsAnswerTheFigures : Prop :=
  ∀ (p : Port) (s : State), s.isRestoring = false →
    (s.tableLegal → s.control.changeCount ≤ max32 →
      (∃ kind origin : Byte, exec (.readProposal p [0, 0]) s = .next (s.respond p 0x38 ⟨.ok,
        (s.control.slots.flatMap fun
          | none => [0, 0, 7, kind, origin]
          | some q => bytesOf 2 q.id ++
              [byteOf (proposalStateCode q.state), byteOf (kindCode q.change), byteOf (originatorCode q.originator)]) ++
          bytesOf 2 s.control.nextId ++ bytesOf 4 s.control.changeCount⟩)) ∧
      (∀ hi lo : Byte, (hi ++ lo).toNat ≠ 0 → (hi ++ lo).toNat ∉ s.control.ids →
        exec (.readProposal p [hi, lo]) s = .next (s.respond p 0x38 ⟨.notFound, []⟩)) ∧
      ∀ (hi lo : Byte) (slot : Nat) (q : Proposal), s.control.slots[slot]? = some (some q) →
        q.id = (hi ++ lo).toNat → q.fits →
        ∃ arguments : List Byte, arguments.length = 9 ∧ (∃ pad, proposeBytes q.change ++ List.replicate pad 0 =
          byteOf (kindCode q.change) :: arguments) ∧
        exec (.readProposal p [hi, lo]) s = .next (s.respond p 0x38 ⟨.ok,
          [hi, lo, byteOf slot, byteOf (kindCode q.change), byteOf (originatorCode q.originator),
            byteOf (proposalStateCode q.state), byteOf (failureCode q.state), byteOf (verdictCode q.oprVerdict),
            byteOf (verdictCode q.witVerdict), bitByte q.largeDeviation] ++ bytesOf 4 q.created.toNat ++
            bytesOf 4 q.ended.toNat ++
            bytesOf 2 (if q.state = .opened then 900 - (s.uptime - q.created).toNat else 0) ++ arguments ++
            bytesOf 2 (match q.state with
              | .superseded i => i
              | _ => 0) ++
            bytesOf 4 (match q.state with
              | .applied n => n
              | _ => 0) ++ bytesOf 4 s.control.changeCount⟩)) ∧
    (s.sampler.fits →
      let x := s.sampler
      let u := x.setup.getD ⟨0, 0, 0⟩
      let c := if s.batch = none then ⟨0, 0, 0, 0, 0, 0⟩ else x.counts
      ∃ flags : Byte, holdsFlags flags [x.setup.isSome, x.hold, x.full, x.rcvhi, x.activeLow] ∧
        ∀ code left : Nat, left < 4294967296 →
          (x.output = .idle ∧ code = 0 ∧ left = 0) ∨ (∃ e, x.output = .pulse e ∧ code = 1 ∧ left = (e - s.tick).toNat) ∨
            (∃ e, x.output = .gap e ∧ code = 2 ∧ left = (e - s.tick).toNat) →
          exec (.readSampler p []) s = .next (s.respond p 0x40 ⟨.ok,
            [flags] ++ bytesOf 4 u.interval ++ [byteOf u.size] ++ bytesOf 4 u.capacity ++ bytesOf 2 x.width ++
              [byteOf code, byteOf x.pendingGrabs.length, byteOf (x.pendingGrabs.filter (· = .carried)).length] ++
              bytesOf 4 x.volume ++ bytesOf 4 x.fill ++ bytesOf 4 left ++ bytesOf 4 c.due ++ bytesOf 4 c.issued ++
              bytesOf 4 c.hold ++ bytesOf 4 c.full ++ bytesOf 4 c.overflow ++ [byteOf c.carriedIn]⟩))

/-! ### Retention store and start-up (R184 to R191) -/

/-- R184 to R189: every completed job has its marker in place in its copy or slot and leaves the queue, a completed record that
is PENDING in the ring becomes RETAINED, and with the power-fail indication clear the owed kinds join while there is room,
each with its mark cleared; then the oldest job begins with the contents of that event, in the copy and with the write
count of R184 or in the slot or erased sector of R185, or the store is READY, or HALTED under the indication. The
power-fail warning drops every waiting job but a CHECKPOINT, marks the loss, asks for the final CHECKPOINT and raises
RETENTION; its end lets a HALTED store go on. A FLOWING run and 60 s since the reference ask for the periodic CHECKPOINT.
Which copy is written where none is marked, and that a copy or slot being written has no marker, is log entry 17; that an
owed CHECKPOINT joins beside a waiting one, so that two may wait at a warning, is log entry 22; the pins are log entry 6, and
that a command does nothing where nothing waits for it is log entry 8. That POWER_FAIL_CLEAR during RESTORING takes back the
warning is log entry 31, that only marked records decide the erase of a sector log entry 32, and that the periodic check
goes on in HALTED and under the power-fail indication log entry 33; these three are the model's choice. -/
def Obligations.StoreCommandsWorkTheQueue : Prop :=
  ∀ s : State, s.storeLegal →
    let x := s.store
    let waiting := x.queue.drop 1
    let owed : List Job :=
      (if x.owedParameters then [Job.parameters] else []) ++ (if x.owedCheckpoint then [Job.checkpoint] else [])
    let follows (now t : State) : Prop :=
      (∀ j rest, now.store.queue = j :: rest → jobBegins now t j) ∧
      (now.store.queue = [] → t = { now with store := { now.store with
        status := if now.store.powerFail then .halted else .ready } })
    let records : List Job := waiting.filter fun j => decide (j ≠ .checkpoint ∧ j ≠ .parameters)
    let dropped (seq : Nat) : Prop := ∃ q, Job.record q ∈ waiting ∧ q.seq = seq
    let flowing : Prop := ∃ r, (s.channels.get r).runState = .flowing
    (x.writing = none → exec .jobComplete s = .next s) ∧
    (∀ w, x.writing = some w → ∃ t, exec .jobComplete s = .next t ∧
      let joined := if x.powerFail then [] else owed.take (4 - waiting.length)
      let marked : Store := match w.payload with
        | .parameters m false => { x with parameters := ⟨some m, x.parameters.second⟩ }
        | .parameters m true => { x with parameters := ⟨x.parameters.first, some m⟩ }
        | .checkpoint m false => { x with checkpoints := ⟨some m, x.checkpoints.second⟩ }
        | .checkpoint m true => { x with checkpoints := ⟨x.checkpoints.first, some m⟩ }
        | .record q => { x with slots := x.slots.set ((q.seq - 1) % 28) (some q) }
      let ring : List RingEntry := match w.payload with
        | .record q => s.history.ring.map fun e =>
            if e.record.seq = q.seq ∧ e.retention = .pending then { e with retention := .retained } else e
        | _ => s.history.ring
      follows { s with
        history := { s.history with ring := ring }
        store := { marked with
          queue := waiting ++ joined, writing := none
          owedParameters := x.owedParameters && decide (Job.parameters ∉ joined)
          owedCheckpoint := x.owedCheckpoint && decide (Job.checkpoint ∉ joined) } } t) ∧
    (x.pfailActive = true → exec .powerFailWarning s = .next s) ∧
    (x.pfailActive = false → ∃ t, exec .powerFailWarning s = .next t ∧
      (s.isRestoring = true → t = { s with
        lines := { s.lines with pfail := t.lines.pfail }, store := { x with pfailActive := true } }) ∧
      (s.isRestoring = false →
        let warned : State := { s with
          lines := { s.lines with pfail := t.lines.pfail }
          store := { x with
            pfailActive := true, powerFail := true
            queue := x.queue.take 1 ++
              (if .checkpoint ∈ waiting then waiting.filter (· = .checkpoint) else [.checkpoint])
            owedParameters := x.owedParameters || decide (Job.parameters ∈ waiting) } }
        ringLoses s t dropped ∧ retentionTimes s t (records.length + 1) ∧
        (∀ p, (t.ports.get p).causes.powerWarning = true ∧
          ((t.ports.get p).causes.recordNotRetained = true ↔
            (s.ports.get p).causes.recordNotRetained = true ∨ records ≠ [])) ∧
        (x.status = .writing → t = { warned with
          ports := t.ports, history := { s.history with ring := t.history.ring } }) ∧
        (x.status = .ready → ∃ u, jobBegins warned u .checkpoint ∧ t = { u with ports := t.ports }))) ∧
    (x.pfailActive = false → exec .powerFailClear s = .next s) ∧
    (x.pfailActive = true → ∃ t, exec .powerFailClear s = .next t ∧
      let cleared : State := { s with
        lines := { s.lines with pfail := t.lines.pfail }, store := { x with pfailActive := false, powerFail := false } }
      (x.status ≠ .halted → t = cleared) ∧
      (x.status = .halted → follows { cleared with store := { cleared.store with
        queue := owed, owedParameters := false, owedCheckpoint := false } } t)) ∧
    (¬ flowing ∨ (s.uptime - x.periodicRef).toNat < 60 → exec .periodicCheckpoint s = .next s) ∧
    (flowing → 60 ≤ (s.uptime - x.periodicRef).toNat →
      ∃ t, exec .periodicCheckpoint s = .next t ∧ t = { s with store := t.store } ∧
        (x.status ≠ .restoring → jobAsked s x t.store .checkpoint))

/-- R24, R34, R35, R50, R61, R78, R82, R97, R101, R132, R160, R188, R190: the restore completion gives every block its restored
state: custody parameters from the newer marked parameter area or unset; totals, accumulators, settings and counters from
the newer marked checkpoint, or totals from the newest record, or 0, with the loss announced in RETENTION; the open batch
unless a retained record shows it closed; the ring from up to 24 of the newest marked records, all RETAINED, and every
cursor at its oldest. A run marked enabled whose Kx is set enters STANDBY with its held counts added; every other run is
OFFLINE and adds its held forward pulses to the offline count. The batch sequence counter is the larger of the checkpoint's
and the newest record's number plus one, 1 with neither; the sampler takes A, fill, polarity and W of the checkpoint under
the conditions of R160. Not RESTORING, the command does nothing (log entry 8). That REVERSE is raised for the carried window
alone is log entry 13, the copy a job writes log entry 17, and that R188's CHECKPOINT joins behind R190's log entry 25. That
a warning taken back before the completion leaves nothing is the model's choice (log entry 31). -/
def Obligations.RestoreCompletionRestoresTheBlocks : Prop :=
  ∀ s : State, (s.isRestoring = false → exec .restoreComplete s = .next s) ∧
    (s.isRestoring = true → s.storeLegal → slotsLegal s.store.slots →
      let area := s.store.parameters.newest.map Marked.contents
      let check := s.store.checkpoints.newest.map Marked.contents
      let held (q : BatchRecord) : Prop := some q ∈ s.store.slots
      ∃ t, exec .restoreComplete s = .next t ∧ t.isRestoring = false ∧ t.store.periodicRef = s.uptime ∧
        (∀ a, area = some a → t.captureParameters = a) ∧
        (area = none → t.captureParameters = ⟨.all 0, .all [], 0, none, 0⟩ ∧
          ∀ p, ((t.ports.get p).events.get .retention).flag = true ∧ (t.ports.get p).causes.parametersLost = true) ∧
        (∀ r, (t.totalizers.get r).lastMf = none ∧ (t.totalizers.get r).curveChanged = false ∧
          (t.totalizers.get r).curveStatus = (if t.curves.get r = [] then .noCurve else .belowCurve)) ∧
        (∀ a, check = some a → t.queue = a.queue ∧ t.control.nextId = a.nextId ∧ ∀ r,
          let k := a.runs.get r
          let kx := (t.totalizers.get r).kx
          (t.totalizers.get r).total = k.total ∧ (t.totalizers.get r).rollover = k.rollover ∧
          (t.totalizers.get r).unbatched = k.unbatched ∧
          (t.totalizers.get r).unbatchedSaturated = k.unbatchedSaturated ∧
          (kx ≠ 0 ∧ kx = k.kx → (t.totalizers.get r).indicatedRemainder = k.indicatedRemainder ∧
            (t.totalizers.get r).grossRemainder = k.grossRemainder) ∧
          (¬ (kx ≠ 0 ∧ kx = k.kx) → (t.totalizers.get r).indicatedRemainder = 0 ∧
            (t.totalizers.get r).grossRemainder = 0) ∧
          (t.channels.get r).cutoff = k.cutoff ∧ (t.channels.get r).limit = k.limit ∧
          (k.enabled = true → kx ≠ 0 →
            (t.channels.get r).runState = .standby ∧ (t.channels.get r).offlinePulses = k.offlinePulses ∧
            (t.channels.get r).history = (s.channels.get r).history ∧
            (t.channels.get r).carried = (s.channels.get r).carried ∧
            (t.channels.get r).window = (s.channels.get r).window ∧
            (t.channels.get r).cumulative = {
              reverse := min (k.cumulative.reverse + (s.channels.get r).held.reverse) 4294967295
              aMissing := min (k.cumulative.aMissing + (s.channels.get r).held.aMissing) 4294967295
              bMissing := min (k.cumulative.bMissing + (s.channels.get r).held.bMissing) 4294967295
              coincident := min (k.cumulative.coincident + (s.channels.get r).held.coincident) 4294967295
              dither := min (k.cumulative.dither + (s.channels.get r).held.dither) 4294967295 } ∧
            (∀ p, ((t.ports.get p).events.get .runState).flag = true) ∧
            (0 < (s.channels.get r).carried.faults.reverse → ∀ p, ((t.ports.get p).events.get .reverse).flag = true)) ∧
          (k.enabled = false ∨ kx = 0 →
            let pulses := (s.channels.get r).carried.pulses + (s.channels.get r).window.pulses
            (t.channels.get r).runState = .offline ∧ (t.channels.get r).cumulative = k.cumulative ∧
            (t.channels.get r).offlinePulses = min (k.offlinePulses + pulses) 4294967295 ∧
            (t.channels.get r).history = [] ∧ (t.channels.get r).window = .zero ∧ (t.channels.get r).carried = .zero ∧
            (0 < pulses → (t.channels.get r).offlineSeen = true ∧
              ∀ p, ((t.ports.get p).events.get .offlinePulses).flag = true))) ∧
        (check = none → t.queue = [] ∧ t.batch = none ∧ t.control.nextId = 1 ∧
          t.sampler.counts = ⟨0, 0, 0, 0, 0, 0⟩ ∧ ∀ r,
          let pulses := (s.channels.get r).carried.pulses + (s.channels.get r).window.pulses
          (t.channels.get r).cumulative = .zero ∧ (t.channels.get r).offlinePulses = min pulses 4294967295 ∧
          (t.channels.get r).history = [] ∧ (t.channels.get r).window = .zero ∧ (t.channels.get r).carried = .zero ∧
          (0 < pulses → (t.channels.get r).offlineSeen = true ∧
            ∀ p, ((t.ports.get p).events.get .offlinePulses).flag = true) ∧
          (t.totalizers.get r).unbatchedSaturated = false ∧
          (t.channels.get r).runState = .offline ∧ (t.channels.get r).cutoff = 20 ∧ (t.channels.get r).limit = 10 ∧
          (t.totalizers.get r).indicatedRemainder = 0 ∧ (t.totalizers.get r).grossRemainder = 0 ∧
          (t.totalizers.get r).rollover = .zero ∧ (t.totalizers.get r).unbatched = .zero ∧
          (∀ q, held q → (∀ y, held y → y.seq ≤ q.seq) → (t.totalizers.get r).total = (q.runs.get r).closing ∧
            ∀ p, ((t.ports.get p).events.get .retention).flag = true ∧ (t.ports.get p).causes.totalsFromRecord = true) ∧
          ((∀ q, ¬ held q) → (t.totalizers.get r).total = .zero ∧
            ∀ p, ((t.ports.get p).events.get .retention).flag = true ∧ (t.ports.get p).causes.totalsLost = true)) ∧
        (∀ a b, check = some a → a.batch = some b →
          ((∀ q, held q → q.seq < a.batchSeq) →
            t.batch = some { b with flags := { b.flags with powerInterrupted := true } } ∧
            t.sampler.counts = { a.grabs with overflow := a.grabs.overflow + a.ownPending }) ∧
          ((∃ q, held q ∧ a.batchSeq ≤ q.seq) → t.batch = none ∧ t.sampler.counts = ⟨0, 0, 0, 0, 0, 0⟩)) ∧
        (∀ a, check = some a → a.batch = none → t.batch = none ∧ t.sampler.counts = ⟨0, 0, 0, 0, 0, 0⟩) ∧
        (∀ a, check = some a → a.batchSeq ≤ t.batchSeq) ∧ (∀ q, held q → q.seq < t.batchSeq) ∧
        (∀ q, held q → (∀ y, held y → y.seq ≤ q.seq) →
          (∀ a, check = some a → t.batchSeq = max a.batchSeq (q.seq + 1)) ∧ (check = none → t.batchSeq = q.seq + 1)) ∧
        ((∀ q, ¬ held q) →
          (∀ a, check = some a → 1 ≤ a.batchSeq → t.batchSeq = a.batchSeq) ∧ (check = none → t.batchSeq = 1)) ∧
        (∀ a, check = some a → t.sampler.activeLow = a.activeLow ∧ t.sampler.width = a.width ∧
          (t.sampler.setup = none → t.sampler.volume = 0 ∧ t.sampler.fill = a.fill) ∧
          ∀ u, t.sampler.setup = some u → t.sampler.fill = min a.fill u.capacity ∧
            (a.setupSet = true → a.volume < u.interval → t.sampler.volume = a.volume) ∧
            (a.setupSet = false ∨ u.interval ≤ a.volume → t.sampler.volume = 0)) ∧
        (check = none → t.sampler.activeLow = false ∧ t.sampler.width = 100 ∧ t.sampler.volume = 0 ∧ t.sampler.fill = 0) ∧
        t.history.ring.length ≤ 24 ∧ t.history.seqs.Pairwise (· < ·) ∧
        (∀ e ∈ t.history.ring, held e.record ∧ e.retention = .retained) ∧
        (∀ q, held q → q ∉ t.history.ring.map (fun e => e.record) →
          t.history.ring.length = 24 ∧ ∀ e ∈ t.history.ring, q.seq < e.record.seq) ∧
        (∀ p, t.history.cursors.get p = t.oldestSeq ∧ t.history.lost.get p = 0) ∧
        (t.sampler.pendingGrabs = [] ∧ t.sampler.output = .idle ∧ t.sampler.hold = false ∧
          t.sampler.grabLine = some t.sampler.activeLow ∧ (t.sampler.full = true ↔ t.sampler.receiverFull)) ∧
        (s.store.pfailActive = true → t.store.powerFail = true ∧
          t.store.queue = (if check = none then [.checkpoint, .checkpoint] else [.checkpoint]) ∧
          ∀ p, ((t.ports.get p).events.get .retention).flag = true ∧ (t.ports.get p).causes.powerWarning = true) ∧
        (s.store.pfailActive = false → t.store.powerFail = false ∧
          t.store.queue = (if check = none then [.checkpoint] else []) ∧
          (check ≠ none → t.store = { s.store with
            status := .ready, periodicRef := s.uptime, powerFail := t.store.powerFail }) ∧
          (check = none → jobBegins { t with store := { s.store with
            status := .ready, queue := [.checkpoint] } } t .checkpoint)) ∧
        t.prover = { s.prover with baseVolume := t.prover.baseVolume } ∧ t.control.slots = List.replicate 6 none ∧
        t.tick = s.tick ∧ t.uptime = s.uptime ∧ t.lines = s.lines ∧
        ∀ r, (t.channels.get r).direction = (s.channels.get r).direction ∧
          (t.channels.get r).pair = (s.channels.get r).pair ∧ (t.channels.get r).tracking = (s.channels.get r).tracking ∧
          (t.channels.get r).deadline = (s.channels.get r).deadline ∧ (t.channels.get r).degraded = false)
end

