-- ==== Sys2Proof/Laws/State.lean ====
section
/-! SUPPORT. One lemma per field per update of the state, true by rfl, and the laws of the values kept per run, per port and
per event class. -/

namespace Sys2Proof.Machine

/-! ### Values per run, per port and per class -/

@[simp] theorem PerRun.get_set_self {α : Type} (v : PerRun α) (k : Run) (x : α) : (v.set k x).get k = x := by
  cases k <;> rfl

@[simp] theorem PerRun.get_set_ne {α : Type} (v : PerRun α) {j k : Run} (x : α) (h : j ≠ k) : (v.set k x).get j = v.get j := by
  cases j <;> cases k <;> first | rfl | exact absurd rfl h

theorem PerRun.get_set {α : Type} (v : PerRun α) (j k : Run) (x : α) : (v.set k x).get j = if j = k then x else v.get j := by
  by_cases h : j = k
  · subst h; simp
  · simp [h]

@[simp] theorem PerRun.set_get {α : Type} (v : PerRun α) (k : Run) : v.set k (v.get k) = v := by cases k <;> rfl

@[simp] theorem PerRun.set_set {α : Type} (v : PerRun α) (k : Run) (x y : α) : (v.set k x).set k y = v.set k y := by
  cases k <;> rfl

@[simp] theorem PerRun.get_ofFn {α : Type} (f : Run → α) (k : Run) : (PerRun.ofFn f).get k = f k := by cases k <;> rfl

theorem PerRun.ext_get {α : Type} {v w : PerRun α} (h : ∀ k, v.get k = w.get k) : v = w := by
  cases v; cases w; simp only [PerRun.mk.injEq]
  exact ⟨h .run1, h .run2, h .run3, h .run4⟩

@[simp] theorem PerRun.get_all {α : Type} (x : α) (k : Run) : (PerRun.all x).get k = x := by cases k <;> rfl

@[simp] theorem PerPort.get_set_self {α : Type} (v : PerPort α) (k : Port) (x : α) : (v.set k x).get k = x := by
  cases k <;> rfl

@[simp] theorem PerPort.get_set_ne {α : Type} (v : PerPort α) {j k : Port} (x : α) (h : j ≠ k) : (v.set k x).get j = v.get j := by
  cases j <;> cases k <;> first | rfl | exact absurd rfl h

theorem PerPort.get_set {α : Type} (v : PerPort α) (j k : Port) (x : α) : (v.set k x).get j = if j = k then x else v.get j := by
  by_cases h : j = k
  · subst h; simp
  · simp [h]

@[simp] theorem PerPort.set_get {α : Type} (v : PerPort α) (k : Port) : v.set k (v.get k) = v := by cases k <;> rfl

@[simp] theorem PerPort.set_set {α : Type} (v : PerPort α) (k : Port) (x y : α) : (v.set k x).set k y = v.set k y := by
  cases k <;> rfl

@[simp] theorem PerPort.get_ofFn {α : Type} (f : Port → α) (k : Port) : (PerPort.ofFn f).get k = f k := by cases k <;> rfl

theorem PerPort.ext_get {α : Type} {v w : PerPort α} (h : ∀ k, v.get k = w.get k) : v = w := by
  cases v; cases w; simp only [PerPort.mk.injEq]
  exact ⟨h .opr, h .wit, h .sup⟩

@[simp] theorem PerPort.get_all {α : Type} (x : α) (k : Port) : (PerPort.all x).get k = x := by cases k <;> rfl

@[simp] theorem ClassMap.get_set_self {α : Type} (v : ClassMap α) (k : EventClass) (x : α) : (v.set k x).get k = x := by
  cases k <;> rfl

@[simp] theorem ClassMap.get_set_ne {α : Type} (v : ClassMap α) {j k : EventClass} (x : α) (h : j ≠ k) : (v.set k x).get j = v.get j := by
  cases j <;> cases k <;> first | rfl | exact absurd rfl h

theorem ClassMap.get_set {α : Type} (v : ClassMap α) (j k : EventClass) (x : α) : (v.set k x).get j = if j = k then x else v.get j := by
  by_cases h : j = k
  · subst h; simp
  · simp [h]

@[simp] theorem ClassMap.set_get {α : Type} (v : ClassMap α) (k : EventClass) : v.set k (v.get k) = v := by cases k <;> rfl

@[simp] theorem ClassMap.set_set {α : Type} (v : ClassMap α) (k : EventClass) (x y : α) : (v.set k x).set k y = v.set k y := by
  cases k <;> rfl

@[simp] theorem ClassMap.get_ofFn {α : Type} (f : EventClass → α) (k : EventClass) : (ClassMap.ofFn f).get k = f k := by cases k <;> rfl

theorem ClassMap.ext_get {α : Type} {v w : ClassMap α} (h : ∀ k, v.get k = w.get k) : v = w := by
  cases v; cases w; simp only [ClassMap.mk.injEq]
  exact ⟨h .restarted, h .retention, h .batchOpened, h .batchClosed, h .preTarget, h .recordLost, h .runState, h .integrity, h .reverse, h .curveRange, h .offlinePulses, h .proving, h .proposal, h .sampler⟩

/-! ### Updates of one part of the state -/

@[simp] theorem State.setChannel_tick (s : State) (r : Run) (x : Channel) : (s.setChannel r x).tick = s.tick := rfl
@[simp] theorem State.setChannel_nextSecond (s : State) (r : Run) (x : Channel) : (s.setChannel r x).nextSecond = s.nextSecond := rfl
@[simp] theorem State.setChannel_uptime (s : State) (r : Run) (x : Channel) : (s.setChannel r x).uptime = s.uptime := rfl
@[simp] theorem State.setChannel_stationTime (s : State) (r : Run) (x : Channel) : (s.setChannel r x).stationTime = s.stationTime := rfl
@[simp] theorem State.setChannel_stationSet (s : State) (r : Run) (x : Channel) : (s.setChannel r x).stationSet = s.stationSet := rfl
@[simp] theorem State.setChannel_lines (s : State) (r : Run) (x : Channel) : (s.setChannel r x).lines = s.lines := rfl
@[simp] theorem State.setChannel_channels (s : State) (r : Run) (x : Channel) : (s.setChannel r x).channels = s.channels.set r x := rfl
@[simp] theorem State.setChannel_totalizers (s : State) (r : Run) (x : Channel) : (s.setChannel r x).totalizers = s.totalizers := rfl
@[simp] theorem State.setChannel_curves (s : State) (r : Run) (x : Channel) : (s.setChannel r x).curves = s.curves := rfl
@[simp] theorem State.setChannel_queue (s : State) (r : Run) (x : Channel) : (s.setChannel r x).queue = s.queue := rfl
@[simp] theorem State.setChannel_batch (s : State) (r : Run) (x : Channel) : (s.setChannel r x).batch = s.batch := rfl
@[simp] theorem State.setChannel_batchSeq (s : State) (r : Run) (x : Channel) : (s.setChannel r x).batchSeq = s.batchSeq := rfl
@[simp] theorem State.setChannel_history (s : State) (r : Run) (x : Channel) : (s.setChannel r x).history = s.history := rfl
@[simp] theorem State.setChannel_prover (s : State) (r : Run) (x : Channel) : (s.setChannel r x).prover = s.prover := rfl
@[simp] theorem State.setChannel_control (s : State) (r : Run) (x : Channel) : (s.setChannel r x).control = s.control := rfl
@[simp] theorem State.setChannel_sampler (s : State) (r : Run) (x : Channel) : (s.setChannel r x).sampler = s.sampler := rfl
@[simp] theorem State.setChannel_ports (s : State) (r : Run) (x : Channel) : (s.setChannel r x).ports = s.ports := rfl
@[simp] theorem State.setChannel_store (s : State) (r : Run) (x : Channel) : (s.setChannel r x).store = s.store := rfl
@[simp] theorem State.setChannel_freeIndex (s : State) (r : Run) (x : Channel) : (s.setChannel r x).freeIndex = s.freeIndex := rfl
@[simp] theorem State.setChannel_pending (s : State) (r : Run) (x : Channel) : (s.setChannel r x).pending = s.pending := rfl

@[simp] theorem State.setTotalizer_tick (s : State) (r : Run) (x : Totalizer) : (s.setTotalizer r x).tick = s.tick := rfl
@[simp] theorem State.setTotalizer_nextSecond (s : State) (r : Run) (x : Totalizer) : (s.setTotalizer r x).nextSecond = s.nextSecond := rfl
@[simp] theorem State.setTotalizer_uptime (s : State) (r : Run) (x : Totalizer) : (s.setTotalizer r x).uptime = s.uptime := rfl
@[simp] theorem State.setTotalizer_stationTime (s : State) (r : Run) (x : Totalizer) : (s.setTotalizer r x).stationTime = s.stationTime := rfl
@[simp] theorem State.setTotalizer_stationSet (s : State) (r : Run) (x : Totalizer) : (s.setTotalizer r x).stationSet = s.stationSet := rfl
@[simp] theorem State.setTotalizer_lines (s : State) (r : Run) (x : Totalizer) : (s.setTotalizer r x).lines = s.lines := rfl
@[simp] theorem State.setTotalizer_channels (s : State) (r : Run) (x : Totalizer) : (s.setTotalizer r x).channels = s.channels := rfl
@[simp] theorem State.setTotalizer_totalizers (s : State) (r : Run) (x : Totalizer) : (s.setTotalizer r x).totalizers = s.totalizers.set r x := rfl
@[simp] theorem State.setTotalizer_curves (s : State) (r : Run) (x : Totalizer) : (s.setTotalizer r x).curves = s.curves := rfl
@[simp] theorem State.setTotalizer_queue (s : State) (r : Run) (x : Totalizer) : (s.setTotalizer r x).queue = s.queue := rfl
@[simp] theorem State.setTotalizer_batch (s : State) (r : Run) (x : Totalizer) : (s.setTotalizer r x).batch = s.batch := rfl
@[simp] theorem State.setTotalizer_batchSeq (s : State) (r : Run) (x : Totalizer) : (s.setTotalizer r x).batchSeq = s.batchSeq := rfl
@[simp] theorem State.setTotalizer_history (s : State) (r : Run) (x : Totalizer) : (s.setTotalizer r x).history = s.history := rfl
@[simp] theorem State.setTotalizer_prover (s : State) (r : Run) (x : Totalizer) : (s.setTotalizer r x).prover = s.prover := rfl
@[simp] theorem State.setTotalizer_control (s : State) (r : Run) (x : Totalizer) : (s.setTotalizer r x).control = s.control := rfl
@[simp] theorem State.setTotalizer_sampler (s : State) (r : Run) (x : Totalizer) : (s.setTotalizer r x).sampler = s.sampler := rfl
@[simp] theorem State.setTotalizer_ports (s : State) (r : Run) (x : Totalizer) : (s.setTotalizer r x).ports = s.ports := rfl
@[simp] theorem State.setTotalizer_store (s : State) (r : Run) (x : Totalizer) : (s.setTotalizer r x).store = s.store := rfl
@[simp] theorem State.setTotalizer_freeIndex (s : State) (r : Run) (x : Totalizer) : (s.setTotalizer r x).freeIndex = s.freeIndex := rfl
@[simp] theorem State.setTotalizer_pending (s : State) (r : Run) (x : Totalizer) : (s.setTotalizer r x).pending = s.pending := rfl

@[simp] theorem State.setCurve_tick (s : State) (r : Run) (x : List CurvePoint) : (s.setCurve r x).tick = s.tick := rfl
@[simp] theorem State.setCurve_nextSecond (s : State) (r : Run) (x : List CurvePoint) : (s.setCurve r x).nextSecond = s.nextSecond := rfl
@[simp] theorem State.setCurve_uptime (s : State) (r : Run) (x : List CurvePoint) : (s.setCurve r x).uptime = s.uptime := rfl
@[simp] theorem State.setCurve_stationTime (s : State) (r : Run) (x : List CurvePoint) : (s.setCurve r x).stationTime = s.stationTime := rfl
@[simp] theorem State.setCurve_stationSet (s : State) (r : Run) (x : List CurvePoint) : (s.setCurve r x).stationSet = s.stationSet := rfl
@[simp] theorem State.setCurve_lines (s : State) (r : Run) (x : List CurvePoint) : (s.setCurve r x).lines = s.lines := rfl
@[simp] theorem State.setCurve_channels (s : State) (r : Run) (x : List CurvePoint) : (s.setCurve r x).channels = s.channels := rfl
@[simp] theorem State.setCurve_totalizers (s : State) (r : Run) (x : List CurvePoint) : (s.setCurve r x).totalizers = s.totalizers := rfl
@[simp] theorem State.setCurve_curves (s : State) (r : Run) (x : List CurvePoint) : (s.setCurve r x).curves = s.curves.set r x := rfl
@[simp] theorem State.setCurve_queue (s : State) (r : Run) (x : List CurvePoint) : (s.setCurve r x).queue = s.queue := rfl
@[simp] theorem State.setCurve_batch (s : State) (r : Run) (x : List CurvePoint) : (s.setCurve r x).batch = s.batch := rfl
@[simp] theorem State.setCurve_batchSeq (s : State) (r : Run) (x : List CurvePoint) : (s.setCurve r x).batchSeq = s.batchSeq := rfl
@[simp] theorem State.setCurve_history (s : State) (r : Run) (x : List CurvePoint) : (s.setCurve r x).history = s.history := rfl
@[simp] theorem State.setCurve_prover (s : State) (r : Run) (x : List CurvePoint) : (s.setCurve r x).prover = s.prover := rfl
@[simp] theorem State.setCurve_control (s : State) (r : Run) (x : List CurvePoint) : (s.setCurve r x).control = s.control := rfl
@[simp] theorem State.setCurve_sampler (s : State) (r : Run) (x : List CurvePoint) : (s.setCurve r x).sampler = s.sampler := rfl
@[simp] theorem State.setCurve_ports (s : State) (r : Run) (x : List CurvePoint) : (s.setCurve r x).ports = s.ports := rfl
@[simp] theorem State.setCurve_store (s : State) (r : Run) (x : List CurvePoint) : (s.setCurve r x).store = s.store := rfl
@[simp] theorem State.setCurve_freeIndex (s : State) (r : Run) (x : List CurvePoint) : (s.setCurve r x).freeIndex = s.freeIndex := rfl
@[simp] theorem State.setCurve_pending (s : State) (r : Run) (x : List CurvePoint) : (s.setCurve r x).pending = s.pending := rfl

@[simp] theorem State.setPort_tick (s : State) (p : Port) (x : PortState) : (s.setPort p x).tick = s.tick := rfl
@[simp] theorem State.setPort_nextSecond (s : State) (p : Port) (x : PortState) : (s.setPort p x).nextSecond = s.nextSecond := rfl
@[simp] theorem State.setPort_uptime (s : State) (p : Port) (x : PortState) : (s.setPort p x).uptime = s.uptime := rfl
@[simp] theorem State.setPort_stationTime (s : State) (p : Port) (x : PortState) : (s.setPort p x).stationTime = s.stationTime := rfl
@[simp] theorem State.setPort_stationSet (s : State) (p : Port) (x : PortState) : (s.setPort p x).stationSet = s.stationSet := rfl
@[simp] theorem State.setPort_lines (s : State) (p : Port) (x : PortState) : (s.setPort p x).lines = s.lines := rfl
@[simp] theorem State.setPort_channels (s : State) (p : Port) (x : PortState) : (s.setPort p x).channels = s.channels := rfl
@[simp] theorem State.setPort_totalizers (s : State) (p : Port) (x : PortState) : (s.setPort p x).totalizers = s.totalizers := rfl
@[simp] theorem State.setPort_curves (s : State) (p : Port) (x : PortState) : (s.setPort p x).curves = s.curves := rfl
@[simp] theorem State.setPort_queue (s : State) (p : Port) (x : PortState) : (s.setPort p x).queue = s.queue := rfl
@[simp] theorem State.setPort_batch (s : State) (p : Port) (x : PortState) : (s.setPort p x).batch = s.batch := rfl
@[simp] theorem State.setPort_batchSeq (s : State) (p : Port) (x : PortState) : (s.setPort p x).batchSeq = s.batchSeq := rfl
@[simp] theorem State.setPort_history (s : State) (p : Port) (x : PortState) : (s.setPort p x).history = s.history := rfl
@[simp] theorem State.setPort_prover (s : State) (p : Port) (x : PortState) : (s.setPort p x).prover = s.prover := rfl
@[simp] theorem State.setPort_control (s : State) (p : Port) (x : PortState) : (s.setPort p x).control = s.control := rfl
@[simp] theorem State.setPort_sampler (s : State) (p : Port) (x : PortState) : (s.setPort p x).sampler = s.sampler := rfl
@[simp] theorem State.setPort_ports (s : State) (p : Port) (x : PortState) : (s.setPort p x).ports = s.ports.set p x := rfl
@[simp] theorem State.setPort_store (s : State) (p : Port) (x : PortState) : (s.setPort p x).store = s.store := rfl
@[simp] theorem State.setPort_freeIndex (s : State) (p : Port) (x : PortState) : (s.setPort p x).freeIndex = s.freeIndex := rfl
@[simp] theorem State.setPort_pending (s : State) (p : Port) (x : PortState) : (s.setPort p x).pending = s.pending := rfl

@[simp] theorem State.setQueue_tick (s : State) (x : List Plan) : (s.setQueue x).tick = s.tick := rfl
@[simp] theorem State.setQueue_nextSecond (s : State) (x : List Plan) : (s.setQueue x).nextSecond = s.nextSecond := rfl
@[simp] theorem State.setQueue_uptime (s : State) (x : List Plan) : (s.setQueue x).uptime = s.uptime := rfl
@[simp] theorem State.setQueue_stationTime (s : State) (x : List Plan) : (s.setQueue x).stationTime = s.stationTime := rfl
@[simp] theorem State.setQueue_stationSet (s : State) (x : List Plan) : (s.setQueue x).stationSet = s.stationSet := rfl
@[simp] theorem State.setQueue_lines (s : State) (x : List Plan) : (s.setQueue x).lines = s.lines := rfl
@[simp] theorem State.setQueue_channels (s : State) (x : List Plan) : (s.setQueue x).channels = s.channels := rfl
@[simp] theorem State.setQueue_totalizers (s : State) (x : List Plan) : (s.setQueue x).totalizers = s.totalizers := rfl
@[simp] theorem State.setQueue_curves (s : State) (x : List Plan) : (s.setQueue x).curves = s.curves := rfl
@[simp] theorem State.setQueue_queue (s : State) (x : List Plan) : (s.setQueue x).queue = x := rfl
@[simp] theorem State.setQueue_batch (s : State) (x : List Plan) : (s.setQueue x).batch = s.batch := rfl
@[simp] theorem State.setQueue_batchSeq (s : State) (x : List Plan) : (s.setQueue x).batchSeq = s.batchSeq := rfl
@[simp] theorem State.setQueue_history (s : State) (x : List Plan) : (s.setQueue x).history = s.history := rfl
@[simp] theorem State.setQueue_prover (s : State) (x : List Plan) : (s.setQueue x).prover = s.prover := rfl
@[simp] theorem State.setQueue_control (s : State) (x : List Plan) : (s.setQueue x).control = s.control := rfl
@[simp] theorem State.setQueue_sampler (s : State) (x : List Plan) : (s.setQueue x).sampler = s.sampler := rfl
@[simp] theorem State.setQueue_ports (s : State) (x : List Plan) : (s.setQueue x).ports = s.ports := rfl
@[simp] theorem State.setQueue_store (s : State) (x : List Plan) : (s.setQueue x).store = s.store := rfl
@[simp] theorem State.setQueue_freeIndex (s : State) (x : List Plan) : (s.setQueue x).freeIndex = s.freeIndex := rfl
@[simp] theorem State.setQueue_pending (s : State) (x : List Plan) : (s.setQueue x).pending = s.pending := rfl

@[simp] theorem State.setBatch_tick (s : State) (x : Option OpenBatch) : (s.setBatch x).tick = s.tick := rfl
@[simp] theorem State.setBatch_nextSecond (s : State) (x : Option OpenBatch) : (s.setBatch x).nextSecond = s.nextSecond := rfl
@[simp] theorem State.setBatch_uptime (s : State) (x : Option OpenBatch) : (s.setBatch x).uptime = s.uptime := rfl
@[simp] theorem State.setBatch_stationTime (s : State) (x : Option OpenBatch) : (s.setBatch x).stationTime = s.stationTime := rfl
@[simp] theorem State.setBatch_stationSet (s : State) (x : Option OpenBatch) : (s.setBatch x).stationSet = s.stationSet := rfl
@[simp] theorem State.setBatch_lines (s : State) (x : Option OpenBatch) : (s.setBatch x).lines = s.lines := rfl
@[simp] theorem State.setBatch_channels (s : State) (x : Option OpenBatch) : (s.setBatch x).channels = s.channels := rfl
@[simp] theorem State.setBatch_totalizers (s : State) (x : Option OpenBatch) : (s.setBatch x).totalizers = s.totalizers := rfl
@[simp] theorem State.setBatch_curves (s : State) (x : Option OpenBatch) : (s.setBatch x).curves = s.curves := rfl
@[simp] theorem State.setBatch_queue (s : State) (x : Option OpenBatch) : (s.setBatch x).queue = s.queue := rfl
@[simp] theorem State.setBatch_batch (s : State) (x : Option OpenBatch) : (s.setBatch x).batch = x := rfl
@[simp] theorem State.setBatch_batchSeq (s : State) (x : Option OpenBatch) : (s.setBatch x).batchSeq = s.batchSeq := rfl
@[simp] theorem State.setBatch_history (s : State) (x : Option OpenBatch) : (s.setBatch x).history = s.history := rfl
@[simp] theorem State.setBatch_prover (s : State) (x : Option OpenBatch) : (s.setBatch x).prover = s.prover := rfl
@[simp] theorem State.setBatch_control (s : State) (x : Option OpenBatch) : (s.setBatch x).control = s.control := rfl
@[simp] theorem State.setBatch_sampler (s : State) (x : Option OpenBatch) : (s.setBatch x).sampler = s.sampler := rfl
@[simp] theorem State.setBatch_ports (s : State) (x : Option OpenBatch) : (s.setBatch x).ports = s.ports := rfl
@[simp] theorem State.setBatch_store (s : State) (x : Option OpenBatch) : (s.setBatch x).store = s.store := rfl
@[simp] theorem State.setBatch_freeIndex (s : State) (x : Option OpenBatch) : (s.setBatch x).freeIndex = s.freeIndex := rfl
@[simp] theorem State.setBatch_pending (s : State) (x : Option OpenBatch) : (s.setBatch x).pending = s.pending := rfl

@[simp] theorem State.setHistory_tick (s : State) (x : History) : (s.setHistory x).tick = s.tick := rfl
@[simp] theorem State.setHistory_nextSecond (s : State) (x : History) : (s.setHistory x).nextSecond = s.nextSecond := rfl
@[simp] theorem State.setHistory_uptime (s : State) (x : History) : (s.setHistory x).uptime = s.uptime := rfl
@[simp] theorem State.setHistory_stationTime (s : State) (x : History) : (s.setHistory x).stationTime = s.stationTime := rfl
@[simp] theorem State.setHistory_stationSet (s : State) (x : History) : (s.setHistory x).stationSet = s.stationSet := rfl
@[simp] theorem State.setHistory_lines (s : State) (x : History) : (s.setHistory x).lines = s.lines := rfl
@[simp] theorem State.setHistory_channels (s : State) (x : History) : (s.setHistory x).channels = s.channels := rfl
@[simp] theorem State.setHistory_totalizers (s : State) (x : History) : (s.setHistory x).totalizers = s.totalizers := rfl
@[simp] theorem State.setHistory_curves (s : State) (x : History) : (s.setHistory x).curves = s.curves := rfl
@[simp] theorem State.setHistory_queue (s : State) (x : History) : (s.setHistory x).queue = s.queue := rfl
@[simp] theorem State.setHistory_batch (s : State) (x : History) : (s.setHistory x).batch = s.batch := rfl
@[simp] theorem State.setHistory_batchSeq (s : State) (x : History) : (s.setHistory x).batchSeq = s.batchSeq := rfl
@[simp] theorem State.setHistory_history (s : State) (x : History) : (s.setHistory x).history = x := rfl
@[simp] theorem State.setHistory_prover (s : State) (x : History) : (s.setHistory x).prover = s.prover := rfl
@[simp] theorem State.setHistory_control (s : State) (x : History) : (s.setHistory x).control = s.control := rfl
@[simp] theorem State.setHistory_sampler (s : State) (x : History) : (s.setHistory x).sampler = s.sampler := rfl
@[simp] theorem State.setHistory_ports (s : State) (x : History) : (s.setHistory x).ports = s.ports := rfl
@[simp] theorem State.setHistory_store (s : State) (x : History) : (s.setHistory x).store = s.store := rfl
@[simp] theorem State.setHistory_freeIndex (s : State) (x : History) : (s.setHistory x).freeIndex = s.freeIndex := rfl
@[simp] theorem State.setHistory_pending (s : State) (x : History) : (s.setHistory x).pending = s.pending := rfl

@[simp] theorem State.setProver_tick (s : State) (x : Prover) : (s.setProver x).tick = s.tick := rfl
@[simp] theorem State.setProver_nextSecond (s : State) (x : Prover) : (s.setProver x).nextSecond = s.nextSecond := rfl
@[simp] theorem State.setProver_uptime (s : State) (x : Prover) : (s.setProver x).uptime = s.uptime := rfl
@[simp] theorem State.setProver_stationTime (s : State) (x : Prover) : (s.setProver x).stationTime = s.stationTime := rfl
@[simp] theorem State.setProver_stationSet (s : State) (x : Prover) : (s.setProver x).stationSet = s.stationSet := rfl
@[simp] theorem State.setProver_lines (s : State) (x : Prover) : (s.setProver x).lines = s.lines := rfl
@[simp] theorem State.setProver_channels (s : State) (x : Prover) : (s.setProver x).channels = s.channels := rfl
@[simp] theorem State.setProver_totalizers (s : State) (x : Prover) : (s.setProver x).totalizers = s.totalizers := rfl
@[simp] theorem State.setProver_curves (s : State) (x : Prover) : (s.setProver x).curves = s.curves := rfl
@[simp] theorem State.setProver_queue (s : State) (x : Prover) : (s.setProver x).queue = s.queue := rfl
@[simp] theorem State.setProver_batch (s : State) (x : Prover) : (s.setProver x).batch = s.batch := rfl
@[simp] theorem State.setProver_batchSeq (s : State) (x : Prover) : (s.setProver x).batchSeq = s.batchSeq := rfl
@[simp] theorem State.setProver_history (s : State) (x : Prover) : (s.setProver x).history = s.history := rfl
@[simp] theorem State.setProver_prover (s : State) (x : Prover) : (s.setProver x).prover = x := rfl
@[simp] theorem State.setProver_control (s : State) (x : Prover) : (s.setProver x).control = s.control := rfl
@[simp] theorem State.setProver_sampler (s : State) (x : Prover) : (s.setProver x).sampler = s.sampler := rfl
@[simp] theorem State.setProver_ports (s : State) (x : Prover) : (s.setProver x).ports = s.ports := rfl
@[simp] theorem State.setProver_store (s : State) (x : Prover) : (s.setProver x).store = s.store := rfl
@[simp] theorem State.setProver_freeIndex (s : State) (x : Prover) : (s.setProver x).freeIndex = s.freeIndex := rfl
@[simp] theorem State.setProver_pending (s : State) (x : Prover) : (s.setProver x).pending = s.pending := rfl

@[simp] theorem State.setSession_tick (s : State) (x : Session) : (s.setSession x).tick = s.tick := rfl
@[simp] theorem State.setSession_nextSecond (s : State) (x : Session) : (s.setSession x).nextSecond = s.nextSecond := rfl
@[simp] theorem State.setSession_uptime (s : State) (x : Session) : (s.setSession x).uptime = s.uptime := rfl
@[simp] theorem State.setSession_stationTime (s : State) (x : Session) : (s.setSession x).stationTime = s.stationTime := rfl
@[simp] theorem State.setSession_stationSet (s : State) (x : Session) : (s.setSession x).stationSet = s.stationSet := rfl
@[simp] theorem State.setSession_lines (s : State) (x : Session) : (s.setSession x).lines = s.lines := rfl
@[simp] theorem State.setSession_channels (s : State) (x : Session) : (s.setSession x).channels = s.channels := rfl
@[simp] theorem State.setSession_totalizers (s : State) (x : Session) : (s.setSession x).totalizers = s.totalizers := rfl
@[simp] theorem State.setSession_curves (s : State) (x : Session) : (s.setSession x).curves = s.curves := rfl
@[simp] theorem State.setSession_queue (s : State) (x : Session) : (s.setSession x).queue = s.queue := rfl
@[simp] theorem State.setSession_batch (s : State) (x : Session) : (s.setSession x).batch = s.batch := rfl
@[simp] theorem State.setSession_batchSeq (s : State) (x : Session) : (s.setSession x).batchSeq = s.batchSeq := rfl
@[simp] theorem State.setSession_history (s : State) (x : Session) : (s.setSession x).history = s.history := rfl
@[simp] theorem State.setSession_prover (s : State) (x : Session) : (s.setSession x).prover = { s.prover with session := x } := rfl
@[simp] theorem State.setSession_control (s : State) (x : Session) : (s.setSession x).control = s.control := rfl
@[simp] theorem State.setSession_sampler (s : State) (x : Session) : (s.setSession x).sampler = s.sampler := rfl
@[simp] theorem State.setSession_ports (s : State) (x : Session) : (s.setSession x).ports = s.ports := rfl
@[simp] theorem State.setSession_store (s : State) (x : Session) : (s.setSession x).store = s.store := rfl
@[simp] theorem State.setSession_freeIndex (s : State) (x : Session) : (s.setSession x).freeIndex = s.freeIndex := rfl
@[simp] theorem State.setSession_pending (s : State) (x : Session) : (s.setSession x).pending = s.pending := rfl

@[simp] theorem State.setControl_tick (s : State) (x : ChangeControl) : (s.setControl x).tick = s.tick := rfl
@[simp] theorem State.setControl_nextSecond (s : State) (x : ChangeControl) : (s.setControl x).nextSecond = s.nextSecond := rfl
@[simp] theorem State.setControl_uptime (s : State) (x : ChangeControl) : (s.setControl x).uptime = s.uptime := rfl
@[simp] theorem State.setControl_stationTime (s : State) (x : ChangeControl) : (s.setControl x).stationTime = s.stationTime := rfl
@[simp] theorem State.setControl_stationSet (s : State) (x : ChangeControl) : (s.setControl x).stationSet = s.stationSet := rfl
@[simp] theorem State.setControl_lines (s : State) (x : ChangeControl) : (s.setControl x).lines = s.lines := rfl
@[simp] theorem State.setControl_channels (s : State) (x : ChangeControl) : (s.setControl x).channels = s.channels := rfl
@[simp] theorem State.setControl_totalizers (s : State) (x : ChangeControl) : (s.setControl x).totalizers = s.totalizers := rfl
@[simp] theorem State.setControl_curves (s : State) (x : ChangeControl) : (s.setControl x).curves = s.curves := rfl
@[simp] theorem State.setControl_queue (s : State) (x : ChangeControl) : (s.setControl x).queue = s.queue := rfl
@[simp] theorem State.setControl_batch (s : State) (x : ChangeControl) : (s.setControl x).batch = s.batch := rfl
@[simp] theorem State.setControl_batchSeq (s : State) (x : ChangeControl) : (s.setControl x).batchSeq = s.batchSeq := rfl
@[simp] theorem State.setControl_history (s : State) (x : ChangeControl) : (s.setControl x).history = s.history := rfl
@[simp] theorem State.setControl_prover (s : State) (x : ChangeControl) : (s.setControl x).prover = s.prover := rfl
@[simp] theorem State.setControl_control (s : State) (x : ChangeControl) : (s.setControl x).control = x := rfl
@[simp] theorem State.setControl_sampler (s : State) (x : ChangeControl) : (s.setControl x).sampler = s.sampler := rfl
@[simp] theorem State.setControl_ports (s : State) (x : ChangeControl) : (s.setControl x).ports = s.ports := rfl
@[simp] theorem State.setControl_store (s : State) (x : ChangeControl) : (s.setControl x).store = s.store := rfl
@[simp] theorem State.setControl_freeIndex (s : State) (x : ChangeControl) : (s.setControl x).freeIndex = s.freeIndex := rfl
@[simp] theorem State.setControl_pending (s : State) (x : ChangeControl) : (s.setControl x).pending = s.pending := rfl

@[simp] theorem State.setSampler_tick (s : State) (x : Sampler) : (s.setSampler x).tick = s.tick := rfl
@[simp] theorem State.setSampler_nextSecond (s : State) (x : Sampler) : (s.setSampler x).nextSecond = s.nextSecond := rfl
@[simp] theorem State.setSampler_uptime (s : State) (x : Sampler) : (s.setSampler x).uptime = s.uptime := rfl
@[simp] theorem State.setSampler_stationTime (s : State) (x : Sampler) : (s.setSampler x).stationTime = s.stationTime := rfl
@[simp] theorem State.setSampler_stationSet (s : State) (x : Sampler) : (s.setSampler x).stationSet = s.stationSet := rfl
@[simp] theorem State.setSampler_lines (s : State) (x : Sampler) : (s.setSampler x).lines = s.lines := rfl
@[simp] theorem State.setSampler_channels (s : State) (x : Sampler) : (s.setSampler x).channels = s.channels := rfl
@[simp] theorem State.setSampler_totalizers (s : State) (x : Sampler) : (s.setSampler x).totalizers = s.totalizers := rfl
@[simp] theorem State.setSampler_curves (s : State) (x : Sampler) : (s.setSampler x).curves = s.curves := rfl
@[simp] theorem State.setSampler_queue (s : State) (x : Sampler) : (s.setSampler x).queue = s.queue := rfl
@[simp] theorem State.setSampler_batch (s : State) (x : Sampler) : (s.setSampler x).batch = s.batch := rfl
@[simp] theorem State.setSampler_batchSeq (s : State) (x : Sampler) : (s.setSampler x).batchSeq = s.batchSeq := rfl
@[simp] theorem State.setSampler_history (s : State) (x : Sampler) : (s.setSampler x).history = s.history := rfl
@[simp] theorem State.setSampler_prover (s : State) (x : Sampler) : (s.setSampler x).prover = s.prover := rfl
@[simp] theorem State.setSampler_control (s : State) (x : Sampler) : (s.setSampler x).control = s.control := rfl
@[simp] theorem State.setSampler_sampler (s : State) (x : Sampler) : (s.setSampler x).sampler = x := rfl
@[simp] theorem State.setSampler_ports (s : State) (x : Sampler) : (s.setSampler x).ports = s.ports := rfl
@[simp] theorem State.setSampler_store (s : State) (x : Sampler) : (s.setSampler x).store = s.store := rfl
@[simp] theorem State.setSampler_freeIndex (s : State) (x : Sampler) : (s.setSampler x).freeIndex = s.freeIndex := rfl
@[simp] theorem State.setSampler_pending (s : State) (x : Sampler) : (s.setSampler x).pending = s.pending := rfl

@[simp] theorem State.setStore_tick (s : State) (x : Store) : (s.setStore x).tick = s.tick := rfl
@[simp] theorem State.setStore_nextSecond (s : State) (x : Store) : (s.setStore x).nextSecond = s.nextSecond := rfl
@[simp] theorem State.setStore_uptime (s : State) (x : Store) : (s.setStore x).uptime = s.uptime := rfl
@[simp] theorem State.setStore_stationTime (s : State) (x : Store) : (s.setStore x).stationTime = s.stationTime := rfl
@[simp] theorem State.setStore_stationSet (s : State) (x : Store) : (s.setStore x).stationSet = s.stationSet := rfl
@[simp] theorem State.setStore_lines (s : State) (x : Store) : (s.setStore x).lines = s.lines := rfl
@[simp] theorem State.setStore_channels (s : State) (x : Store) : (s.setStore x).channels = s.channels := rfl
@[simp] theorem State.setStore_totalizers (s : State) (x : Store) : (s.setStore x).totalizers = s.totalizers := rfl
@[simp] theorem State.setStore_curves (s : State) (x : Store) : (s.setStore x).curves = s.curves := rfl
@[simp] theorem State.setStore_queue (s : State) (x : Store) : (s.setStore x).queue = s.queue := rfl
@[simp] theorem State.setStore_batch (s : State) (x : Store) : (s.setStore x).batch = s.batch := rfl
@[simp] theorem State.setStore_batchSeq (s : State) (x : Store) : (s.setStore x).batchSeq = s.batchSeq := rfl
@[simp] theorem State.setStore_history (s : State) (x : Store) : (s.setStore x).history = s.history := rfl
@[simp] theorem State.setStore_prover (s : State) (x : Store) : (s.setStore x).prover = s.prover := rfl
@[simp] theorem State.setStore_control (s : State) (x : Store) : (s.setStore x).control = s.control := rfl
@[simp] theorem State.setStore_sampler (s : State) (x : Store) : (s.setStore x).sampler = s.sampler := rfl
@[simp] theorem State.setStore_ports (s : State) (x : Store) : (s.setStore x).ports = s.ports := rfl
@[simp] theorem State.setStore_store (s : State) (x : Store) : (s.setStore x).store = x := rfl
@[simp] theorem State.setStore_freeIndex (s : State) (x : Store) : (s.setStore x).freeIndex = s.freeIndex := rfl
@[simp] theorem State.setStore_pending (s : State) (x : Store) : (s.setStore x).pending = s.pending := rfl

@[simp] theorem State.setLines_tick (s : State) (x : Lines) : (s.setLines x).tick = s.tick := rfl
@[simp] theorem State.setLines_nextSecond (s : State) (x : Lines) : (s.setLines x).nextSecond = s.nextSecond := rfl
@[simp] theorem State.setLines_uptime (s : State) (x : Lines) : (s.setLines x).uptime = s.uptime := rfl
@[simp] theorem State.setLines_stationTime (s : State) (x : Lines) : (s.setLines x).stationTime = s.stationTime := rfl
@[simp] theorem State.setLines_stationSet (s : State) (x : Lines) : (s.setLines x).stationSet = s.stationSet := rfl
@[simp] theorem State.setLines_lines (s : State) (x : Lines) : (s.setLines x).lines = x := rfl
@[simp] theorem State.setLines_channels (s : State) (x : Lines) : (s.setLines x).channels = s.channels := rfl
@[simp] theorem State.setLines_totalizers (s : State) (x : Lines) : (s.setLines x).totalizers = s.totalizers := rfl
@[simp] theorem State.setLines_curves (s : State) (x : Lines) : (s.setLines x).curves = s.curves := rfl
@[simp] theorem State.setLines_queue (s : State) (x : Lines) : (s.setLines x).queue = s.queue := rfl
@[simp] theorem State.setLines_batch (s : State) (x : Lines) : (s.setLines x).batch = s.batch := rfl
@[simp] theorem State.setLines_batchSeq (s : State) (x : Lines) : (s.setLines x).batchSeq = s.batchSeq := rfl
@[simp] theorem State.setLines_history (s : State) (x : Lines) : (s.setLines x).history = s.history := rfl
@[simp] theorem State.setLines_prover (s : State) (x : Lines) : (s.setLines x).prover = s.prover := rfl
@[simp] theorem State.setLines_control (s : State) (x : Lines) : (s.setLines x).control = s.control := rfl
@[simp] theorem State.setLines_sampler (s : State) (x : Lines) : (s.setLines x).sampler = s.sampler := rfl
@[simp] theorem State.setLines_ports (s : State) (x : Lines) : (s.setLines x).ports = s.ports := rfl
@[simp] theorem State.setLines_store (s : State) (x : Lines) : (s.setLines x).store = s.store := rfl
@[simp] theorem State.setLines_freeIndex (s : State) (x : Lines) : (s.setLines x).freeIndex = s.freeIndex := rfl
@[simp] theorem State.setLines_pending (s : State) (x : Lines) : (s.setLines x).pending = s.pending := rfl

/-! ### Changes of every port -/

@[simp] theorem State.mapPorts_tick (f : PortState → PortState) (s : State) : (s.mapPorts f).tick = s.tick := rfl
@[simp] theorem State.mapPorts_nextSecond (f : PortState → PortState) (s : State) : (s.mapPorts f).nextSecond = s.nextSecond := rfl
@[simp] theorem State.mapPorts_uptime (f : PortState → PortState) (s : State) : (s.mapPorts f).uptime = s.uptime := rfl
@[simp] theorem State.mapPorts_stationTime (f : PortState → PortState) (s : State) : (s.mapPorts f).stationTime = s.stationTime := rfl
@[simp] theorem State.mapPorts_stationSet (f : PortState → PortState) (s : State) : (s.mapPorts f).stationSet = s.stationSet := rfl
@[simp] theorem State.mapPorts_lines (f : PortState → PortState) (s : State) : (s.mapPorts f).lines = s.lines := rfl
@[simp] theorem State.mapPorts_channels (f : PortState → PortState) (s : State) : (s.mapPorts f).channels = s.channels := rfl
@[simp] theorem State.mapPorts_totalizers (f : PortState → PortState) (s : State) : (s.mapPorts f).totalizers = s.totalizers := rfl
@[simp] theorem State.mapPorts_curves (f : PortState → PortState) (s : State) : (s.mapPorts f).curves = s.curves := rfl
@[simp] theorem State.mapPorts_queue (f : PortState → PortState) (s : State) : (s.mapPorts f).queue = s.queue := rfl
@[simp] theorem State.mapPorts_batch (f : PortState → PortState) (s : State) : (s.mapPorts f).batch = s.batch := rfl
@[simp] theorem State.mapPorts_batchSeq (f : PortState → PortState) (s : State) : (s.mapPorts f).batchSeq = s.batchSeq := rfl
@[simp] theorem State.mapPorts_history (f : PortState → PortState) (s : State) : (s.mapPorts f).history = s.history := rfl
@[simp] theorem State.mapPorts_prover (f : PortState → PortState) (s : State) : (s.mapPorts f).prover = s.prover := rfl
@[simp] theorem State.mapPorts_control (f : PortState → PortState) (s : State) : (s.mapPorts f).control = s.control := rfl
@[simp] theorem State.mapPorts_sampler (f : PortState → PortState) (s : State) : (s.mapPorts f).sampler = s.sampler := rfl
@[simp] theorem State.mapPorts_store (f : PortState → PortState) (s : State) : (s.mapPorts f).store = s.store := rfl
@[simp] theorem State.mapPorts_freeIndex (f : PortState → PortState) (s : State) : (s.mapPorts f).freeIndex = s.freeIndex := rfl
@[simp] theorem State.mapPorts_pending (f : PortState → PortState) (s : State) : (s.mapPorts f).pending = s.pending := rfl

@[simp] theorem State.mapPorts_get (f : PortState → PortState) (s : State) (p : Port) :
    (s.mapPorts f).ports.get p = f (s.ports.get p) := by cases p <;> rfl

@[simp] theorem State.raise_tick (c : EventClass) (s : State) : (s.raise c).tick = s.tick := rfl
@[simp] theorem State.raise_nextSecond (c : EventClass) (s : State) : (s.raise c).nextSecond = s.nextSecond := rfl
@[simp] theorem State.raise_uptime (c : EventClass) (s : State) : (s.raise c).uptime = s.uptime := rfl
@[simp] theorem State.raise_stationTime (c : EventClass) (s : State) : (s.raise c).stationTime = s.stationTime := rfl
@[simp] theorem State.raise_stationSet (c : EventClass) (s : State) : (s.raise c).stationSet = s.stationSet := rfl
@[simp] theorem State.raise_lines (c : EventClass) (s : State) : (s.raise c).lines = s.lines := rfl
@[simp] theorem State.raise_channels (c : EventClass) (s : State) : (s.raise c).channels = s.channels := rfl
@[simp] theorem State.raise_totalizers (c : EventClass) (s : State) : (s.raise c).totalizers = s.totalizers := rfl
@[simp] theorem State.raise_curves (c : EventClass) (s : State) : (s.raise c).curves = s.curves := rfl
@[simp] theorem State.raise_queue (c : EventClass) (s : State) : (s.raise c).queue = s.queue := rfl
@[simp] theorem State.raise_batch (c : EventClass) (s : State) : (s.raise c).batch = s.batch := rfl
@[simp] theorem State.raise_batchSeq (c : EventClass) (s : State) : (s.raise c).batchSeq = s.batchSeq := rfl
@[simp] theorem State.raise_history (c : EventClass) (s : State) : (s.raise c).history = s.history := rfl
@[simp] theorem State.raise_prover (c : EventClass) (s : State) : (s.raise c).prover = s.prover := rfl
@[simp] theorem State.raise_control (c : EventClass) (s : State) : (s.raise c).control = s.control := rfl
@[simp] theorem State.raise_sampler (c : EventClass) (s : State) : (s.raise c).sampler = s.sampler := rfl
@[simp] theorem State.raise_store (c : EventClass) (s : State) : (s.raise c).store = s.store := rfl
@[simp] theorem State.raise_freeIndex (c : EventClass) (s : State) : (s.raise c).freeIndex = s.freeIndex := rfl
@[simp] theorem State.raise_pending (c : EventClass) (s : State) : (s.raise c).pending = s.pending := rfl

@[simp] theorem State.raiseIf_tick (b : Bool) (c : EventClass) (s : State) : (s.raiseIf b c).tick = s.tick := by
  cases b <;> rfl
@[simp] theorem State.raiseIf_nextSecond (b : Bool) (c : EventClass) (s : State) : (s.raiseIf b c).nextSecond = s.nextSecond := by
  cases b <;> rfl
@[simp] theorem State.raiseIf_uptime (b : Bool) (c : EventClass) (s : State) : (s.raiseIf b c).uptime = s.uptime := by
  cases b <;> rfl
@[simp] theorem State.raiseIf_stationTime (b : Bool) (c : EventClass) (s : State) : (s.raiseIf b c).stationTime = s.stationTime := by
  cases b <;> rfl
@[simp] theorem State.raiseIf_stationSet (b : Bool) (c : EventClass) (s : State) : (s.raiseIf b c).stationSet = s.stationSet := by
  cases b <;> rfl
@[simp] theorem State.raiseIf_lines (b : Bool) (c : EventClass) (s : State) : (s.raiseIf b c).lines = s.lines := by
  cases b <;> rfl
@[simp] theorem State.raiseIf_channels (b : Bool) (c : EventClass) (s : State) : (s.raiseIf b c).channels = s.channels := by
  cases b <;> rfl
@[simp] theorem State.raiseIf_totalizers (b : Bool) (c : EventClass) (s : State) : (s.raiseIf b c).totalizers = s.totalizers := by
  cases b <;> rfl
@[simp] theorem State.raiseIf_curves (b : Bool) (c : EventClass) (s : State) : (s.raiseIf b c).curves = s.curves := by
  cases b <;> rfl
@[simp] theorem State.raiseIf_queue (b : Bool) (c : EventClass) (s : State) : (s.raiseIf b c).queue = s.queue := by
  cases b <;> rfl
@[simp] theorem State.raiseIf_batch (b : Bool) (c : EventClass) (s : State) : (s.raiseIf b c).batch = s.batch := by
  cases b <;> rfl
@[simp] theorem State.raiseIf_batchSeq (b : Bool) (c : EventClass) (s : State) : (s.raiseIf b c).batchSeq = s.batchSeq := by
  cases b <;> rfl
@[simp] theorem State.raiseIf_history (b : Bool) (c : EventClass) (s : State) : (s.raiseIf b c).history = s.history := by
  cases b <;> rfl
@[simp] theorem State.raiseIf_prover (b : Bool) (c : EventClass) (s : State) : (s.raiseIf b c).prover = s.prover := by
  cases b <;> rfl
@[simp] theorem State.raiseIf_control (b : Bool) (c : EventClass) (s : State) : (s.raiseIf b c).control = s.control := by
  cases b <;> rfl
@[simp] theorem State.raiseIf_sampler (b : Bool) (c : EventClass) (s : State) : (s.raiseIf b c).sampler = s.sampler := by
  cases b <;> rfl
@[simp] theorem State.raiseIf_store (b : Bool) (c : EventClass) (s : State) : (s.raiseIf b c).store = s.store := by
  cases b <;> rfl
@[simp] theorem State.raiseIf_freeIndex (b : Bool) (c : EventClass) (s : State) : (s.raiseIf b c).freeIndex = s.freeIndex := by
  cases b <;> rfl
@[simp] theorem State.raiseIf_pending (b : Bool) (c : EventClass) (s : State) : (s.raiseIf b c).pending = s.pending := by
  cases b <;> rfl

@[simp] theorem State.raiseRetention_tick (c : RetentionCause) (s : State) : (s.raiseRetention c).tick = s.tick := rfl
@[simp] theorem State.raiseRetention_nextSecond (c : RetentionCause) (s : State) : (s.raiseRetention c).nextSecond = s.nextSecond := rfl
@[simp] theorem State.raiseRetention_uptime (c : RetentionCause) (s : State) : (s.raiseRetention c).uptime = s.uptime := rfl
@[simp] theorem State.raiseRetention_stationTime (c : RetentionCause) (s : State) : (s.raiseRetention c).stationTime = s.stationTime := rfl
@[simp] theorem State.raiseRetention_stationSet (c : RetentionCause) (s : State) : (s.raiseRetention c).stationSet = s.stationSet := rfl
@[simp] theorem State.raiseRetention_lines (c : RetentionCause) (s : State) : (s.raiseRetention c).lines = s.lines := rfl
@[simp] theorem State.raiseRetention_channels (c : RetentionCause) (s : State) : (s.raiseRetention c).channels = s.channels := rfl
@[simp] theorem State.raiseRetention_totalizers (c : RetentionCause) (s : State) : (s.raiseRetention c).totalizers = s.totalizers := rfl
@[simp] theorem State.raiseRetention_curves (c : RetentionCause) (s : State) : (s.raiseRetention c).curves = s.curves := rfl
@[simp] theorem State.raiseRetention_queue (c : RetentionCause) (s : State) : (s.raiseRetention c).queue = s.queue := rfl
@[simp] theorem State.raiseRetention_batch (c : RetentionCause) (s : State) : (s.raiseRetention c).batch = s.batch := rfl
@[simp] theorem State.raiseRetention_batchSeq (c : RetentionCause) (s : State) : (s.raiseRetention c).batchSeq = s.batchSeq := rfl
@[simp] theorem State.raiseRetention_history (c : RetentionCause) (s : State) : (s.raiseRetention c).history = s.history := rfl
@[simp] theorem State.raiseRetention_prover (c : RetentionCause) (s : State) : (s.raiseRetention c).prover = s.prover := rfl
@[simp] theorem State.raiseRetention_control (c : RetentionCause) (s : State) : (s.raiseRetention c).control = s.control := rfl
@[simp] theorem State.raiseRetention_sampler (c : RetentionCause) (s : State) : (s.raiseRetention c).sampler = s.sampler := rfl
@[simp] theorem State.raiseRetention_store (c : RetentionCause) (s : State) : (s.raiseRetention c).store = s.store := rfl
@[simp] theorem State.raiseRetention_freeIndex (c : RetentionCause) (s : State) : (s.raiseRetention c).freeIndex = s.freeIndex := rfl
@[simp] theorem State.raiseRetention_pending (c : RetentionCause) (s : State) : (s.raiseRetention c).pending = s.pending := rfl

end Sys2Proof.Machine
end

