-- ==== Sys2Proof/Laws/Flags.lean ====
section
/-! SUPPORT. What raising a class does to a port's flag set and to the state (R177, R178). -/

namespace Sys2Proof.Machine

theorem mem_allClasses (c : EventClass) : c ∈ allClasses := by cases c <;> decide

/-- The ALERT condition of R178. -/
theorem alertCondition_iff (events : ClassMap EventEntry) (threshold : Nat) :
    alertCondition events threshold = true ↔ ∃ c, (events.get c).flag = true ∧ threshold ≤ (events.get c).level := by
  simp [alertCondition, mem_allClasses]

@[simp] theorem PortState.evaluateAlert_events (x : PortState) : x.evaluateAlert.events = x.events := rfl
@[simp] theorem PortState.evaluateAlert_threshold (x : PortState) : x.evaluateAlert.threshold = x.threshold := rfl
@[simp] theorem PortState.evaluateAlert_response (x : PortState) : x.evaluateAlert.response = x.response := rfl
@[simp] theorem PortState.evaluateAlert_transaction (x : PortState) : x.evaluateAlert.transaction = x.transaction := rfl
@[simp] theorem PortState.evaluateAlert_alertLow (x : PortState) :
    x.evaluateAlert.alertLow = alertCondition x.events x.threshold := rfl

@[simp] theorem PortState.occur_get_self (c : EventClass) (x : PortState) :
    (x.occur c).events.get c = { x.events.get c with flag := true, count := min ((x.events.get c).count + 1) 255 } := by
  simp [PortState.occur, satAdd, max8]

@[simp] theorem PortState.occur_get_ne {c d : EventClass} (x : PortState) (h : d ≠ c) :
    (x.occur c).events.get d = x.events.get d := by
  simp [PortState.occur, h]

@[simp] theorem PortState.occur_threshold (c : EventClass) (x : PortState) : (x.occur c).threshold = x.threshold := rfl
@[simp] theorem PortState.occur_response (c : EventClass) (x : PortState) : (x.occur c).response = x.response := rfl
@[simp] theorem PortState.occur_transaction (c : EventClass) (x : PortState) :
    (x.occur c).transaction = x.transaction := rfl
@[simp] theorem PortState.occur_sdo (c : EventClass) (x : PortState) : (x.occur c).sdo = x.sdo := rfl
@[simp] theorem PortState.occur_selectSeenHigh (c : EventClass) (x : PortState) :
    (x.occur c).selectSeenHigh = x.selectSeenHigh := rfl
@[simp] theorem PortState.occur_causes (c : EventClass) (x : PortState) : (x.occur c).causes = x.causes := rfl

/-- An occurrence changes nothing of a port but its events and its ALERT line. -/
theorem PortState.occur_frame (c : EventClass) (x : PortState) :
    x.occur c = { x with events := (x.occur c).events, alertLow := (x.occur c).alertLow } := rfl

/-- A flag once set stays set through an occurrence. -/
theorem PortState.occur_flag (c d : EventClass) (x : PortState) (h : (x.events.get d).flag = true) :
    ((x.occur c).events.get d).flag = true := by
  by_cases e : d = c
  · subst e; simp
  · simp [e, h]

@[simp] theorem State.raise_get (c : EventClass) (s : State) (p : Port) :
    (s.raise c).ports.get p = (s.ports.get p).occur c := by simp [State.raise]

@[simp] theorem State.raiseRetention_get (c : RetentionCause) (s : State) (p : Port) :
    (s.raiseRetention c).ports.get p = (s.ports.get p).occurRetention c := by simp [State.raiseRetention]

theorem State.raise_frame (c : EventClass) (s : State) : s.raise c = { s with ports := (s.raise c).ports } := rfl

theorem State.raiseRetention_frame (c : RetentionCause) (s : State) :
    s.raiseRetention c = { s with ports := (s.raiseRetention c).ports } := rfl

theorem State.raiseIf_frame (b : Bool) (c : EventClass) (s : State) :
    s.raiseIf b c = { s with ports := (s.raiseIf b c).ports } := by cases b <;> rfl

theorem State.raiseTimes_frame (c : EventClass) (n : Nat) (s : State) :
    s.raiseTimes c n = { s with ports := (s.raiseTimes c n).ports } := by
  induction n generalizing s with
  | zero => rfl
  | succ n ih => rw [State.raiseTimes, ih]; rfl

theorem State.raiseRetentionTimes_frame (c : RetentionCause) (n : Nat) (s : State) :
    s.raiseRetentionTimes c n = { s with ports := (s.raiseRetentionTimes c n).ports } := by
  induction n generalizing s with
  | zero => rfl
  | succ n ih => rw [State.raiseRetentionTimes, ih]; rfl

/-- The occurrences that several raisings give: each port's count rises by so many, up to 255 (R177). -/
theorem State.raiseTimes_count (c : EventClass) (n : Nat) (s : State) (p : Port)
    (h : ((s.ports.get p).events.get c).count ≤ 255) :
    (((s.raiseTimes c n).ports.get p).events.get c).count = min (((s.ports.get p).events.get c).count + n) 255 := by
  induction n generalizing s with
  | zero => simp [State.raiseTimes]; omega
  | succ n ih =>
    rw [State.raiseTimes, ih]
    · simp; omega
    · simp

end Sys2Proof.Machine
end

