-- ==== Sys2Proof/Laws/HistoryFrames.lean ====
section
/-! SUPPORT. What the operations of the history ring (R84 to R93) leave as it was: one lemma per operation and field that it never
changes. -/

namespace Sys2Proof.Machine

/-! ### raiseFor -/

@[simp] theorem State.raiseFor_tick (s : State) (p : Port) (c : EventClass) : (State.raiseFor p c s).tick = s.tick := by
  rfl
@[simp] theorem State.raiseFor_nextSecond (s : State) (p : Port) (c : EventClass) : (State.raiseFor p c s).nextSecond = s.nextSecond := by
  rfl
@[simp] theorem State.raiseFor_uptime (s : State) (p : Port) (c : EventClass) : (State.raiseFor p c s).uptime = s.uptime := by
  rfl
@[simp] theorem State.raiseFor_stationTime (s : State) (p : Port) (c : EventClass) : (State.raiseFor p c s).stationTime = s.stationTime := by
  rfl
@[simp] theorem State.raiseFor_stationSet (s : State) (p : Port) (c : EventClass) : (State.raiseFor p c s).stationSet = s.stationSet := by
  rfl
@[simp] theorem State.raiseFor_lines (s : State) (p : Port) (c : EventClass) : (State.raiseFor p c s).lines = s.lines := by
  rfl
@[simp] theorem State.raiseFor_channels (s : State) (p : Port) (c : EventClass) : (State.raiseFor p c s).channels = s.channels := by
  rfl
@[simp] theorem State.raiseFor_totalizers (s : State) (p : Port) (c : EventClass) : (State.raiseFor p c s).totalizers = s.totalizers := by
  rfl
@[simp] theorem State.raiseFor_curves (s : State) (p : Port) (c : EventClass) : (State.raiseFor p c s).curves = s.curves := by
  rfl
@[simp] theorem State.raiseFor_queue (s : State) (p : Port) (c : EventClass) : (State.raiseFor p c s).queue = s.queue := by
  rfl
@[simp] theorem State.raiseFor_batch (s : State) (p : Port) (c : EventClass) : (State.raiseFor p c s).batch = s.batch := by
  rfl
@[simp] theorem State.raiseFor_batchSeq (s : State) (p : Port) (c : EventClass) : (State.raiseFor p c s).batchSeq = s.batchSeq := by
  rfl
@[simp] theorem State.raiseFor_history (s : State) (p : Port) (c : EventClass) : (State.raiseFor p c s).history = s.history := by
  rfl
@[simp] theorem State.raiseFor_prover (s : State) (p : Port) (c : EventClass) : (State.raiseFor p c s).prover = s.prover := by
  rfl
@[simp] theorem State.raiseFor_control (s : State) (p : Port) (c : EventClass) : (State.raiseFor p c s).control = s.control := by
  rfl
@[simp] theorem State.raiseFor_sampler (s : State) (p : Port) (c : EventClass) : (State.raiseFor p c s).sampler = s.sampler := by
  rfl
@[simp] theorem State.raiseFor_store (s : State) (p : Port) (c : EventClass) : (State.raiseFor p c s).store = s.store := by
  rfl
@[simp] theorem State.raiseFor_freeIndex (s : State) (p : Port) (c : EventClass) : (State.raiseFor p c s).freeIndex = s.freeIndex := by
  rfl
@[simp] theorem State.raiseFor_pending (s : State) (p : Port) (c : EventClass) : (State.raiseFor p c s).pending = s.pending := by
  rfl

/-! ### dropOldest -/

@[simp] theorem State.dropOldest_tick (s : State) : (State.dropOldest s).tick = s.tick := by
  unfold State.dropOldest State.dropFor; split
  · simp only [allPorts, List.foldl]; repeat' split
    all_goals simp
  · rfl
@[simp] theorem State.dropOldest_nextSecond (s : State) : (State.dropOldest s).nextSecond = s.nextSecond := by
  unfold State.dropOldest State.dropFor; split
  · simp only [allPorts, List.foldl]; repeat' split
    all_goals simp
  · rfl
@[simp] theorem State.dropOldest_uptime (s : State) : (State.dropOldest s).uptime = s.uptime := by
  unfold State.dropOldest State.dropFor; split
  · simp only [allPorts, List.foldl]; repeat' split
    all_goals simp
  · rfl
@[simp] theorem State.dropOldest_stationTime (s : State) : (State.dropOldest s).stationTime = s.stationTime := by
  unfold State.dropOldest State.dropFor; split
  · simp only [allPorts, List.foldl]; repeat' split
    all_goals simp
  · rfl
@[simp] theorem State.dropOldest_stationSet (s : State) : (State.dropOldest s).stationSet = s.stationSet := by
  unfold State.dropOldest State.dropFor; split
  · simp only [allPorts, List.foldl]; repeat' split
    all_goals simp
  · rfl
@[simp] theorem State.dropOldest_lines (s : State) : (State.dropOldest s).lines = s.lines := by
  unfold State.dropOldest State.dropFor; split
  · simp only [allPorts, List.foldl]; repeat' split
    all_goals simp
  · rfl
@[simp] theorem State.dropOldest_channels (s : State) : (State.dropOldest s).channels = s.channels := by
  unfold State.dropOldest State.dropFor; split
  · simp only [allPorts, List.foldl]; repeat' split
    all_goals simp
  · rfl
@[simp] theorem State.dropOldest_totalizers (s : State) : (State.dropOldest s).totalizers = s.totalizers := by
  unfold State.dropOldest State.dropFor; split
  · simp only [allPorts, List.foldl]; repeat' split
    all_goals simp
  · rfl
@[simp] theorem State.dropOldest_curves (s : State) : (State.dropOldest s).curves = s.curves := by
  unfold State.dropOldest State.dropFor; split
  · simp only [allPorts, List.foldl]; repeat' split
    all_goals simp
  · rfl
@[simp] theorem State.dropOldest_queue (s : State) : (State.dropOldest s).queue = s.queue := by
  unfold State.dropOldest State.dropFor; split
  · simp only [allPorts, List.foldl]; repeat' split
    all_goals simp
  · rfl
@[simp] theorem State.dropOldest_batch (s : State) : (State.dropOldest s).batch = s.batch := by
  unfold State.dropOldest State.dropFor; split
  · simp only [allPorts, List.foldl]; repeat' split
    all_goals simp
  · rfl
@[simp] theorem State.dropOldest_batchSeq (s : State) : (State.dropOldest s).batchSeq = s.batchSeq := by
  unfold State.dropOldest State.dropFor; split
  · simp only [allPorts, List.foldl]; repeat' split
    all_goals simp
  · rfl
@[simp] theorem State.dropOldest_prover (s : State) : (State.dropOldest s).prover = s.prover := by
  unfold State.dropOldest State.dropFor; split
  · simp only [allPorts, List.foldl]; repeat' split
    all_goals simp
  · rfl
@[simp] theorem State.dropOldest_control (s : State) : (State.dropOldest s).control = s.control := by
  unfold State.dropOldest State.dropFor; split
  · simp only [allPorts, List.foldl]; repeat' split
    all_goals simp
  · rfl
@[simp] theorem State.dropOldest_sampler (s : State) : (State.dropOldest s).sampler = s.sampler := by
  unfold State.dropOldest State.dropFor; split
  · simp only [allPorts, List.foldl]; repeat' split
    all_goals simp
  · rfl
@[simp] theorem State.dropOldest_store (s : State) : (State.dropOldest s).store = s.store := by
  unfold State.dropOldest State.dropFor; split
  · simp only [allPorts, List.foldl]; repeat' split
    all_goals simp
  · rfl
@[simp] theorem State.dropOldest_freeIndex (s : State) : (State.dropOldest s).freeIndex = s.freeIndex := by
  unfold State.dropOldest State.dropFor; split
  · simp only [allPorts, List.foldl]; repeat' split
    all_goals simp
  · rfl
@[simp] theorem State.dropOldest_pending (s : State) : (State.dropOldest s).pending = s.pending := by
  unfold State.dropOldest State.dropFor; split
  · simp only [allPorts, List.foldl]; repeat' split
    all_goals simp
  · rfl

/-! ### appendRecord -/

@[simp] theorem State.appendRecord_tick (s : State) (x : BatchRecord) : (State.appendRecord x s).tick = s.tick := by
  simp [State.appendRecord]
@[simp] theorem State.appendRecord_nextSecond (s : State) (x : BatchRecord) : (State.appendRecord x s).nextSecond = s.nextSecond := by
  simp [State.appendRecord]
@[simp] theorem State.appendRecord_uptime (s : State) (x : BatchRecord) : (State.appendRecord x s).uptime = s.uptime := by
  simp [State.appendRecord]
@[simp] theorem State.appendRecord_stationTime (s : State) (x : BatchRecord) : (State.appendRecord x s).stationTime = s.stationTime := by
  simp [State.appendRecord]
@[simp] theorem State.appendRecord_stationSet (s : State) (x : BatchRecord) : (State.appendRecord x s).stationSet = s.stationSet := by
  simp [State.appendRecord]
@[simp] theorem State.appendRecord_lines (s : State) (x : BatchRecord) : (State.appendRecord x s).lines = s.lines := by
  simp [State.appendRecord]
@[simp] theorem State.appendRecord_channels (s : State) (x : BatchRecord) : (State.appendRecord x s).channels = s.channels := by
  simp [State.appendRecord]
@[simp] theorem State.appendRecord_totalizers (s : State) (x : BatchRecord) : (State.appendRecord x s).totalizers = s.totalizers := by
  simp [State.appendRecord]
@[simp] theorem State.appendRecord_curves (s : State) (x : BatchRecord) : (State.appendRecord x s).curves = s.curves := by
  simp [State.appendRecord]
@[simp] theorem State.appendRecord_queue (s : State) (x : BatchRecord) : (State.appendRecord x s).queue = s.queue := by
  simp [State.appendRecord]
@[simp] theorem State.appendRecord_batch (s : State) (x : BatchRecord) : (State.appendRecord x s).batch = s.batch := by
  simp [State.appendRecord]
@[simp] theorem State.appendRecord_batchSeq (s : State) (x : BatchRecord) : (State.appendRecord x s).batchSeq = s.batchSeq := by
  simp [State.appendRecord]
@[simp] theorem State.appendRecord_prover (s : State) (x : BatchRecord) : (State.appendRecord x s).prover = s.prover := by
  simp [State.appendRecord]
@[simp] theorem State.appendRecord_control (s : State) (x : BatchRecord) : (State.appendRecord x s).control = s.control := by
  simp [State.appendRecord]
@[simp] theorem State.appendRecord_sampler (s : State) (x : BatchRecord) : (State.appendRecord x s).sampler = s.sampler := by
  simp [State.appendRecord]
@[simp] theorem State.appendRecord_store (s : State) (x : BatchRecord) : (State.appendRecord x s).store = s.store := by
  simp [State.appendRecord]
@[simp] theorem State.appendRecord_freeIndex (s : State) (x : BatchRecord) : (State.appendRecord x s).freeIndex = s.freeIndex := by
  simp [State.appendRecord]
@[simp] theorem State.appendRecord_pending (s : State) (x : BatchRecord) : (State.appendRecord x s).pending = s.pending := by
  simp [State.appendRecord]

end Sys2Proof.Machine
end

