-- ==== Sys2Proof/Laws/SamplerFrames.lean ====
section
/-! SUPPORT. What the operations of the sampler (R150 to R159) leave as it was: one lemma per operation and field that it never
changes. -/

namespace Sys2Proof.Machine

/-! ### evaluateFull -/

@[simp] theorem State.evaluateFull_tick (s : State) : (State.evaluateFull s).tick = s.tick := by
  simp [State.evaluateFull]
@[simp] theorem State.evaluateFull_nextSecond (s : State) : (State.evaluateFull s).nextSecond = s.nextSecond := by
  simp [State.evaluateFull]
@[simp] theorem State.evaluateFull_uptime (s : State) : (State.evaluateFull s).uptime = s.uptime := by
  simp [State.evaluateFull]
@[simp] theorem State.evaluateFull_stationTime (s : State) : (State.evaluateFull s).stationTime = s.stationTime := by
  simp [State.evaluateFull]
@[simp] theorem State.evaluateFull_stationSet (s : State) : (State.evaluateFull s).stationSet = s.stationSet := by
  simp [State.evaluateFull]
@[simp] theorem State.evaluateFull_lines (s : State) : (State.evaluateFull s).lines = s.lines := by
  simp [State.evaluateFull]
@[simp] theorem State.evaluateFull_channels (s : State) : (State.evaluateFull s).channels = s.channels := by
  simp [State.evaluateFull]
@[simp] theorem State.evaluateFull_totalizers (s : State) : (State.evaluateFull s).totalizers = s.totalizers := by
  simp [State.evaluateFull]
@[simp] theorem State.evaluateFull_curves (s : State) : (State.evaluateFull s).curves = s.curves := by
  simp [State.evaluateFull]
@[simp] theorem State.evaluateFull_queue (s : State) : (State.evaluateFull s).queue = s.queue := by
  simp [State.evaluateFull]
@[simp] theorem State.evaluateFull_batch (s : State) : (State.evaluateFull s).batch = s.batch := by
  simp [State.evaluateFull]
@[simp] theorem State.evaluateFull_batchSeq (s : State) : (State.evaluateFull s).batchSeq = s.batchSeq := by
  simp [State.evaluateFull]
@[simp] theorem State.evaluateFull_history (s : State) : (State.evaluateFull s).history = s.history := by
  simp [State.evaluateFull]
@[simp] theorem State.evaluateFull_prover (s : State) : (State.evaluateFull s).prover = s.prover := by
  simp [State.evaluateFull]
@[simp] theorem State.evaluateFull_control (s : State) : (State.evaluateFull s).control = s.control := by
  simp [State.evaluateFull]
@[simp] theorem State.evaluateFull_store (s : State) : (State.evaluateFull s).store = s.store := by
  simp [State.evaluateFull]
@[simp] theorem State.evaluateFull_freeIndex (s : State) : (State.evaluateFull s).freeIndex = s.freeIndex := by
  simp [State.evaluateFull]
@[simp] theorem State.evaluateFull_pending (s : State) : (State.evaluateFull s).pending = s.pending := by
  simp [State.evaluateFull]

/-! ### issueGrab -/

@[simp] theorem State.issueGrab_tick (s : State) (m : GrabMark) : (State.issueGrab m s).tick = s.tick := by
  simp [State.issueGrab]
@[simp] theorem State.issueGrab_nextSecond (s : State) (m : GrabMark) : (State.issueGrab m s).nextSecond = s.nextSecond := by
  simp [State.issueGrab]
@[simp] theorem State.issueGrab_uptime (s : State) (m : GrabMark) : (State.issueGrab m s).uptime = s.uptime := by
  simp [State.issueGrab]
@[simp] theorem State.issueGrab_stationTime (s : State) (m : GrabMark) : (State.issueGrab m s).stationTime = s.stationTime := by
  simp [State.issueGrab]
@[simp] theorem State.issueGrab_stationSet (s : State) (m : GrabMark) : (State.issueGrab m s).stationSet = s.stationSet := by
  simp [State.issueGrab]
@[simp] theorem State.issueGrab_lines (s : State) (m : GrabMark) : (State.issueGrab m s).lines = s.lines := by
  simp [State.issueGrab]
@[simp] theorem State.issueGrab_channels (s : State) (m : GrabMark) : (State.issueGrab m s).channels = s.channels := by
  simp [State.issueGrab]
@[simp] theorem State.issueGrab_totalizers (s : State) (m : GrabMark) : (State.issueGrab m s).totalizers = s.totalizers := by
  simp [State.issueGrab]
@[simp] theorem State.issueGrab_curves (s : State) (m : GrabMark) : (State.issueGrab m s).curves = s.curves := by
  simp [State.issueGrab]
@[simp] theorem State.issueGrab_queue (s : State) (m : GrabMark) : (State.issueGrab m s).queue = s.queue := by
  simp [State.issueGrab]
@[simp] theorem State.issueGrab_batch (s : State) (m : GrabMark) : (State.issueGrab m s).batch = s.batch := by
  simp [State.issueGrab]
@[simp] theorem State.issueGrab_batchSeq (s : State) (m : GrabMark) : (State.issueGrab m s).batchSeq = s.batchSeq := by
  simp [State.issueGrab]
@[simp] theorem State.issueGrab_history (s : State) (m : GrabMark) : (State.issueGrab m s).history = s.history := by
  simp [State.issueGrab]
@[simp] theorem State.issueGrab_prover (s : State) (m : GrabMark) : (State.issueGrab m s).prover = s.prover := by
  simp [State.issueGrab]
@[simp] theorem State.issueGrab_control (s : State) (m : GrabMark) : (State.issueGrab m s).control = s.control := by
  simp [State.issueGrab]
@[simp] theorem State.issueGrab_store (s : State) (m : GrabMark) : (State.issueGrab m s).store = s.store := by
  simp [State.issueGrab]
@[simp] theorem State.issueGrab_freeIndex (s : State) (m : GrabMark) : (State.issueGrab m s).freeIndex = s.freeIndex := by
  simp [State.issueGrab]
@[simp] theorem State.issueGrab_pending (s : State) (m : GrabMark) : (State.issueGrab m s).pending = s.pending := by
  simp [State.issueGrab]

/-! ### disposeGrab -/

@[simp] theorem State.disposeGrab_tick (s : State) : (State.disposeGrab s).tick = s.tick := by
  unfold State.disposeGrab; dsimp only; repeat' split
  all_goals simp
@[simp] theorem State.disposeGrab_nextSecond (s : State) : (State.disposeGrab s).nextSecond = s.nextSecond := by
  unfold State.disposeGrab; dsimp only; repeat' split
  all_goals simp
@[simp] theorem State.disposeGrab_uptime (s : State) : (State.disposeGrab s).uptime = s.uptime := by
  unfold State.disposeGrab; dsimp only; repeat' split
  all_goals simp
@[simp] theorem State.disposeGrab_stationTime (s : State) : (State.disposeGrab s).stationTime = s.stationTime := by
  unfold State.disposeGrab; dsimp only; repeat' split
  all_goals simp
@[simp] theorem State.disposeGrab_stationSet (s : State) : (State.disposeGrab s).stationSet = s.stationSet := by
  unfold State.disposeGrab; dsimp only; repeat' split
  all_goals simp
@[simp] theorem State.disposeGrab_lines (s : State) : (State.disposeGrab s).lines = s.lines := by
  unfold State.disposeGrab; dsimp only; repeat' split
  all_goals simp
@[simp] theorem State.disposeGrab_channels (s : State) : (State.disposeGrab s).channels = s.channels := by
  unfold State.disposeGrab; dsimp only; repeat' split
  all_goals simp
@[simp] theorem State.disposeGrab_totalizers (s : State) : (State.disposeGrab s).totalizers = s.totalizers := by
  unfold State.disposeGrab; dsimp only; repeat' split
  all_goals simp
@[simp] theorem State.disposeGrab_curves (s : State) : (State.disposeGrab s).curves = s.curves := by
  unfold State.disposeGrab; dsimp only; repeat' split
  all_goals simp
@[simp] theorem State.disposeGrab_queue (s : State) : (State.disposeGrab s).queue = s.queue := by
  unfold State.disposeGrab; dsimp only; repeat' split
  all_goals simp
@[simp] theorem State.disposeGrab_batch (s : State) : (State.disposeGrab s).batch = s.batch := by
  unfold State.disposeGrab; dsimp only; repeat' split
  all_goals simp
@[simp] theorem State.disposeGrab_batchSeq (s : State) : (State.disposeGrab s).batchSeq = s.batchSeq := by
  unfold State.disposeGrab; dsimp only; repeat' split
  all_goals simp
@[simp] theorem State.disposeGrab_history (s : State) : (State.disposeGrab s).history = s.history := by
  unfold State.disposeGrab; dsimp only; repeat' split
  all_goals simp
@[simp] theorem State.disposeGrab_prover (s : State) : (State.disposeGrab s).prover = s.prover := by
  unfold State.disposeGrab; dsimp only; repeat' split
  all_goals simp
@[simp] theorem State.disposeGrab_control (s : State) : (State.disposeGrab s).control = s.control := by
  unfold State.disposeGrab; dsimp only; repeat' split
  all_goals simp
@[simp] theorem State.disposeGrab_store (s : State) : (State.disposeGrab s).store = s.store := by
  unfold State.disposeGrab; dsimp only; repeat' split
  all_goals simp
@[simp] theorem State.disposeGrab_freeIndex (s : State) : (State.disposeGrab s).freeIndex = s.freeIndex := by
  unfold State.disposeGrab; dsimp only; repeat' split
  all_goals simp
@[simp] theorem State.disposeGrab_pending (s : State) : (State.disposeGrab s).pending = s.pending := by
  unfold State.disposeGrab; dsimp only; repeat' split
  all_goals simp

/-! ### dueGrab -/

@[simp] theorem State.dueGrab_tick (s : State) (g : Nat) : (State.dueGrab g s).tick = s.tick := by
  simp only [State.dueGrab]; split <;> simp
@[simp] theorem State.dueGrab_nextSecond (s : State) (g : Nat) : (State.dueGrab g s).nextSecond = s.nextSecond := by
  simp only [State.dueGrab]; split <;> simp
@[simp] theorem State.dueGrab_uptime (s : State) (g : Nat) : (State.dueGrab g s).uptime = s.uptime := by
  simp only [State.dueGrab]; split <;> simp
@[simp] theorem State.dueGrab_stationTime (s : State) (g : Nat) : (State.dueGrab g s).stationTime = s.stationTime := by
  simp only [State.dueGrab]; split <;> simp
@[simp] theorem State.dueGrab_stationSet (s : State) (g : Nat) : (State.dueGrab g s).stationSet = s.stationSet := by
  simp only [State.dueGrab]; split <;> simp
@[simp] theorem State.dueGrab_lines (s : State) (g : Nat) : (State.dueGrab g s).lines = s.lines := by
  simp only [State.dueGrab]; split <;> simp
@[simp] theorem State.dueGrab_channels (s : State) (g : Nat) : (State.dueGrab g s).channels = s.channels := by
  simp only [State.dueGrab]; split <;> simp
@[simp] theorem State.dueGrab_totalizers (s : State) (g : Nat) : (State.dueGrab g s).totalizers = s.totalizers := by
  simp only [State.dueGrab]; split <;> simp
@[simp] theorem State.dueGrab_curves (s : State) (g : Nat) : (State.dueGrab g s).curves = s.curves := by
  simp only [State.dueGrab]; split <;> simp
@[simp] theorem State.dueGrab_queue (s : State) (g : Nat) : (State.dueGrab g s).queue = s.queue := by
  simp only [State.dueGrab]; split <;> simp
@[simp] theorem State.dueGrab_batch (s : State) (g : Nat) : (State.dueGrab g s).batch = s.batch := by
  simp only [State.dueGrab]; split <;> simp
@[simp] theorem State.dueGrab_batchSeq (s : State) (g : Nat) : (State.dueGrab g s).batchSeq = s.batchSeq := by
  simp only [State.dueGrab]; split <;> simp
@[simp] theorem State.dueGrab_history (s : State) (g : Nat) : (State.dueGrab g s).history = s.history := by
  simp only [State.dueGrab]; split <;> simp
@[simp] theorem State.dueGrab_prover (s : State) (g : Nat) : (State.dueGrab g s).prover = s.prover := by
  simp only [State.dueGrab]; split <;> simp
@[simp] theorem State.dueGrab_control (s : State) (g : Nat) : (State.dueGrab g s).control = s.control := by
  simp only [State.dueGrab]; split <;> simp
@[simp] theorem State.dueGrab_store (s : State) (g : Nat) : (State.dueGrab g s).store = s.store := by
  simp only [State.dueGrab]; split <;> simp
@[simp] theorem State.dueGrab_freeIndex (s : State) (g : Nat) : (State.dueGrab g s).freeIndex = s.freeIndex := by
  simp only [State.dueGrab]; split <;> simp
@[simp] theorem State.dueGrab_pending (s : State) (g : Nat) : (State.dueGrab g s).pending = s.pending := by
  simp only [State.dueGrab]; split <;> simp

/-! ### dueGrabs -/

@[simp] theorem State.dueGrabs_tick (s : State) (g n : Nat) : (State.dueGrabs g n s).tick = s.tick := by
  induction n generalizing s with
  | zero => rfl
  | succ n ih => unfold State.dueGrabs; split <;> simp [ih]
@[simp] theorem State.dueGrabs_nextSecond (s : State) (g n : Nat) : (State.dueGrabs g n s).nextSecond = s.nextSecond := by
  induction n generalizing s with
  | zero => rfl
  | succ n ih => unfold State.dueGrabs; split <;> simp [ih]
@[simp] theorem State.dueGrabs_uptime (s : State) (g n : Nat) : (State.dueGrabs g n s).uptime = s.uptime := by
  induction n generalizing s with
  | zero => rfl
  | succ n ih => unfold State.dueGrabs; split <;> simp [ih]
@[simp] theorem State.dueGrabs_stationTime (s : State) (g n : Nat) : (State.dueGrabs g n s).stationTime = s.stationTime := by
  induction n generalizing s with
  | zero => rfl
  | succ n ih => unfold State.dueGrabs; split <;> simp [ih]
@[simp] theorem State.dueGrabs_stationSet (s : State) (g n : Nat) : (State.dueGrabs g n s).stationSet = s.stationSet := by
  induction n generalizing s with
  | zero => rfl
  | succ n ih => unfold State.dueGrabs; split <;> simp [ih]
@[simp] theorem State.dueGrabs_lines (s : State) (g n : Nat) : (State.dueGrabs g n s).lines = s.lines := by
  induction n generalizing s with
  | zero => rfl
  | succ n ih => unfold State.dueGrabs; split <;> simp [ih]
@[simp] theorem State.dueGrabs_channels (s : State) (g n : Nat) : (State.dueGrabs g n s).channels = s.channels := by
  induction n generalizing s with
  | zero => rfl
  | succ n ih => unfold State.dueGrabs; split <;> simp [ih]
@[simp] theorem State.dueGrabs_totalizers (s : State) (g n : Nat) : (State.dueGrabs g n s).totalizers = s.totalizers := by
  induction n generalizing s with
  | zero => rfl
  | succ n ih => unfold State.dueGrabs; split <;> simp [ih]
@[simp] theorem State.dueGrabs_curves (s : State) (g n : Nat) : (State.dueGrabs g n s).curves = s.curves := by
  induction n generalizing s with
  | zero => rfl
  | succ n ih => unfold State.dueGrabs; split <;> simp [ih]
@[simp] theorem State.dueGrabs_queue (s : State) (g n : Nat) : (State.dueGrabs g n s).queue = s.queue := by
  induction n generalizing s with
  | zero => rfl
  | succ n ih => unfold State.dueGrabs; split <;> simp [ih]
@[simp] theorem State.dueGrabs_batch (s : State) (g n : Nat) : (State.dueGrabs g n s).batch = s.batch := by
  induction n generalizing s with
  | zero => rfl
  | succ n ih => unfold State.dueGrabs; split <;> simp [ih]
@[simp] theorem State.dueGrabs_batchSeq (s : State) (g n : Nat) : (State.dueGrabs g n s).batchSeq = s.batchSeq := by
  induction n generalizing s with
  | zero => rfl
  | succ n ih => unfold State.dueGrabs; split <;> simp [ih]
@[simp] theorem State.dueGrabs_history (s : State) (g n : Nat) : (State.dueGrabs g n s).history = s.history := by
  induction n generalizing s with
  | zero => rfl
  | succ n ih => unfold State.dueGrabs; split <;> simp [ih]
@[simp] theorem State.dueGrabs_prover (s : State) (g n : Nat) : (State.dueGrabs g n s).prover = s.prover := by
  induction n generalizing s with
  | zero => rfl
  | succ n ih => unfold State.dueGrabs; split <;> simp [ih]
@[simp] theorem State.dueGrabs_control (s : State) (g n : Nat) : (State.dueGrabs g n s).control = s.control := by
  induction n generalizing s with
  | zero => rfl
  | succ n ih => unfold State.dueGrabs; split <;> simp [ih]
@[simp] theorem State.dueGrabs_store (s : State) (g n : Nat) : (State.dueGrabs g n s).store = s.store := by
  induction n generalizing s with
  | zero => rfl
  | succ n ih => unfold State.dueGrabs; split <;> simp [ih]
@[simp] theorem State.dueGrabs_freeIndex (s : State) (g n : Nat) : (State.dueGrabs g n s).freeIndex = s.freeIndex := by
  induction n generalizing s with
  | zero => rfl
  | succ n ih => unfold State.dueGrabs; split <;> simp [ih]
@[simp] theorem State.dueGrabs_pending (s : State) (g n : Nat) : (State.dueGrabs g n s).pending = s.pending := by
  induction n generalizing s with
  | zero => rfl
  | succ n ih => unfold State.dueGrabs; split <;> simp [ih]

/-! ### sampleVolume -/

@[simp] theorem State.sampleVolume_tick (s : State) (v : Nat) : (State.sampleVolume v s).tick = s.tick := by
  unfold State.sampleVolume; repeat' split
  all_goals simp
@[simp] theorem State.sampleVolume_nextSecond (s : State) (v : Nat) : (State.sampleVolume v s).nextSecond = s.nextSecond := by
  unfold State.sampleVolume; repeat' split
  all_goals simp
@[simp] theorem State.sampleVolume_uptime (s : State) (v : Nat) : (State.sampleVolume v s).uptime = s.uptime := by
  unfold State.sampleVolume; repeat' split
  all_goals simp
@[simp] theorem State.sampleVolume_stationTime (s : State) (v : Nat) : (State.sampleVolume v s).stationTime = s.stationTime := by
  unfold State.sampleVolume; repeat' split
  all_goals simp
@[simp] theorem State.sampleVolume_stationSet (s : State) (v : Nat) : (State.sampleVolume v s).stationSet = s.stationSet := by
  unfold State.sampleVolume; repeat' split
  all_goals simp
@[simp] theorem State.sampleVolume_lines (s : State) (v : Nat) : (State.sampleVolume v s).lines = s.lines := by
  unfold State.sampleVolume; repeat' split
  all_goals simp
@[simp] theorem State.sampleVolume_channels (s : State) (v : Nat) : (State.sampleVolume v s).channels = s.channels := by
  unfold State.sampleVolume; repeat' split
  all_goals simp
@[simp] theorem State.sampleVolume_totalizers (s : State) (v : Nat) : (State.sampleVolume v s).totalizers = s.totalizers := by
  unfold State.sampleVolume; repeat' split
  all_goals simp
@[simp] theorem State.sampleVolume_curves (s : State) (v : Nat) : (State.sampleVolume v s).curves = s.curves := by
  unfold State.sampleVolume; repeat' split
  all_goals simp
@[simp] theorem State.sampleVolume_queue (s : State) (v : Nat) : (State.sampleVolume v s).queue = s.queue := by
  unfold State.sampleVolume; repeat' split
  all_goals simp
@[simp] theorem State.sampleVolume_batch (s : State) (v : Nat) : (State.sampleVolume v s).batch = s.batch := by
  unfold State.sampleVolume; repeat' split
  all_goals simp
@[simp] theorem State.sampleVolume_batchSeq (s : State) (v : Nat) : (State.sampleVolume v s).batchSeq = s.batchSeq := by
  unfold State.sampleVolume; repeat' split
  all_goals simp
@[simp] theorem State.sampleVolume_history (s : State) (v : Nat) : (State.sampleVolume v s).history = s.history := by
  unfold State.sampleVolume; repeat' split
  all_goals simp
@[simp] theorem State.sampleVolume_prover (s : State) (v : Nat) : (State.sampleVolume v s).prover = s.prover := by
  unfold State.sampleVolume; repeat' split
  all_goals simp
@[simp] theorem State.sampleVolume_control (s : State) (v : Nat) : (State.sampleVolume v s).control = s.control := by
  unfold State.sampleVolume; repeat' split
  all_goals simp
@[simp] theorem State.sampleVolume_store (s : State) (v : Nat) : (State.sampleVolume v s).store = s.store := by
  unfold State.sampleVolume; repeat' split
  all_goals simp
@[simp] theorem State.sampleVolume_freeIndex (s : State) (v : Nat) : (State.sampleVolume v s).freeIndex = s.freeIndex := by
  unfold State.sampleVolume; repeat' split
  all_goals simp
@[simp] theorem State.sampleVolume_pending (s : State) (v : Nat) : (State.sampleVolume v s).pending = s.pending := by
  unfold State.sampleVolume; repeat' split
  all_goals simp

/-! ### applySetup -/

@[simp] theorem State.applySetup_tick (s : State) (u : SamplerSetup) : (State.applySetup u s).tick = s.tick := by
  simp [State.applySetup]
@[simp] theorem State.applySetup_nextSecond (s : State) (u : SamplerSetup) : (State.applySetup u s).nextSecond = s.nextSecond := by
  simp [State.applySetup]
@[simp] theorem State.applySetup_uptime (s : State) (u : SamplerSetup) : (State.applySetup u s).uptime = s.uptime := by
  simp [State.applySetup]
@[simp] theorem State.applySetup_stationTime (s : State) (u : SamplerSetup) : (State.applySetup u s).stationTime = s.stationTime := by
  simp [State.applySetup]
@[simp] theorem State.applySetup_stationSet (s : State) (u : SamplerSetup) : (State.applySetup u s).stationSet = s.stationSet := by
  simp [State.applySetup]
@[simp] theorem State.applySetup_lines (s : State) (u : SamplerSetup) : (State.applySetup u s).lines = s.lines := by
  simp [State.applySetup]
@[simp] theorem State.applySetup_channels (s : State) (u : SamplerSetup) : (State.applySetup u s).channels = s.channels := by
  simp [State.applySetup]
@[simp] theorem State.applySetup_totalizers (s : State) (u : SamplerSetup) : (State.applySetup u s).totalizers = s.totalizers := by
  simp [State.applySetup]
@[simp] theorem State.applySetup_curves (s : State) (u : SamplerSetup) : (State.applySetup u s).curves = s.curves := by
  simp [State.applySetup]
@[simp] theorem State.applySetup_queue (s : State) (u : SamplerSetup) : (State.applySetup u s).queue = s.queue := by
  simp [State.applySetup]
@[simp] theorem State.applySetup_batch (s : State) (u : SamplerSetup) : (State.applySetup u s).batch = s.batch := by
  simp [State.applySetup]
@[simp] theorem State.applySetup_batchSeq (s : State) (u : SamplerSetup) : (State.applySetup u s).batchSeq = s.batchSeq := by
  simp [State.applySetup]
@[simp] theorem State.applySetup_history (s : State) (u : SamplerSetup) : (State.applySetup u s).history = s.history := by
  simp [State.applySetup]
@[simp] theorem State.applySetup_prover (s : State) (u : SamplerSetup) : (State.applySetup u s).prover = s.prover := by
  simp [State.applySetup]
@[simp] theorem State.applySetup_control (s : State) (u : SamplerSetup) : (State.applySetup u s).control = s.control := by
  simp [State.applySetup]
@[simp] theorem State.applySetup_store (s : State) (u : SamplerSetup) : (State.applySetup u s).store = s.store := by
  simp [State.applySetup]
@[simp] theorem State.applySetup_freeIndex (s : State) (u : SamplerSetup) : (State.applySetup u s).freeIndex = s.freeIndex := by
  simp [State.applySetup]
@[simp] theorem State.applySetup_pending (s : State) (u : SamplerSetup) : (State.applySetup u s).pending = s.pending := by
  simp [State.applySetup]

end Sys2Proof.Machine
end

