-- ==== Sys2Proof/Laws/StoreFrames.lean ====
section
/-! SUPPORT. What the operations of the retention store and its queue (R184 to R189) leave as it was: one lemma per operation and field that it never
changes. -/

namespace Sys2Proof.Machine

/-! ### raiseTimes -/

@[simp] theorem State.raiseTimes_tick (s : State) (c : EventClass) (n : Nat) : (State.raiseTimes c n s).tick = s.tick := by
  rw [State.raiseTimes_frame]
@[simp] theorem State.raiseTimes_nextSecond (s : State) (c : EventClass) (n : Nat) : (State.raiseTimes c n s).nextSecond = s.nextSecond := by
  rw [State.raiseTimes_frame]
@[simp] theorem State.raiseTimes_uptime (s : State) (c : EventClass) (n : Nat) : (State.raiseTimes c n s).uptime = s.uptime := by
  rw [State.raiseTimes_frame]
@[simp] theorem State.raiseTimes_stationTime (s : State) (c : EventClass) (n : Nat) : (State.raiseTimes c n s).stationTime = s.stationTime := by
  rw [State.raiseTimes_frame]
@[simp] theorem State.raiseTimes_stationSet (s : State) (c : EventClass) (n : Nat) : (State.raiseTimes c n s).stationSet = s.stationSet := by
  rw [State.raiseTimes_frame]
@[simp] theorem State.raiseTimes_lines (s : State) (c : EventClass) (n : Nat) : (State.raiseTimes c n s).lines = s.lines := by
  rw [State.raiseTimes_frame]
@[simp] theorem State.raiseTimes_channels (s : State) (c : EventClass) (n : Nat) : (State.raiseTimes c n s).channels = s.channels := by
  rw [State.raiseTimes_frame]
@[simp] theorem State.raiseTimes_totalizers (s : State) (c : EventClass) (n : Nat) : (State.raiseTimes c n s).totalizers = s.totalizers := by
  rw [State.raiseTimes_frame]
@[simp] theorem State.raiseTimes_curves (s : State) (c : EventClass) (n : Nat) : (State.raiseTimes c n s).curves = s.curves := by
  rw [State.raiseTimes_frame]
@[simp] theorem State.raiseTimes_queue (s : State) (c : EventClass) (n : Nat) : (State.raiseTimes c n s).queue = s.queue := by
  rw [State.raiseTimes_frame]
@[simp] theorem State.raiseTimes_batch (s : State) (c : EventClass) (n : Nat) : (State.raiseTimes c n s).batch = s.batch := by
  rw [State.raiseTimes_frame]
@[simp] theorem State.raiseTimes_batchSeq (s : State) (c : EventClass) (n : Nat) : (State.raiseTimes c n s).batchSeq = s.batchSeq := by
  rw [State.raiseTimes_frame]
@[simp] theorem State.raiseTimes_history (s : State) (c : EventClass) (n : Nat) : (State.raiseTimes c n s).history = s.history := by
  rw [State.raiseTimes_frame]
@[simp] theorem State.raiseTimes_prover (s : State) (c : EventClass) (n : Nat) : (State.raiseTimes c n s).prover = s.prover := by
  rw [State.raiseTimes_frame]
@[simp] theorem State.raiseTimes_control (s : State) (c : EventClass) (n : Nat) : (State.raiseTimes c n s).control = s.control := by
  rw [State.raiseTimes_frame]
@[simp] theorem State.raiseTimes_sampler (s : State) (c : EventClass) (n : Nat) : (State.raiseTimes c n s).sampler = s.sampler := by
  rw [State.raiseTimes_frame]
@[simp] theorem State.raiseTimes_store (s : State) (c : EventClass) (n : Nat) : (State.raiseTimes c n s).store = s.store := by
  rw [State.raiseTimes_frame]
@[simp] theorem State.raiseTimes_freeIndex (s : State) (c : EventClass) (n : Nat) : (State.raiseTimes c n s).freeIndex = s.freeIndex := by
  rw [State.raiseTimes_frame]
@[simp] theorem State.raiseTimes_pending (s : State) (c : EventClass) (n : Nat) : (State.raiseTimes c n s).pending = s.pending := by
  rw [State.raiseTimes_frame]

/-! ### raiseRetentionTimes -/

@[simp] theorem State.raiseRetentionTimes_tick (s : State) (c : RetentionCause) (n : Nat) : (State.raiseRetentionTimes c n s).tick = s.tick := by
  rw [State.raiseRetentionTimes_frame]
@[simp] theorem State.raiseRetentionTimes_nextSecond (s : State) (c : RetentionCause) (n : Nat) : (State.raiseRetentionTimes c n s).nextSecond = s.nextSecond := by
  rw [State.raiseRetentionTimes_frame]
@[simp] theorem State.raiseRetentionTimes_uptime (s : State) (c : RetentionCause) (n : Nat) : (State.raiseRetentionTimes c n s).uptime = s.uptime := by
  rw [State.raiseRetentionTimes_frame]
@[simp] theorem State.raiseRetentionTimes_stationTime (s : State) (c : RetentionCause) (n : Nat) : (State.raiseRetentionTimes c n s).stationTime = s.stationTime := by
  rw [State.raiseRetentionTimes_frame]
@[simp] theorem State.raiseRetentionTimes_stationSet (s : State) (c : RetentionCause) (n : Nat) : (State.raiseRetentionTimes c n s).stationSet = s.stationSet := by
  rw [State.raiseRetentionTimes_frame]
@[simp] theorem State.raiseRetentionTimes_lines (s : State) (c : RetentionCause) (n : Nat) : (State.raiseRetentionTimes c n s).lines = s.lines := by
  rw [State.raiseRetentionTimes_frame]
@[simp] theorem State.raiseRetentionTimes_channels (s : State) (c : RetentionCause) (n : Nat) : (State.raiseRetentionTimes c n s).channels = s.channels := by
  rw [State.raiseRetentionTimes_frame]
@[simp] theorem State.raiseRetentionTimes_totalizers (s : State) (c : RetentionCause) (n : Nat) : (State.raiseRetentionTimes c n s).totalizers = s.totalizers := by
  rw [State.raiseRetentionTimes_frame]
@[simp] theorem State.raiseRetentionTimes_curves (s : State) (c : RetentionCause) (n : Nat) : (State.raiseRetentionTimes c n s).curves = s.curves := by
  rw [State.raiseRetentionTimes_frame]
@[simp] theorem State.raiseRetentionTimes_queue (s : State) (c : RetentionCause) (n : Nat) : (State.raiseRetentionTimes c n s).queue = s.queue := by
  rw [State.raiseRetentionTimes_frame]
@[simp] theorem State.raiseRetentionTimes_batch (s : State) (c : RetentionCause) (n : Nat) : (State.raiseRetentionTimes c n s).batch = s.batch := by
  rw [State.raiseRetentionTimes_frame]
@[simp] theorem State.raiseRetentionTimes_batchSeq (s : State) (c : RetentionCause) (n : Nat) : (State.raiseRetentionTimes c n s).batchSeq = s.batchSeq := by
  rw [State.raiseRetentionTimes_frame]
@[simp] theorem State.raiseRetentionTimes_history (s : State) (c : RetentionCause) (n : Nat) : (State.raiseRetentionTimes c n s).history = s.history := by
  rw [State.raiseRetentionTimes_frame]
@[simp] theorem State.raiseRetentionTimes_prover (s : State) (c : RetentionCause) (n : Nat) : (State.raiseRetentionTimes c n s).prover = s.prover := by
  rw [State.raiseRetentionTimes_frame]
@[simp] theorem State.raiseRetentionTimes_control (s : State) (c : RetentionCause) (n : Nat) : (State.raiseRetentionTimes c n s).control = s.control := by
  rw [State.raiseRetentionTimes_frame]
@[simp] theorem State.raiseRetentionTimes_sampler (s : State) (c : RetentionCause) (n : Nat) : (State.raiseRetentionTimes c n s).sampler = s.sampler := by
  rw [State.raiseRetentionTimes_frame]
@[simp] theorem State.raiseRetentionTimes_store (s : State) (c : RetentionCause) (n : Nat) : (State.raiseRetentionTimes c n s).store = s.store := by
  rw [State.raiseRetentionTimes_frame]
@[simp] theorem State.raiseRetentionTimes_freeIndex (s : State) (c : RetentionCause) (n : Nat) : (State.raiseRetentionTimes c n s).freeIndex = s.freeIndex := by
  rw [State.raiseRetentionTimes_frame]
@[simp] theorem State.raiseRetentionTimes_pending (s : State) (c : RetentionCause) (n : Nat) : (State.raiseRetentionTimes c n s).pending = s.pending := by
  rw [State.raiseRetentionTimes_frame]

/-! ### beginJob -/

@[simp] theorem State.beginJob_tick (s : State) : (State.beginJob s).tick = s.tick := by
  unfold State.beginJob; dsimp only; repeat' split
  all_goals simp
@[simp] theorem State.beginJob_nextSecond (s : State) : (State.beginJob s).nextSecond = s.nextSecond := by
  unfold State.beginJob; dsimp only; repeat' split
  all_goals simp
@[simp] theorem State.beginJob_uptime (s : State) : (State.beginJob s).uptime = s.uptime := by
  unfold State.beginJob; dsimp only; repeat' split
  all_goals simp
@[simp] theorem State.beginJob_stationTime (s : State) : (State.beginJob s).stationTime = s.stationTime := by
  unfold State.beginJob; dsimp only; repeat' split
  all_goals simp
@[simp] theorem State.beginJob_stationSet (s : State) : (State.beginJob s).stationSet = s.stationSet := by
  unfold State.beginJob; dsimp only; repeat' split
  all_goals simp
@[simp] theorem State.beginJob_lines (s : State) : (State.beginJob s).lines = s.lines := by
  unfold State.beginJob; dsimp only; repeat' split
  all_goals simp
@[simp] theorem State.beginJob_channels (s : State) : (State.beginJob s).channels = s.channels := by
  unfold State.beginJob; dsimp only; repeat' split
  all_goals simp
@[simp] theorem State.beginJob_totalizers (s : State) : (State.beginJob s).totalizers = s.totalizers := by
  unfold State.beginJob; dsimp only; repeat' split
  all_goals simp
@[simp] theorem State.beginJob_curves (s : State) : (State.beginJob s).curves = s.curves := by
  unfold State.beginJob; dsimp only; repeat' split
  all_goals simp
@[simp] theorem State.beginJob_queue (s : State) : (State.beginJob s).queue = s.queue := by
  unfold State.beginJob; dsimp only; repeat' split
  all_goals simp
@[simp] theorem State.beginJob_batch (s : State) : (State.beginJob s).batch = s.batch := by
  unfold State.beginJob; dsimp only; repeat' split
  all_goals simp
@[simp] theorem State.beginJob_batchSeq (s : State) : (State.beginJob s).batchSeq = s.batchSeq := by
  unfold State.beginJob; dsimp only; repeat' split
  all_goals simp
@[simp] theorem State.beginJob_prover (s : State) : (State.beginJob s).prover = s.prover := by
  unfold State.beginJob; dsimp only; repeat' split
  all_goals simp
@[simp] theorem State.beginJob_control (s : State) : (State.beginJob s).control = s.control := by
  unfold State.beginJob; dsimp only; repeat' split
  all_goals simp
@[simp] theorem State.beginJob_sampler (s : State) : (State.beginJob s).sampler = s.sampler := by
  unfold State.beginJob; dsimp only; repeat' split
  all_goals simp
@[simp] theorem State.beginJob_freeIndex (s : State) : (State.beginJob s).freeIndex = s.freeIndex := by
  unfold State.beginJob; dsimp only; repeat' split
  all_goals simp
@[simp] theorem State.beginJob_pending (s : State) : (State.beginJob s).pending = s.pending := by
  unfold State.beginJob; dsimp only; repeat' split
  all_goals simp

/-! ### joinQueue -/

@[simp] theorem State.joinQueue_tick (s : State) (j : Job) : (State.joinQueue j s).tick = s.tick := by
  unfold State.joinQueue; dsimp only; split <;> simp
@[simp] theorem State.joinQueue_nextSecond (s : State) (j : Job) : (State.joinQueue j s).nextSecond = s.nextSecond := by
  unfold State.joinQueue; dsimp only; split <;> simp
@[simp] theorem State.joinQueue_uptime (s : State) (j : Job) : (State.joinQueue j s).uptime = s.uptime := by
  unfold State.joinQueue; dsimp only; split <;> simp
@[simp] theorem State.joinQueue_stationTime (s : State) (j : Job) : (State.joinQueue j s).stationTime = s.stationTime := by
  unfold State.joinQueue; dsimp only; split <;> simp
@[simp] theorem State.joinQueue_stationSet (s : State) (j : Job) : (State.joinQueue j s).stationSet = s.stationSet := by
  unfold State.joinQueue; dsimp only; split <;> simp
@[simp] theorem State.joinQueue_lines (s : State) (j : Job) : (State.joinQueue j s).lines = s.lines := by
  unfold State.joinQueue; dsimp only; split <;> simp
@[simp] theorem State.joinQueue_channels (s : State) (j : Job) : (State.joinQueue j s).channels = s.channels := by
  unfold State.joinQueue; dsimp only; split <;> simp
@[simp] theorem State.joinQueue_totalizers (s : State) (j : Job) : (State.joinQueue j s).totalizers = s.totalizers := by
  unfold State.joinQueue; dsimp only; split <;> simp
@[simp] theorem State.joinQueue_curves (s : State) (j : Job) : (State.joinQueue j s).curves = s.curves := by
  unfold State.joinQueue; dsimp only; split <;> simp
@[simp] theorem State.joinQueue_queue (s : State) (j : Job) : (State.joinQueue j s).queue = s.queue := by
  unfold State.joinQueue; dsimp only; split <;> simp
@[simp] theorem State.joinQueue_batch (s : State) (j : Job) : (State.joinQueue j s).batch = s.batch := by
  unfold State.joinQueue; dsimp only; split <;> simp
@[simp] theorem State.joinQueue_batchSeq (s : State) (j : Job) : (State.joinQueue j s).batchSeq = s.batchSeq := by
  unfold State.joinQueue; dsimp only; split <;> simp
@[simp] theorem State.joinQueue_prover (s : State) (j : Job) : (State.joinQueue j s).prover = s.prover := by
  unfold State.joinQueue; dsimp only; split <;> simp
@[simp] theorem State.joinQueue_control (s : State) (j : Job) : (State.joinQueue j s).control = s.control := by
  unfold State.joinQueue; dsimp only; split <;> simp
@[simp] theorem State.joinQueue_sampler (s : State) (j : Job) : (State.joinQueue j s).sampler = s.sampler := by
  unfold State.joinQueue; dsimp only; split <;> simp
@[simp] theorem State.joinQueue_freeIndex (s : State) (j : Job) : (State.joinQueue j s).freeIndex = s.freeIndex := by
  unfold State.joinQueue; dsimp only; split <;> simp
@[simp] theorem State.joinQueue_pending (s : State) (j : Job) : (State.joinQueue j s).pending = s.pending := by
  unfold State.joinQueue; dsimp only; split <;> simp

/-! ### loseRecord -/

@[simp] theorem State.loseRecord_tick (s : State) (n : Nat) : (State.loseRecord n s).tick = s.tick := by
  simp [State.loseRecord]
@[simp] theorem State.loseRecord_nextSecond (s : State) (n : Nat) : (State.loseRecord n s).nextSecond = s.nextSecond := by
  simp [State.loseRecord]
@[simp] theorem State.loseRecord_uptime (s : State) (n : Nat) : (State.loseRecord n s).uptime = s.uptime := by
  simp [State.loseRecord]
@[simp] theorem State.loseRecord_stationTime (s : State) (n : Nat) : (State.loseRecord n s).stationTime = s.stationTime := by
  simp [State.loseRecord]
@[simp] theorem State.loseRecord_stationSet (s : State) (n : Nat) : (State.loseRecord n s).stationSet = s.stationSet := by
  simp [State.loseRecord]
@[simp] theorem State.loseRecord_lines (s : State) (n : Nat) : (State.loseRecord n s).lines = s.lines := by
  simp [State.loseRecord]
@[simp] theorem State.loseRecord_channels (s : State) (n : Nat) : (State.loseRecord n s).channels = s.channels := by
  simp [State.loseRecord]
@[simp] theorem State.loseRecord_totalizers (s : State) (n : Nat) : (State.loseRecord n s).totalizers = s.totalizers := by
  simp [State.loseRecord]
@[simp] theorem State.loseRecord_curves (s : State) (n : Nat) : (State.loseRecord n s).curves = s.curves := by
  simp [State.loseRecord]
@[simp] theorem State.loseRecord_queue (s : State) (n : Nat) : (State.loseRecord n s).queue = s.queue := by
  simp [State.loseRecord]
@[simp] theorem State.loseRecord_batch (s : State) (n : Nat) : (State.loseRecord n s).batch = s.batch := by
  simp [State.loseRecord]
@[simp] theorem State.loseRecord_batchSeq (s : State) (n : Nat) : (State.loseRecord n s).batchSeq = s.batchSeq := by
  simp [State.loseRecord]
@[simp] theorem State.loseRecord_prover (s : State) (n : Nat) : (State.loseRecord n s).prover = s.prover := by
  simp [State.loseRecord]
@[simp] theorem State.loseRecord_control (s : State) (n : Nat) : (State.loseRecord n s).control = s.control := by
  simp [State.loseRecord]
@[simp] theorem State.loseRecord_sampler (s : State) (n : Nat) : (State.loseRecord n s).sampler = s.sampler := by
  simp [State.loseRecord]
@[simp] theorem State.loseRecord_store (s : State) (n : Nat) : (State.loseRecord n s).store = s.store := by
  simp [State.loseRecord]
@[simp] theorem State.loseRecord_freeIndex (s : State) (n : Nat) : (State.loseRecord n s).freeIndex = s.freeIndex := by
  simp [State.loseRecord]
@[simp] theorem State.loseRecord_pending (s : State) (n : Nat) : (State.loseRecord n s).pending = s.pending := by
  simp [State.loseRecord]

/-! ### requestRecord -/

@[simp] theorem State.requestRecord_tick (s : State) (x : BatchRecord) : (State.requestRecord x s).tick = s.tick := by
  unfold State.requestRecord; split <;> simp
@[simp] theorem State.requestRecord_nextSecond (s : State) (x : BatchRecord) : (State.requestRecord x s).nextSecond = s.nextSecond := by
  unfold State.requestRecord; split <;> simp
@[simp] theorem State.requestRecord_uptime (s : State) (x : BatchRecord) : (State.requestRecord x s).uptime = s.uptime := by
  unfold State.requestRecord; split <;> simp
@[simp] theorem State.requestRecord_stationTime (s : State) (x : BatchRecord) : (State.requestRecord x s).stationTime = s.stationTime := by
  unfold State.requestRecord; split <;> simp
@[simp] theorem State.requestRecord_stationSet (s : State) (x : BatchRecord) : (State.requestRecord x s).stationSet = s.stationSet := by
  unfold State.requestRecord; split <;> simp
@[simp] theorem State.requestRecord_lines (s : State) (x : BatchRecord) : (State.requestRecord x s).lines = s.lines := by
  unfold State.requestRecord; split <;> simp
@[simp] theorem State.requestRecord_channels (s : State) (x : BatchRecord) : (State.requestRecord x s).channels = s.channels := by
  unfold State.requestRecord; split <;> simp
@[simp] theorem State.requestRecord_totalizers (s : State) (x : BatchRecord) : (State.requestRecord x s).totalizers = s.totalizers := by
  unfold State.requestRecord; split <;> simp
@[simp] theorem State.requestRecord_curves (s : State) (x : BatchRecord) : (State.requestRecord x s).curves = s.curves := by
  unfold State.requestRecord; split <;> simp
@[simp] theorem State.requestRecord_queue (s : State) (x : BatchRecord) : (State.requestRecord x s).queue = s.queue := by
  unfold State.requestRecord; split <;> simp
@[simp] theorem State.requestRecord_batch (s : State) (x : BatchRecord) : (State.requestRecord x s).batch = s.batch := by
  unfold State.requestRecord; split <;> simp
@[simp] theorem State.requestRecord_batchSeq (s : State) (x : BatchRecord) : (State.requestRecord x s).batchSeq = s.batchSeq := by
  unfold State.requestRecord; split <;> simp
@[simp] theorem State.requestRecord_prover (s : State) (x : BatchRecord) : (State.requestRecord x s).prover = s.prover := by
  unfold State.requestRecord; split <;> simp
@[simp] theorem State.requestRecord_control (s : State) (x : BatchRecord) : (State.requestRecord x s).control = s.control := by
  unfold State.requestRecord; split <;> simp
@[simp] theorem State.requestRecord_sampler (s : State) (x : BatchRecord) : (State.requestRecord x s).sampler = s.sampler := by
  unfold State.requestRecord; split <;> simp
@[simp] theorem State.requestRecord_freeIndex (s : State) (x : BatchRecord) : (State.requestRecord x s).freeIndex = s.freeIndex := by
  unfold State.requestRecord; split <;> simp
@[simp] theorem State.requestRecord_pending (s : State) (x : BatchRecord) : (State.requestRecord x s).pending = s.pending := by
  unfold State.requestRecord; split <;> simp

/-! ### requestParameters -/

@[simp] theorem State.requestParameters_tick (s : State) : (State.requestParameters s).tick = s.tick := by
  unfold State.requestParameters; repeat' split
  all_goals simp
@[simp] theorem State.requestParameters_nextSecond (s : State) : (State.requestParameters s).nextSecond = s.nextSecond := by
  unfold State.requestParameters; repeat' split
  all_goals simp
@[simp] theorem State.requestParameters_uptime (s : State) : (State.requestParameters s).uptime = s.uptime := by
  unfold State.requestParameters; repeat' split
  all_goals simp
@[simp] theorem State.requestParameters_stationTime (s : State) : (State.requestParameters s).stationTime = s.stationTime := by
  unfold State.requestParameters; repeat' split
  all_goals simp
@[simp] theorem State.requestParameters_stationSet (s : State) : (State.requestParameters s).stationSet = s.stationSet := by
  unfold State.requestParameters; repeat' split
  all_goals simp
@[simp] theorem State.requestParameters_lines (s : State) : (State.requestParameters s).lines = s.lines := by
  unfold State.requestParameters; repeat' split
  all_goals simp
@[simp] theorem State.requestParameters_channels (s : State) : (State.requestParameters s).channels = s.channels := by
  unfold State.requestParameters; repeat' split
  all_goals simp
@[simp] theorem State.requestParameters_totalizers (s : State) : (State.requestParameters s).totalizers = s.totalizers := by
  unfold State.requestParameters; repeat' split
  all_goals simp
@[simp] theorem State.requestParameters_curves (s : State) : (State.requestParameters s).curves = s.curves := by
  unfold State.requestParameters; repeat' split
  all_goals simp
@[simp] theorem State.requestParameters_queue (s : State) : (State.requestParameters s).queue = s.queue := by
  unfold State.requestParameters; repeat' split
  all_goals simp
@[simp] theorem State.requestParameters_batch (s : State) : (State.requestParameters s).batch = s.batch := by
  unfold State.requestParameters; repeat' split
  all_goals simp
@[simp] theorem State.requestParameters_batchSeq (s : State) : (State.requestParameters s).batchSeq = s.batchSeq := by
  unfold State.requestParameters; repeat' split
  all_goals simp
@[simp] theorem State.requestParameters_prover (s : State) : (State.requestParameters s).prover = s.prover := by
  unfold State.requestParameters; repeat' split
  all_goals simp
@[simp] theorem State.requestParameters_control (s : State) : (State.requestParameters s).control = s.control := by
  unfold State.requestParameters; repeat' split
  all_goals simp
@[simp] theorem State.requestParameters_sampler (s : State) : (State.requestParameters s).sampler = s.sampler := by
  unfold State.requestParameters; repeat' split
  all_goals simp
@[simp] theorem State.requestParameters_freeIndex (s : State) : (State.requestParameters s).freeIndex = s.freeIndex := by
  unfold State.requestParameters; repeat' split
  all_goals simp
@[simp] theorem State.requestParameters_pending (s : State) : (State.requestParameters s).pending = s.pending := by
  unfold State.requestParameters; repeat' split
  all_goals simp

/-! ### requestCheckpoint -/

@[simp] theorem State.requestCheckpoint_tick (s : State) : (State.requestCheckpoint s).tick = s.tick := by
  unfold State.requestCheckpoint; repeat' split
  all_goals simp
@[simp] theorem State.requestCheckpoint_nextSecond (s : State) : (State.requestCheckpoint s).nextSecond = s.nextSecond := by
  unfold State.requestCheckpoint; repeat' split
  all_goals simp
@[simp] theorem State.requestCheckpoint_uptime (s : State) : (State.requestCheckpoint s).uptime = s.uptime := by
  unfold State.requestCheckpoint; repeat' split
  all_goals simp
@[simp] theorem State.requestCheckpoint_stationTime (s : State) : (State.requestCheckpoint s).stationTime = s.stationTime := by
  unfold State.requestCheckpoint; repeat' split
  all_goals simp
@[simp] theorem State.requestCheckpoint_stationSet (s : State) : (State.requestCheckpoint s).stationSet = s.stationSet := by
  unfold State.requestCheckpoint; repeat' split
  all_goals simp
@[simp] theorem State.requestCheckpoint_lines (s : State) : (State.requestCheckpoint s).lines = s.lines := by
  unfold State.requestCheckpoint; repeat' split
  all_goals simp
@[simp] theorem State.requestCheckpoint_channels (s : State) : (State.requestCheckpoint s).channels = s.channels := by
  unfold State.requestCheckpoint; repeat' split
  all_goals simp
@[simp] theorem State.requestCheckpoint_totalizers (s : State) : (State.requestCheckpoint s).totalizers = s.totalizers := by
  unfold State.requestCheckpoint; repeat' split
  all_goals simp
@[simp] theorem State.requestCheckpoint_curves (s : State) : (State.requestCheckpoint s).curves = s.curves := by
  unfold State.requestCheckpoint; repeat' split
  all_goals simp
@[simp] theorem State.requestCheckpoint_queue (s : State) : (State.requestCheckpoint s).queue = s.queue := by
  unfold State.requestCheckpoint; repeat' split
  all_goals simp
@[simp] theorem State.requestCheckpoint_batch (s : State) : (State.requestCheckpoint s).batch = s.batch := by
  unfold State.requestCheckpoint; repeat' split
  all_goals simp
@[simp] theorem State.requestCheckpoint_batchSeq (s : State) : (State.requestCheckpoint s).batchSeq = s.batchSeq := by
  unfold State.requestCheckpoint; repeat' split
  all_goals simp
@[simp] theorem State.requestCheckpoint_prover (s : State) : (State.requestCheckpoint s).prover = s.prover := by
  unfold State.requestCheckpoint; repeat' split
  all_goals simp
@[simp] theorem State.requestCheckpoint_control (s : State) : (State.requestCheckpoint s).control = s.control := by
  unfold State.requestCheckpoint; repeat' split
  all_goals simp
@[simp] theorem State.requestCheckpoint_sampler (s : State) : (State.requestCheckpoint s).sampler = s.sampler := by
  unfold State.requestCheckpoint; repeat' split
  all_goals simp
@[simp] theorem State.requestCheckpoint_freeIndex (s : State) : (State.requestCheckpoint s).freeIndex = s.freeIndex := by
  unfold State.requestCheckpoint; repeat' split
  all_goals simp
@[simp] theorem State.requestCheckpoint_pending (s : State) : (State.requestCheckpoint s).pending = s.pending := by
  unfold State.requestCheckpoint; repeat' split
  all_goals simp

/-! ### afterCompletion -/

@[simp] theorem State.afterCompletion_tick (s : State) : (State.afterCompletion s).tick = s.tick := by
  unfold State.afterCompletion; split <;> simp
@[simp] theorem State.afterCompletion_nextSecond (s : State) : (State.afterCompletion s).nextSecond = s.nextSecond := by
  unfold State.afterCompletion; split <;> simp
@[simp] theorem State.afterCompletion_uptime (s : State) : (State.afterCompletion s).uptime = s.uptime := by
  unfold State.afterCompletion; split <;> simp
@[simp] theorem State.afterCompletion_stationTime (s : State) : (State.afterCompletion s).stationTime = s.stationTime := by
  unfold State.afterCompletion; split <;> simp
@[simp] theorem State.afterCompletion_stationSet (s : State) : (State.afterCompletion s).stationSet = s.stationSet := by
  unfold State.afterCompletion; split <;> simp
@[simp] theorem State.afterCompletion_lines (s : State) : (State.afterCompletion s).lines = s.lines := by
  unfold State.afterCompletion; split <;> simp
@[simp] theorem State.afterCompletion_channels (s : State) : (State.afterCompletion s).channels = s.channels := by
  unfold State.afterCompletion; split <;> simp
@[simp] theorem State.afterCompletion_totalizers (s : State) : (State.afterCompletion s).totalizers = s.totalizers := by
  unfold State.afterCompletion; split <;> simp
@[simp] theorem State.afterCompletion_curves (s : State) : (State.afterCompletion s).curves = s.curves := by
  unfold State.afterCompletion; split <;> simp
@[simp] theorem State.afterCompletion_queue (s : State) : (State.afterCompletion s).queue = s.queue := by
  unfold State.afterCompletion; split <;> simp
@[simp] theorem State.afterCompletion_batch (s : State) : (State.afterCompletion s).batch = s.batch := by
  unfold State.afterCompletion; split <;> simp
@[simp] theorem State.afterCompletion_batchSeq (s : State) : (State.afterCompletion s).batchSeq = s.batchSeq := by
  unfold State.afterCompletion; split <;> simp
@[simp] theorem State.afterCompletion_prover (s : State) : (State.afterCompletion s).prover = s.prover := by
  unfold State.afterCompletion; split <;> simp
@[simp] theorem State.afterCompletion_control (s : State) : (State.afterCompletion s).control = s.control := by
  unfold State.afterCompletion; split <;> simp
@[simp] theorem State.afterCompletion_sampler (s : State) : (State.afterCompletion s).sampler = s.sampler := by
  unfold State.afterCompletion; split <;> simp
@[simp] theorem State.afterCompletion_freeIndex (s : State) : (State.afterCompletion s).freeIndex = s.freeIndex := by
  unfold State.afterCompletion; split <;> simp
@[simp] theorem State.afterCompletion_pending (s : State) : (State.afterCompletion s).pending = s.pending := by
  unfold State.afterCompletion; split <;> simp

/-! ### actOnPowerFail -/

@[simp] theorem State.actOnPowerFail_tick (s : State) : (State.actOnPowerFail s).tick = s.tick := by
  unfold State.actOnPowerFail; split
  · dsimp only; split <;> simp
  · rfl
@[simp] theorem State.actOnPowerFail_nextSecond (s : State) : (State.actOnPowerFail s).nextSecond = s.nextSecond := by
  unfold State.actOnPowerFail; split
  · dsimp only; split <;> simp
  · rfl
@[simp] theorem State.actOnPowerFail_uptime (s : State) : (State.actOnPowerFail s).uptime = s.uptime := by
  unfold State.actOnPowerFail; split
  · dsimp only; split <;> simp
  · rfl
@[simp] theorem State.actOnPowerFail_stationTime (s : State) : (State.actOnPowerFail s).stationTime = s.stationTime := by
  unfold State.actOnPowerFail; split
  · dsimp only; split <;> simp
  · rfl
@[simp] theorem State.actOnPowerFail_stationSet (s : State) : (State.actOnPowerFail s).stationSet = s.stationSet := by
  unfold State.actOnPowerFail; split
  · dsimp only; split <;> simp
  · rfl
@[simp] theorem State.actOnPowerFail_lines (s : State) : (State.actOnPowerFail s).lines = s.lines := by
  unfold State.actOnPowerFail; split
  · dsimp only; split <;> simp
  · rfl
@[simp] theorem State.actOnPowerFail_channels (s : State) : (State.actOnPowerFail s).channels = s.channels := by
  unfold State.actOnPowerFail; split
  · dsimp only; split <;> simp
  · rfl
@[simp] theorem State.actOnPowerFail_totalizers (s : State) : (State.actOnPowerFail s).totalizers = s.totalizers := by
  unfold State.actOnPowerFail; split
  · dsimp only; split <;> simp
  · rfl
@[simp] theorem State.actOnPowerFail_curves (s : State) : (State.actOnPowerFail s).curves = s.curves := by
  unfold State.actOnPowerFail; split
  · dsimp only; split <;> simp
  · rfl
@[simp] theorem State.actOnPowerFail_queue (s : State) : (State.actOnPowerFail s).queue = s.queue := by
  unfold State.actOnPowerFail; split
  · dsimp only; split <;> simp
  · rfl
@[simp] theorem State.actOnPowerFail_batch (s : State) : (State.actOnPowerFail s).batch = s.batch := by
  unfold State.actOnPowerFail; split
  · dsimp only; split <;> simp
  · rfl
@[simp] theorem State.actOnPowerFail_batchSeq (s : State) : (State.actOnPowerFail s).batchSeq = s.batchSeq := by
  unfold State.actOnPowerFail; split
  · dsimp only; split <;> simp
  · rfl
@[simp] theorem State.actOnPowerFail_prover (s : State) : (State.actOnPowerFail s).prover = s.prover := by
  unfold State.actOnPowerFail; split
  · dsimp only; split <;> simp
  · rfl
@[simp] theorem State.actOnPowerFail_control (s : State) : (State.actOnPowerFail s).control = s.control := by
  unfold State.actOnPowerFail; split
  · dsimp only; split <;> simp
  · rfl
@[simp] theorem State.actOnPowerFail_sampler (s : State) : (State.actOnPowerFail s).sampler = s.sampler := by
  unfold State.actOnPowerFail; split
  · dsimp only; split <;> simp
  · rfl
@[simp] theorem State.actOnPowerFail_freeIndex (s : State) : (State.actOnPowerFail s).freeIndex = s.freeIndex := by
  unfold State.actOnPowerFail; split
  · dsimp only; split <;> simp
  · rfl
@[simp] theorem State.actOnPowerFail_pending (s : State) : (State.actOnPowerFail s).pending = s.pending := by
  unfold State.actOnPowerFail; split
  · dsimp only; split <;> simp
  · rfl

end Sys2Proof.Machine
end

