-- ==== Sys2Proof/Laws/BatchFrames.lean ====
section
/-! SUPPORT. What the operations of batches and the window computation (R25 to R41, R67 to R80) leave as it was: one lemma per operation and field that it never
changes. -/

namespace Sys2Proof.Machine

/-! ### openBatch -/

@[simp] theorem State.openBatch_tick (s : State) (x : Plan) (i n : Nat) : (State.openBatch x i n s).tick = s.tick := by
  simp [State.openBatch]
@[simp] theorem State.openBatch_nextSecond (s : State) (x : Plan) (i n : Nat) : (State.openBatch x i n s).nextSecond = s.nextSecond := by
  simp [State.openBatch]
@[simp] theorem State.openBatch_uptime (s : State) (x : Plan) (i n : Nat) : (State.openBatch x i n s).uptime = s.uptime := by
  simp [State.openBatch]
@[simp] theorem State.openBatch_stationTime (s : State) (x : Plan) (i n : Nat) : (State.openBatch x i n s).stationTime = s.stationTime := by
  simp [State.openBatch]
@[simp] theorem State.openBatch_stationSet (s : State) (x : Plan) (i n : Nat) : (State.openBatch x i n s).stationSet = s.stationSet := by
  simp [State.openBatch]
@[simp] theorem State.openBatch_lines (s : State) (x : Plan) (i n : Nat) : (State.openBatch x i n s).lines = s.lines := by
  simp [State.openBatch]
@[simp] theorem State.openBatch_channels (s : State) (x : Plan) (i n : Nat) : (State.openBatch x i n s).channels = s.channels := by
  simp [State.openBatch]
@[simp] theorem State.openBatch_curves (s : State) (x : Plan) (i n : Nat) : (State.openBatch x i n s).curves = s.curves := by
  simp [State.openBatch]
@[simp] theorem State.openBatch_queue (s : State) (x : Plan) (i n : Nat) : (State.openBatch x i n s).queue = s.queue := by
  simp [State.openBatch]
@[simp] theorem State.openBatch_batchSeq (s : State) (x : Plan) (i n : Nat) : (State.openBatch x i n s).batchSeq = s.batchSeq := by
  simp [State.openBatch]
@[simp] theorem State.openBatch_history (s : State) (x : Plan) (i n : Nat) : (State.openBatch x i n s).history = s.history := by
  simp [State.openBatch]
@[simp] theorem State.openBatch_prover (s : State) (x : Plan) (i n : Nat) : (State.openBatch x i n s).prover = s.prover := by
  simp [State.openBatch]
@[simp] theorem State.openBatch_control (s : State) (x : Plan) (i n : Nat) : (State.openBatch x i n s).control = s.control := by
  simp [State.openBatch]
@[simp] theorem State.openBatch_store (s : State) (x : Plan) (i n : Nat) : (State.openBatch x i n s).store = s.store := by
  simp [State.openBatch]
@[simp] theorem State.openBatch_freeIndex (s : State) (x : Plan) (i n : Nat) : (State.openBatch x i n s).freeIndex = s.freeIndex := by
  simp [State.openBatch]
@[simp] theorem State.openBatch_pending (s : State) (x : Plan) (i n : Nat) : (State.openBatch x i n s).pending = s.pending := by
  simp [State.openBatch]

/-! ### openFromQueue -/

@[simp] theorem State.openFromQueue_tick (s : State) (x : Plan) (l : List Plan) : (State.openFromQueue x l s).tick = s.tick := by
  simp [State.openFromQueue]
@[simp] theorem State.openFromQueue_nextSecond (s : State) (x : Plan) (l : List Plan) : (State.openFromQueue x l s).nextSecond = s.nextSecond := by
  simp [State.openFromQueue]
@[simp] theorem State.openFromQueue_uptime (s : State) (x : Plan) (l : List Plan) : (State.openFromQueue x l s).uptime = s.uptime := by
  simp [State.openFromQueue]
@[simp] theorem State.openFromQueue_stationTime (s : State) (x : Plan) (l : List Plan) : (State.openFromQueue x l s).stationTime = s.stationTime := by
  simp [State.openFromQueue]
@[simp] theorem State.openFromQueue_stationSet (s : State) (x : Plan) (l : List Plan) : (State.openFromQueue x l s).stationSet = s.stationSet := by
  simp [State.openFromQueue]
@[simp] theorem State.openFromQueue_lines (s : State) (x : Plan) (l : List Plan) : (State.openFromQueue x l s).lines = s.lines := by
  simp [State.openFromQueue]
@[simp] theorem State.openFromQueue_channels (s : State) (x : Plan) (l : List Plan) : (State.openFromQueue x l s).channels = s.channels := by
  simp [State.openFromQueue]
@[simp] theorem State.openFromQueue_curves (s : State) (x : Plan) (l : List Plan) : (State.openFromQueue x l s).curves = s.curves := by
  simp [State.openFromQueue]
@[simp] theorem State.openFromQueue_batchSeq (s : State) (x : Plan) (l : List Plan) : (State.openFromQueue x l s).batchSeq = s.batchSeq := by
  simp [State.openFromQueue]
@[simp] theorem State.openFromQueue_history (s : State) (x : Plan) (l : List Plan) : (State.openFromQueue x l s).history = s.history := by
  simp [State.openFromQueue]
@[simp] theorem State.openFromQueue_prover (s : State) (x : Plan) (l : List Plan) : (State.openFromQueue x l s).prover = s.prover := by
  simp [State.openFromQueue]
@[simp] theorem State.openFromQueue_control (s : State) (x : Plan) (l : List Plan) : (State.openFromQueue x l s).control = s.control := by
  simp [State.openFromQueue]
@[simp] theorem State.openFromQueue_store (s : State) (x : Plan) (l : List Plan) : (State.openFromQueue x l s).store = s.store := by
  simp [State.openFromQueue]
@[simp] theorem State.openFromQueue_freeIndex (s : State) (x : Plan) (l : List Plan) : (State.openFromQueue x l s).freeIndex = s.freeIndex := by
  simp [State.openFromQueue]
@[simp] theorem State.openFromQueue_pending (s : State) (x : Plan) (l : List Plan) : (State.openFromQueue x l s).pending = s.pending := by
  simp [State.openFromQueue]

/-! ### closeBatch -/

@[simp] theorem State.closeBatch_tick (s : State) (c : CloseCause) (n : Nat) (b : OpenBatch) : (State.closeBatch c n b s).tick = s.tick := by
  simp [State.closeBatch]
@[simp] theorem State.closeBatch_nextSecond (s : State) (c : CloseCause) (n : Nat) (b : OpenBatch) : (State.closeBatch c n b s).nextSecond = s.nextSecond := by
  simp [State.closeBatch]
@[simp] theorem State.closeBatch_uptime (s : State) (c : CloseCause) (n : Nat) (b : OpenBatch) : (State.closeBatch c n b s).uptime = s.uptime := by
  simp [State.closeBatch]
@[simp] theorem State.closeBatch_stationTime (s : State) (c : CloseCause) (n : Nat) (b : OpenBatch) : (State.closeBatch c n b s).stationTime = s.stationTime := by
  simp [State.closeBatch]
@[simp] theorem State.closeBatch_stationSet (s : State) (c : CloseCause) (n : Nat) (b : OpenBatch) : (State.closeBatch c n b s).stationSet = s.stationSet := by
  simp [State.closeBatch]
@[simp] theorem State.closeBatch_lines (s : State) (c : CloseCause) (n : Nat) (b : OpenBatch) : (State.closeBatch c n b s).lines = s.lines := by
  simp [State.closeBatch]
@[simp] theorem State.closeBatch_channels (s : State) (c : CloseCause) (n : Nat) (b : OpenBatch) : (State.closeBatch c n b s).channels = s.channels := by
  simp [State.closeBatch]
@[simp] theorem State.closeBatch_totalizers (s : State) (c : CloseCause) (n : Nat) (b : OpenBatch) : (State.closeBatch c n b s).totalizers = s.totalizers := by
  simp [State.closeBatch]
@[simp] theorem State.closeBatch_curves (s : State) (c : CloseCause) (n : Nat) (b : OpenBatch) : (State.closeBatch c n b s).curves = s.curves := by
  simp [State.closeBatch]
@[simp] theorem State.closeBatch_queue (s : State) (c : CloseCause) (n : Nat) (b : OpenBatch) : (State.closeBatch c n b s).queue = s.queue := by
  simp [State.closeBatch]
@[simp] theorem State.closeBatch_prover (s : State) (c : CloseCause) (n : Nat) (b : OpenBatch) : (State.closeBatch c n b s).prover = s.prover := by
  simp [State.closeBatch]
@[simp] theorem State.closeBatch_control (s : State) (c : CloseCause) (n : Nat) (b : OpenBatch) : (State.closeBatch c n b s).control = s.control := by
  simp [State.closeBatch]
@[simp] theorem State.closeBatch_freeIndex (s : State) (c : CloseCause) (n : Nat) (b : OpenBatch) : (State.closeBatch c n b s).freeIndex = s.freeIndex := by
  simp [State.closeBatch]
@[simp] theorem State.closeBatch_pending (s : State) (c : CloseCause) (n : Nat) (b : OpenBatch) : (State.closeBatch c n b s).pending = s.pending := by
  simp [State.closeBatch]

/-! ### continueAfter -/

@[simp] theorem State.continueAfter_tick (s : State) (b : OpenBatch) : (State.continueAfter b s).tick = s.tick := by
  unfold State.continueAfter; repeat' split
  all_goals simp
@[simp] theorem State.continueAfter_nextSecond (s : State) (b : OpenBatch) : (State.continueAfter b s).nextSecond = s.nextSecond := by
  unfold State.continueAfter; repeat' split
  all_goals simp
@[simp] theorem State.continueAfter_uptime (s : State) (b : OpenBatch) : (State.continueAfter b s).uptime = s.uptime := by
  unfold State.continueAfter; repeat' split
  all_goals simp
@[simp] theorem State.continueAfter_stationTime (s : State) (b : OpenBatch) : (State.continueAfter b s).stationTime = s.stationTime := by
  unfold State.continueAfter; repeat' split
  all_goals simp
@[simp] theorem State.continueAfter_stationSet (s : State) (b : OpenBatch) : (State.continueAfter b s).stationSet = s.stationSet := by
  unfold State.continueAfter; repeat' split
  all_goals simp
@[simp] theorem State.continueAfter_lines (s : State) (b : OpenBatch) : (State.continueAfter b s).lines = s.lines := by
  unfold State.continueAfter; repeat' split
  all_goals simp
@[simp] theorem State.continueAfter_channels (s : State) (b : OpenBatch) : (State.continueAfter b s).channels = s.channels := by
  unfold State.continueAfter; repeat' split
  all_goals simp
@[simp] theorem State.continueAfter_curves (s : State) (b : OpenBatch) : (State.continueAfter b s).curves = s.curves := by
  unfold State.continueAfter; repeat' split
  all_goals simp
@[simp] theorem State.continueAfter_batchSeq (s : State) (b : OpenBatch) : (State.continueAfter b s).batchSeq = s.batchSeq := by
  unfold State.continueAfter; repeat' split
  all_goals simp
@[simp] theorem State.continueAfter_history (s : State) (b : OpenBatch) : (State.continueAfter b s).history = s.history := by
  unfold State.continueAfter; repeat' split
  all_goals simp
@[simp] theorem State.continueAfter_prover (s : State) (b : OpenBatch) : (State.continueAfter b s).prover = s.prover := by
  unfold State.continueAfter; repeat' split
  all_goals simp
@[simp] theorem State.continueAfter_control (s : State) (b : OpenBatch) : (State.continueAfter b s).control = s.control := by
  unfold State.continueAfter; repeat' split
  all_goals simp
@[simp] theorem State.continueAfter_store (s : State) (b : OpenBatch) : (State.continueAfter b s).store = s.store := by
  unfold State.continueAfter; repeat' split
  all_goals simp
@[simp] theorem State.continueAfter_freeIndex (s : State) (b : OpenBatch) : (State.continueAfter b s).freeIndex = s.freeIndex := by
  unfold State.continueAfter; repeat' split
  all_goals simp
@[simp] theorem State.continueAfter_pending (s : State) (b : OpenBatch) : (State.continueAfter b s).pending = s.pending := by
  unfold State.continueAfter; repeat' split
  all_goals simp

/-! ### testTargets -/

@[simp] theorem State.testTargets_tick (s : State) (b : OpenBatch) : (State.testTargets b s).tick = s.tick := by
  unfold State.testTargets; dsimp only; repeat' split
  all_goals simp
@[simp] theorem State.testTargets_nextSecond (s : State) (b : OpenBatch) : (State.testTargets b s).nextSecond = s.nextSecond := by
  unfold State.testTargets; dsimp only; repeat' split
  all_goals simp
@[simp] theorem State.testTargets_uptime (s : State) (b : OpenBatch) : (State.testTargets b s).uptime = s.uptime := by
  unfold State.testTargets; dsimp only; repeat' split
  all_goals simp
@[simp] theorem State.testTargets_stationTime (s : State) (b : OpenBatch) : (State.testTargets b s).stationTime = s.stationTime := by
  unfold State.testTargets; dsimp only; repeat' split
  all_goals simp
@[simp] theorem State.testTargets_stationSet (s : State) (b : OpenBatch) : (State.testTargets b s).stationSet = s.stationSet := by
  unfold State.testTargets; dsimp only; repeat' split
  all_goals simp
@[simp] theorem State.testTargets_lines (s : State) (b : OpenBatch) : (State.testTargets b s).lines = s.lines := by
  unfold State.testTargets; dsimp only; repeat' split
  all_goals simp
@[simp] theorem State.testTargets_channels (s : State) (b : OpenBatch) : (State.testTargets b s).channels = s.channels := by
  unfold State.testTargets; dsimp only; repeat' split
  all_goals simp
@[simp] theorem State.testTargets_curves (s : State) (b : OpenBatch) : (State.testTargets b s).curves = s.curves := by
  unfold State.testTargets; dsimp only; repeat' split
  all_goals simp
@[simp] theorem State.testTargets_prover (s : State) (b : OpenBatch) : (State.testTargets b s).prover = s.prover := by
  unfold State.testTargets; dsimp only; repeat' split
  all_goals simp
@[simp] theorem State.testTargets_control (s : State) (b : OpenBatch) : (State.testTargets b s).control = s.control := by
  unfold State.testTargets; dsimp only; repeat' split
  all_goals simp
@[simp] theorem State.testTargets_freeIndex (s : State) (b : OpenBatch) : (State.testTargets b s).freeIndex = s.freeIndex := by
  unfold State.testTargets; dsimp only; repeat' split
  all_goals simp
@[simp] theorem State.testTargets_pending (s : State) (b : OpenBatch) : (State.testTargets b s).pending = s.pending := by
  unfold State.testTargets; dsimp only; repeat' split
  all_goals simp

/-! ### batchWindow -/

@[simp] theorem State.batchWindow_tick (s : State) (r : Run) (w : WindowFigures) (b : OpenBatch) : (State.batchWindow r w b s).tick = s.tick := by
  simp [State.batchWindow]
@[simp] theorem State.batchWindow_nextSecond (s : State) (r : Run) (w : WindowFigures) (b : OpenBatch) : (State.batchWindow r w b s).nextSecond = s.nextSecond := by
  simp [State.batchWindow]
@[simp] theorem State.batchWindow_uptime (s : State) (r : Run) (w : WindowFigures) (b : OpenBatch) : (State.batchWindow r w b s).uptime = s.uptime := by
  simp [State.batchWindow]
@[simp] theorem State.batchWindow_stationTime (s : State) (r : Run) (w : WindowFigures) (b : OpenBatch) : (State.batchWindow r w b s).stationTime = s.stationTime := by
  simp [State.batchWindow]
@[simp] theorem State.batchWindow_stationSet (s : State) (r : Run) (w : WindowFigures) (b : OpenBatch) : (State.batchWindow r w b s).stationSet = s.stationSet := by
  simp [State.batchWindow]
@[simp] theorem State.batchWindow_lines (s : State) (r : Run) (w : WindowFigures) (b : OpenBatch) : (State.batchWindow r w b s).lines = s.lines := by
  simp [State.batchWindow]
@[simp] theorem State.batchWindow_channels (s : State) (r : Run) (w : WindowFigures) (b : OpenBatch) : (State.batchWindow r w b s).channels = s.channels := by
  simp [State.batchWindow]
@[simp] theorem State.batchWindow_curves (s : State) (r : Run) (w : WindowFigures) (b : OpenBatch) : (State.batchWindow r w b s).curves = s.curves := by
  simp [State.batchWindow]
@[simp] theorem State.batchWindow_prover (s : State) (r : Run) (w : WindowFigures) (b : OpenBatch) : (State.batchWindow r w b s).prover = s.prover := by
  simp [State.batchWindow]
@[simp] theorem State.batchWindow_control (s : State) (r : Run) (w : WindowFigures) (b : OpenBatch) : (State.batchWindow r w b s).control = s.control := by
  simp [State.batchWindow]
@[simp] theorem State.batchWindow_freeIndex (s : State) (r : Run) (w : WindowFigures) (b : OpenBatch) : (State.batchWindow r w b s).freeIndex = s.freeIndex := by
  simp [State.batchWindow]
@[simp] theorem State.batchWindow_pending (s : State) (r : Run) (w : WindowFigures) (b : OpenBatch) : (State.batchWindow r w b s).pending = s.pending := by
  simp [State.batchWindow]

/-! ### unbatchedWindow -/

@[simp] theorem State.unbatchedWindow_tick (s : State) (r : Run) (w : WindowFigures) : (State.unbatchedWindow r w s).tick = s.tick := by
  simp [State.unbatchedWindow]
@[simp] theorem State.unbatchedWindow_nextSecond (s : State) (r : Run) (w : WindowFigures) : (State.unbatchedWindow r w s).nextSecond = s.nextSecond := by
  simp [State.unbatchedWindow]
@[simp] theorem State.unbatchedWindow_uptime (s : State) (r : Run) (w : WindowFigures) : (State.unbatchedWindow r w s).uptime = s.uptime := by
  simp [State.unbatchedWindow]
@[simp] theorem State.unbatchedWindow_stationTime (s : State) (r : Run) (w : WindowFigures) : (State.unbatchedWindow r w s).stationTime = s.stationTime := by
  simp [State.unbatchedWindow]
@[simp] theorem State.unbatchedWindow_stationSet (s : State) (r : Run) (w : WindowFigures) : (State.unbatchedWindow r w s).stationSet = s.stationSet := by
  simp [State.unbatchedWindow]
@[simp] theorem State.unbatchedWindow_lines (s : State) (r : Run) (w : WindowFigures) : (State.unbatchedWindow r w s).lines = s.lines := by
  simp [State.unbatchedWindow]
@[simp] theorem State.unbatchedWindow_channels (s : State) (r : Run) (w : WindowFigures) : (State.unbatchedWindow r w s).channels = s.channels := by
  simp [State.unbatchedWindow]
@[simp] theorem State.unbatchedWindow_curves (s : State) (r : Run) (w : WindowFigures) : (State.unbatchedWindow r w s).curves = s.curves := by
  simp [State.unbatchedWindow]
@[simp] theorem State.unbatchedWindow_queue (s : State) (r : Run) (w : WindowFigures) : (State.unbatchedWindow r w s).queue = s.queue := by
  simp [State.unbatchedWindow]
@[simp] theorem State.unbatchedWindow_batch (s : State) (r : Run) (w : WindowFigures) : (State.unbatchedWindow r w s).batch = s.batch := by
  simp [State.unbatchedWindow]
@[simp] theorem State.unbatchedWindow_batchSeq (s : State) (r : Run) (w : WindowFigures) : (State.unbatchedWindow r w s).batchSeq = s.batchSeq := by
  simp [State.unbatchedWindow]
@[simp] theorem State.unbatchedWindow_history (s : State) (r : Run) (w : WindowFigures) : (State.unbatchedWindow r w s).history = s.history := by
  simp [State.unbatchedWindow]
@[simp] theorem State.unbatchedWindow_prover (s : State) (r : Run) (w : WindowFigures) : (State.unbatchedWindow r w s).prover = s.prover := by
  simp [State.unbatchedWindow]
@[simp] theorem State.unbatchedWindow_control (s : State) (r : Run) (w : WindowFigures) : (State.unbatchedWindow r w s).control = s.control := by
  simp [State.unbatchedWindow]
@[simp] theorem State.unbatchedWindow_sampler (s : State) (r : Run) (w : WindowFigures) : (State.unbatchedWindow r w s).sampler = s.sampler := by
  simp [State.unbatchedWindow]
@[simp] theorem State.unbatchedWindow_ports (s : State) (r : Run) (w : WindowFigures) : (State.unbatchedWindow r w s).ports = s.ports := by
  simp [State.unbatchedWindow]
@[simp] theorem State.unbatchedWindow_store (s : State) (r : Run) (w : WindowFigures) : (State.unbatchedWindow r w s).store = s.store := by
  simp [State.unbatchedWindow]
@[simp] theorem State.unbatchedWindow_freeIndex (s : State) (r : Run) (w : WindowFigures) : (State.unbatchedWindow r w s).freeIndex = s.freeIndex := by
  simp [State.unbatchedWindow]
@[simp] theorem State.unbatchedWindow_pending (s : State) (r : Run) (w : WindowFigures) : (State.unbatchedWindow r w s).pending = s.pending := by
  simp [State.unbatchedWindow]

/-! ### routeWindow -/

@[simp] theorem State.routeWindow_tick (s : State) (r : Run) (w : WindowFigures) : (State.routeWindow r w s).tick = s.tick := by
  unfold State.routeWindow; split <;> simp
@[simp] theorem State.routeWindow_nextSecond (s : State) (r : Run) (w : WindowFigures) : (State.routeWindow r w s).nextSecond = s.nextSecond := by
  unfold State.routeWindow; split <;> simp
@[simp] theorem State.routeWindow_uptime (s : State) (r : Run) (w : WindowFigures) : (State.routeWindow r w s).uptime = s.uptime := by
  unfold State.routeWindow; split <;> simp
@[simp] theorem State.routeWindow_stationTime (s : State) (r : Run) (w : WindowFigures) : (State.routeWindow r w s).stationTime = s.stationTime := by
  unfold State.routeWindow; split <;> simp
@[simp] theorem State.routeWindow_stationSet (s : State) (r : Run) (w : WindowFigures) : (State.routeWindow r w s).stationSet = s.stationSet := by
  unfold State.routeWindow; split <;> simp
@[simp] theorem State.routeWindow_lines (s : State) (r : Run) (w : WindowFigures) : (State.routeWindow r w s).lines = s.lines := by
  unfold State.routeWindow; split <;> simp
@[simp] theorem State.routeWindow_channels (s : State) (r : Run) (w : WindowFigures) : (State.routeWindow r w s).channels = s.channels := by
  unfold State.routeWindow; split <;> simp
@[simp] theorem State.routeWindow_curves (s : State) (r : Run) (w : WindowFigures) : (State.routeWindow r w s).curves = s.curves := by
  unfold State.routeWindow; split <;> simp
@[simp] theorem State.routeWindow_prover (s : State) (r : Run) (w : WindowFigures) : (State.routeWindow r w s).prover = s.prover := by
  unfold State.routeWindow; split <;> simp
@[simp] theorem State.routeWindow_control (s : State) (r : Run) (w : WindowFigures) : (State.routeWindow r w s).control = s.control := by
  unfold State.routeWindow; split <;> simp
@[simp] theorem State.routeWindow_freeIndex (s : State) (r : Run) (w : WindowFigures) : (State.routeWindow r w s).freeIndex = s.freeIndex := by
  unfold State.routeWindow; split <;> simp
@[simp] theorem State.routeWindow_pending (s : State) (r : Run) (w : WindowFigures) : (State.routeWindow r w s).pending = s.pending := by
  unfold State.routeWindow; split <;> simp

/-! ### computeWindow -/

@[simp] theorem State.computeWindow_tick (s : State) (r : Run) (n : Nat) (w : WindowCounts) : (State.computeWindow r n w s).tick = s.tick := by
  simp [State.computeWindow]
@[simp] theorem State.computeWindow_nextSecond (s : State) (r : Run) (n : Nat) (w : WindowCounts) : (State.computeWindow r n w s).nextSecond = s.nextSecond := by
  simp [State.computeWindow]
@[simp] theorem State.computeWindow_uptime (s : State) (r : Run) (n : Nat) (w : WindowCounts) : (State.computeWindow r n w s).uptime = s.uptime := by
  simp [State.computeWindow]
@[simp] theorem State.computeWindow_stationTime (s : State) (r : Run) (n : Nat) (w : WindowCounts) : (State.computeWindow r n w s).stationTime = s.stationTime := by
  simp [State.computeWindow]
@[simp] theorem State.computeWindow_stationSet (s : State) (r : Run) (n : Nat) (w : WindowCounts) : (State.computeWindow r n w s).stationSet = s.stationSet := by
  simp [State.computeWindow]
@[simp] theorem State.computeWindow_lines (s : State) (r : Run) (n : Nat) (w : WindowCounts) : (State.computeWindow r n w s).lines = s.lines := by
  simp [State.computeWindow]
@[simp] theorem State.computeWindow_channels (s : State) (r : Run) (n : Nat) (w : WindowCounts) : (State.computeWindow r n w s).channels = s.channels := by
  simp [State.computeWindow]
@[simp] theorem State.computeWindow_curves (s : State) (r : Run) (n : Nat) (w : WindowCounts) : (State.computeWindow r n w s).curves = s.curves := by
  simp [State.computeWindow]
@[simp] theorem State.computeWindow_prover (s : State) (r : Run) (n : Nat) (w : WindowCounts) : (State.computeWindow r n w s).prover = s.prover := by
  simp [State.computeWindow]
@[simp] theorem State.computeWindow_control (s : State) (r : Run) (n : Nat) (w : WindowCounts) : (State.computeWindow r n w s).control = s.control := by
  simp [State.computeWindow]
@[simp] theorem State.computeWindow_freeIndex (s : State) (r : Run) (n : Nat) (w : WindowCounts) : (State.computeWindow r n w s).freeIndex = s.freeIndex := by
  simp [State.computeWindow]
@[simp] theorem State.computeWindow_pending (s : State) (r : Run) (n : Nat) (w : WindowCounts) : (State.computeWindow r n w s).pending = s.pending := by
  simp [State.computeWindow]

/-! ### applyKFactor -/

@[simp] theorem State.applyKFactor_tick (s : State) (r : Run) (n : Nat) : (State.applyKFactor r n s).tick = s.tick := by
  unfold State.applyKFactor; dsimp only; split <;> simp
@[simp] theorem State.applyKFactor_nextSecond (s : State) (r : Run) (n : Nat) : (State.applyKFactor r n s).nextSecond = s.nextSecond := by
  unfold State.applyKFactor; dsimp only; split <;> simp
@[simp] theorem State.applyKFactor_uptime (s : State) (r : Run) (n : Nat) : (State.applyKFactor r n s).uptime = s.uptime := by
  unfold State.applyKFactor; dsimp only; split <;> simp
@[simp] theorem State.applyKFactor_stationTime (s : State) (r : Run) (n : Nat) : (State.applyKFactor r n s).stationTime = s.stationTime := by
  unfold State.applyKFactor; dsimp only; split <;> simp
@[simp] theorem State.applyKFactor_stationSet (s : State) (r : Run) (n : Nat) : (State.applyKFactor r n s).stationSet = s.stationSet := by
  unfold State.applyKFactor; dsimp only; split <;> simp
@[simp] theorem State.applyKFactor_lines (s : State) (r : Run) (n : Nat) : (State.applyKFactor r n s).lines = s.lines := by
  unfold State.applyKFactor; dsimp only; split <;> simp
@[simp] theorem State.applyKFactor_channels (s : State) (r : Run) (n : Nat) : (State.applyKFactor r n s).channels = s.channels := by
  unfold State.applyKFactor; dsimp only; split <;> simp
@[simp] theorem State.applyKFactor_curves (s : State) (r : Run) (n : Nat) : (State.applyKFactor r n s).curves = s.curves := by
  unfold State.applyKFactor; dsimp only; split <;> simp
@[simp] theorem State.applyKFactor_queue (s : State) (r : Run) (n : Nat) : (State.applyKFactor r n s).queue = s.queue := by
  unfold State.applyKFactor; dsimp only; split <;> simp
@[simp] theorem State.applyKFactor_batchSeq (s : State) (r : Run) (n : Nat) : (State.applyKFactor r n s).batchSeq = s.batchSeq := by
  unfold State.applyKFactor; dsimp only; split <;> simp
@[simp] theorem State.applyKFactor_history (s : State) (r : Run) (n : Nat) : (State.applyKFactor r n s).history = s.history := by
  unfold State.applyKFactor; dsimp only; split <;> simp
@[simp] theorem State.applyKFactor_prover (s : State) (r : Run) (n : Nat) : (State.applyKFactor r n s).prover = s.prover := by
  unfold State.applyKFactor; dsimp only; split <;> simp
@[simp] theorem State.applyKFactor_control (s : State) (r : Run) (n : Nat) : (State.applyKFactor r n s).control = s.control := by
  unfold State.applyKFactor; dsimp only; split <;> simp
@[simp] theorem State.applyKFactor_sampler (s : State) (r : Run) (n : Nat) : (State.applyKFactor r n s).sampler = s.sampler := by
  unfold State.applyKFactor; dsimp only; split <;> simp
@[simp] theorem State.applyKFactor_ports (s : State) (r : Run) (n : Nat) : (State.applyKFactor r n s).ports = s.ports := by
  unfold State.applyKFactor; dsimp only; split <;> simp
@[simp] theorem State.applyKFactor_store (s : State) (r : Run) (n : Nat) : (State.applyKFactor r n s).store = s.store := by
  unfold State.applyKFactor; dsimp only; split <;> simp
@[simp] theorem State.applyKFactor_freeIndex (s : State) (r : Run) (n : Nat) : (State.applyKFactor r n s).freeIndex = s.freeIndex := by
  unfold State.applyKFactor; dsimp only; split <;> simp
@[simp] theorem State.applyKFactor_pending (s : State) (r : Run) (n : Nat) : (State.applyKFactor r n s).pending = s.pending := by
  unfold State.applyKFactor; dsimp only; split <;> simp

/-! ### markCurveChanged -/

@[simp] theorem State.markCurveChanged_tick (s : State) (r : Run) : (State.markCurveChanged r s).tick = s.tick := by
  rfl
@[simp] theorem State.markCurveChanged_nextSecond (s : State) (r : Run) : (State.markCurveChanged r s).nextSecond = s.nextSecond := by
  rfl
@[simp] theorem State.markCurveChanged_uptime (s : State) (r : Run) : (State.markCurveChanged r s).uptime = s.uptime := by
  rfl
@[simp] theorem State.markCurveChanged_stationTime (s : State) (r : Run) : (State.markCurveChanged r s).stationTime = s.stationTime := by
  rfl
@[simp] theorem State.markCurveChanged_stationSet (s : State) (r : Run) : (State.markCurveChanged r s).stationSet = s.stationSet := by
  rfl
@[simp] theorem State.markCurveChanged_lines (s : State) (r : Run) : (State.markCurveChanged r s).lines = s.lines := by
  rfl
@[simp] theorem State.markCurveChanged_channels (s : State) (r : Run) : (State.markCurveChanged r s).channels = s.channels := by
  rfl
@[simp] theorem State.markCurveChanged_curves (s : State) (r : Run) : (State.markCurveChanged r s).curves = s.curves := by
  rfl
@[simp] theorem State.markCurveChanged_queue (s : State) (r : Run) : (State.markCurveChanged r s).queue = s.queue := by
  rfl
@[simp] theorem State.markCurveChanged_batch (s : State) (r : Run) : (State.markCurveChanged r s).batch = s.batch := by
  rfl
@[simp] theorem State.markCurveChanged_batchSeq (s : State) (r : Run) : (State.markCurveChanged r s).batchSeq = s.batchSeq := by
  rfl
@[simp] theorem State.markCurveChanged_history (s : State) (r : Run) : (State.markCurveChanged r s).history = s.history := by
  rfl
@[simp] theorem State.markCurveChanged_prover (s : State) (r : Run) : (State.markCurveChanged r s).prover = s.prover := by
  rfl
@[simp] theorem State.markCurveChanged_control (s : State) (r : Run) : (State.markCurveChanged r s).control = s.control := by
  rfl
@[simp] theorem State.markCurveChanged_sampler (s : State) (r : Run) : (State.markCurveChanged r s).sampler = s.sampler := by
  rfl
@[simp] theorem State.markCurveChanged_ports (s : State) (r : Run) : (State.markCurveChanged r s).ports = s.ports := by
  rfl
@[simp] theorem State.markCurveChanged_store (s : State) (r : Run) : (State.markCurveChanged r s).store = s.store := by
  rfl
@[simp] theorem State.markCurveChanged_freeIndex (s : State) (r : Run) : (State.markCurveChanged r s).freeIndex = s.freeIndex := by
  rfl
@[simp] theorem State.markCurveChanged_pending (s : State) (r : Run) : (State.markCurveChanged r s).pending = s.pending := by
  rfl

end Sys2Proof.Machine
end

