-- ==== Sys2Proof/Laws/Bytes.lean ====
section
/-! SUPPORT. The multi-byte fields of R166: their sizes, and that a figure within its field is carried exactly. -/

namespace Sys2Proof.Machine

@[simp] theorem bytesOf_length (n v : Nat) : (bytesOf n v).length = n := by
  induction n generalizing v with
  | zero => rfl
  | succ n ih => simp [bytesOf, ih]

@[simp] theorem field_length (n v : Nat) : (field n v).length = n := by simp [field]

/-- A figure that fits in its field is carried as it is. -/
theorem field_eq {n v : Nat} (h : v < 256 ^ n) : field n v = bytesOf n v := by simp [field, h]

theorem foldl_bytes (l : List Byte) (n : Nat) :
    l.foldl (fun n b => n * 256 + b.toNat) n = n * 256 ^ l.length + numberOf l := by
  induction l generalizing n with
  | nil => simp [numberOf]
  | cons b l ih =>
    simp only [List.foldl_cons, List.length_cons, numberOf]
    rw [ih, ih (0 * 256 + b.toNat)]
    simp only [pow_succ]; ring

theorem numberOf_append_single (l : List Byte) (b : Byte) : numberOf (l ++ [b]) = numberOf l * 256 + b.toNat := by
  simp [numberOf, List.foldl_append]

/-- The bytes of a number spell it, modulo the field's size. -/
theorem numberOf_bytesOf (n v : Nat) : numberOf (bytesOf n v) = v % 256 ^ n := by
  induction n generalizing v with
  | zero => simp [bytesOf, numberOf, Nat.mod_one]
  | succ n ih =>
    rw [bytesOf, numberOf_append_single, ih]
    have h := Nat.mod_mul (x := v) (a := 256) (b := 256 ^ n)
    rw [show (256 : Nat) ^ (n + 1) = 256 * 256 ^ n by rw [pow_succ]; ring, h]
    simp only [BitVec.toNat_ofNat]
    omega

theorem numberOf_lt (l : List Byte) : numberOf l < 256 ^ l.length := by
  induction l using List.reverseRecOn with
  | nil => simp [numberOf]
  | append_singleton l b ih =>
    rw [numberOf_append_single]
    have hb := b.isLt
    simp only [List.length_append, List.length_singleton, pow_succ]
    omega

/-- The bytes of the number that bytes spell are those bytes. -/
theorem bytesOf_numberOf (l : List Byte) : bytesOf l.length (numberOf l) = l := by
  induction l using List.reverseRecOn with
  | nil => rfl
  | append_singleton l b ih =>
    have hb := b.isLt
    have h1 : (numberOf l * 256 + b.toNat) / 256 = numberOf l := by omega
    have h2 : BitVec.ofNat 8 (numberOf l * 256 + b.toNat) = b := by
      apply BitVec.eq_of_toNat_eq
      simp only [BitVec.toNat_ofNat]; omega
    simp only [List.length_append, List.length_singleton, bytesOf, numberOf_append_single, h1, h2, ih]

theorem toNat_append_byte {m : Nat} (x : BitVec m) (y : Byte) : (x ++ y).toNat = x.toNat * 256 + y.toNat := by
  rw [BitVec.toNat_append, ← Nat.shiftLeft_add_eq_or_of_lt y.isLt, Nat.shiftLeft_eq]

/-- One, two and four argument bytes spell their concatenation. -/
theorem numberOf_one (a : Byte) : numberOf [a] = a.toNat := by simp [numberOf]

theorem numberOf_two (a b : Byte) : numberOf [a, b] = (a ++ b).toNat := by simp [numberOf, toNat_append_byte]

theorem numberOf_four (a b c d : Byte) : numberOf [a, b, c, d] = (a ++ b ++ c ++ d).toNat := by
  simp only [numberOf, toNat_append_byte, List.foldl_cons, List.foldl_nil]; omega

end Sys2Proof.Machine
end

