-- ==== Sys2Proof/Laws/ProverFrames.lean ====
section
/-! SUPPORT. What the operations of proving and the application of proposals (R101 to R126, R139 to R143) leave as it was: one lemma per operation and field that it never
changes. -/

namespace Sys2Proof.Machine

/-! ### setResult, offerResult -/

@[simp] theorem State.setResult_tick (s : State) (r : Run) (x : ProvingResult) : (s.setResult r x).tick = s.tick := rfl
@[simp] theorem State.setResult_nextSecond (s : State) (r : Run) (x : ProvingResult) : (s.setResult r x).nextSecond = s.nextSecond := rfl
@[simp] theorem State.setResult_uptime (s : State) (r : Run) (x : ProvingResult) : (s.setResult r x).uptime = s.uptime := rfl
@[simp] theorem State.setResult_stationTime (s : State) (r : Run) (x : ProvingResult) : (s.setResult r x).stationTime = s.stationTime := rfl
@[simp] theorem State.setResult_stationSet (s : State) (r : Run) (x : ProvingResult) : (s.setResult r x).stationSet = s.stationSet := rfl
@[simp] theorem State.setResult_lines (s : State) (r : Run) (x : ProvingResult) : (s.setResult r x).lines = s.lines := rfl
@[simp] theorem State.setResult_channels (s : State) (r : Run) (x : ProvingResult) : (s.setResult r x).channels = s.channels := rfl
@[simp] theorem State.setResult_totalizers (s : State) (r : Run) (x : ProvingResult) : (s.setResult r x).totalizers = s.totalizers := rfl
@[simp] theorem State.setResult_curves (s : State) (r : Run) (x : ProvingResult) : (s.setResult r x).curves = s.curves := rfl
@[simp] theorem State.setResult_queue (s : State) (r : Run) (x : ProvingResult) : (s.setResult r x).queue = s.queue := rfl
@[simp] theorem State.setResult_batch (s : State) (r : Run) (x : ProvingResult) : (s.setResult r x).batch = s.batch := rfl
@[simp] theorem State.setResult_batchSeq (s : State) (r : Run) (x : ProvingResult) : (s.setResult r x).batchSeq = s.batchSeq := rfl
@[simp] theorem State.setResult_history (s : State) (r : Run) (x : ProvingResult) : (s.setResult r x).history = s.history := rfl
@[simp] theorem State.setResult_control (s : State) (r : Run) (x : ProvingResult) : (s.setResult r x).control = s.control := rfl
@[simp] theorem State.setResult_sampler (s : State) (r : Run) (x : ProvingResult) : (s.setResult r x).sampler = s.sampler := rfl
@[simp] theorem State.setResult_ports (s : State) (r : Run) (x : ProvingResult) : (s.setResult r x).ports = s.ports := rfl
@[simp] theorem State.setResult_store (s : State) (r : Run) (x : ProvingResult) : (s.setResult r x).store = s.store := rfl
@[simp] theorem State.setResult_freeIndex (s : State) (r : Run) (x : ProvingResult) : (s.setResult r x).freeIndex = s.freeIndex := rfl
@[simp] theorem State.setResult_pending (s : State) (r : Run) (x : ProvingResult) : (s.setResult r x).pending = s.pending := rfl

/-- What a posting leaves when it is accepted (R134, R135). -/
theorem State.postProposal_some {s t : State} {c : Change} {o : Originator} {d : Bool} {id slot : Nat}
    (h : s.postProposal c o d = some (t, id, slot)) :
    s.control.chooseSlot s.uptime = some slot ∧ id = s.control.nextId ∧
      ∃ x, t = State.raise .proposal (s.setControl x) ∧ x.changeCount = s.control.changeCount ∧
        x.slots = s.control.slots.set slot (some (s.newProposal c o d)) := by
  simp only [State.postProposal, Option.map_eq_some_iff, Prod.mk.injEq] at h
  obtain ⟨n, h1, h2, h3, rfl⟩ := h
  exact ⟨h1, h3.symm, _, h2.symm, rfl, rfl⟩

/-- The four ways an offer ends (R125): not admissible, refused for a full table, or posted. -/
theorem State.offerResult_cases (s : State) (r : Run) (x : ProvingResult) :
    State.offerResult r x s = (s.setResult r { x with posting := .notAdmissible }, .notAdmissible) ∨
    State.offerResult r x s = (s.setResult r { x with posting := .notPosted }, .full) ∨
    ∃ c slot, s.control.chooseSlot s.uptime = some slot ∧ State.offerResult r x s =
      ((State.raise .proposal (s.setControl c)).setResult r { x with
        posting := .posted, proposalId := s.control.nextId
        largeDeviation := deviatesLargely (s.curves.get r) x.freq x.mf }, .posted s.control.nextId) := by
  unfold State.offerResult
  split
  · exact .inl rfl
  · dsimp only
    split
    · exact .inr (.inl rfl)
    · rename_i h
      obtain ⟨h1, h2, c, h3, -⟩ := State.postProposal_some h
      subst h2 h3
      exact .inr (.inr ⟨c, _, h1, rfl⟩)

@[simp] theorem State.offerResult_tick (s : State) (r : Run) (x : ProvingResult) :
    (State.offerResult r x s).1.tick = s.tick := by
  obtain h | h | ⟨_, _, _, h⟩ := s.offerResult_cases r x <;> simp [h]
@[simp] theorem State.offerResult_nextSecond (s : State) (r : Run) (x : ProvingResult) :
    (State.offerResult r x s).1.nextSecond = s.nextSecond := by
  obtain h | h | ⟨_, _, _, h⟩ := s.offerResult_cases r x <;> simp [h]
@[simp] theorem State.offerResult_uptime (s : State) (r : Run) (x : ProvingResult) :
    (State.offerResult r x s).1.uptime = s.uptime := by
  obtain h | h | ⟨_, _, _, h⟩ := s.offerResult_cases r x <;> simp [h]
@[simp] theorem State.offerResult_stationTime (s : State) (r : Run) (x : ProvingResult) :
    (State.offerResult r x s).1.stationTime = s.stationTime := by
  obtain h | h | ⟨_, _, _, h⟩ := s.offerResult_cases r x <;> simp [h]
@[simp] theorem State.offerResult_stationSet (s : State) (r : Run) (x : ProvingResult) :
    (State.offerResult r x s).1.stationSet = s.stationSet := by
  obtain h | h | ⟨_, _, _, h⟩ := s.offerResult_cases r x <;> simp [h]
@[simp] theorem State.offerResult_lines (s : State) (r : Run) (x : ProvingResult) :
    (State.offerResult r x s).1.lines = s.lines := by
  obtain h | h | ⟨_, _, _, h⟩ := s.offerResult_cases r x <;> simp [h]
@[simp] theorem State.offerResult_channels (s : State) (r : Run) (x : ProvingResult) :
    (State.offerResult r x s).1.channels = s.channels := by
  obtain h | h | ⟨_, _, _, h⟩ := s.offerResult_cases r x <;> simp [h]
@[simp] theorem State.offerResult_totalizers (s : State) (r : Run) (x : ProvingResult) :
    (State.offerResult r x s).1.totalizers = s.totalizers := by
  obtain h | h | ⟨_, _, _, h⟩ := s.offerResult_cases r x <;> simp [h]
@[simp] theorem State.offerResult_curves (s : State) (r : Run) (x : ProvingResult) :
    (State.offerResult r x s).1.curves = s.curves := by
  obtain h | h | ⟨_, _, _, h⟩ := s.offerResult_cases r x <;> simp [h]
@[simp] theorem State.offerResult_queue (s : State) (r : Run) (x : ProvingResult) :
    (State.offerResult r x s).1.queue = s.queue := by
  obtain h | h | ⟨_, _, _, h⟩ := s.offerResult_cases r x <;> simp [h]
@[simp] theorem State.offerResult_batch (s : State) (r : Run) (x : ProvingResult) :
    (State.offerResult r x s).1.batch = s.batch := by
  obtain h | h | ⟨_, _, _, h⟩ := s.offerResult_cases r x <;> simp [h]
@[simp] theorem State.offerResult_batchSeq (s : State) (r : Run) (x : ProvingResult) :
    (State.offerResult r x s).1.batchSeq = s.batchSeq := by
  obtain h | h | ⟨_, _, _, h⟩ := s.offerResult_cases r x <;> simp [h]
@[simp] theorem State.offerResult_history (s : State) (r : Run) (x : ProvingResult) :
    (State.offerResult r x s).1.history = s.history := by
  obtain h | h | ⟨_, _, _, h⟩ := s.offerResult_cases r x <;> simp [h]
@[simp] theorem State.offerResult_sampler (s : State) (r : Run) (x : ProvingResult) :
    (State.offerResult r x s).1.sampler = s.sampler := by
  obtain h | h | ⟨_, _, _, h⟩ := s.offerResult_cases r x <;> simp [h]
@[simp] theorem State.offerResult_store (s : State) (r : Run) (x : ProvingResult) :
    (State.offerResult r x s).1.store = s.store := by
  obtain h | h | ⟨_, _, _, h⟩ := s.offerResult_cases r x <;> simp [h]
@[simp] theorem State.offerResult_freeIndex (s : State) (r : Run) (x : ProvingResult) :
    (State.offerResult r x s).1.freeIndex = s.freeIndex := by
  obtain h | h | ⟨_, _, _, h⟩ := s.offerResult_cases r x <;> simp [h]
@[simp] theorem State.offerResult_pending (s : State) (r : Run) (x : ProvingResult) :
    (State.offerResult r x s).1.pending = s.pending := by
  obtain h | h | ⟨_, _, _, h⟩ := s.offerResult_cases r x <;> simp [h]

/-! ### reportProved -/

@[simp] theorem State.reportProved_tick (s : State) (r : Run) : (State.reportProved r s).tick = s.tick := by
  unfold State.reportProved; split <;> simp
@[simp] theorem State.reportProved_nextSecond (s : State) (r : Run) : (State.reportProved r s).nextSecond = s.nextSecond := by
  unfold State.reportProved; split <;> simp
@[simp] theorem State.reportProved_uptime (s : State) (r : Run) : (State.reportProved r s).uptime = s.uptime := by
  unfold State.reportProved; split <;> simp
@[simp] theorem State.reportProved_stationTime (s : State) (r : Run) : (State.reportProved r s).stationTime = s.stationTime := by
  unfold State.reportProved; split <;> simp
@[simp] theorem State.reportProved_stationSet (s : State) (r : Run) : (State.reportProved r s).stationSet = s.stationSet := by
  unfold State.reportProved; split <;> simp
@[simp] theorem State.reportProved_lines (s : State) (r : Run) : (State.reportProved r s).lines = s.lines := by
  unfold State.reportProved; split <;> simp
@[simp] theorem State.reportProved_channels (s : State) (r : Run) : (State.reportProved r s).channels = s.channels := by
  unfold State.reportProved; split <;> simp
@[simp] theorem State.reportProved_totalizers (s : State) (r : Run) : (State.reportProved r s).totalizers = s.totalizers := by
  unfold State.reportProved; split <;> simp
@[simp] theorem State.reportProved_curves (s : State) (r : Run) : (State.reportProved r s).curves = s.curves := by
  unfold State.reportProved; split <;> simp
@[simp] theorem State.reportProved_queue (s : State) (r : Run) : (State.reportProved r s).queue = s.queue := by
  unfold State.reportProved; split <;> simp
@[simp] theorem State.reportProved_batchSeq (s : State) (r : Run) : (State.reportProved r s).batchSeq = s.batchSeq := by
  unfold State.reportProved; split <;> simp
@[simp] theorem State.reportProved_history (s : State) (r : Run) : (State.reportProved r s).history = s.history := by
  unfold State.reportProved; split <;> simp
@[simp] theorem State.reportProved_prover (s : State) (r : Run) : (State.reportProved r s).prover = s.prover := by
  unfold State.reportProved; split <;> simp
@[simp] theorem State.reportProved_control (s : State) (r : Run) : (State.reportProved r s).control = s.control := by
  unfold State.reportProved; split <;> simp
@[simp] theorem State.reportProved_sampler (s : State) (r : Run) : (State.reportProved r s).sampler = s.sampler := by
  unfold State.reportProved; split <;> simp
@[simp] theorem State.reportProved_ports (s : State) (r : Run) : (State.reportProved r s).ports = s.ports := by
  unfold State.reportProved; split <;> simp
@[simp] theorem State.reportProved_store (s : State) (r : Run) : (State.reportProved r s).store = s.store := by
  unfold State.reportProved; split <;> simp
@[simp] theorem State.reportProved_freeIndex (s : State) (r : Run) : (State.reportProved r s).freeIndex = s.freeIndex := by
  unfold State.reportProved; split <;> simp
@[simp] theorem State.reportProved_pending (s : State) (r : Run) : (State.reportProved r s).pending = s.pending := by
  unfold State.reportProved; split <;> simp

/-! ### endSession -/

@[simp] theorem State.endSession_tick (s : State) (e : SessionState) (a : AbortReason) (m f : Nat) : (State.endSession e a m f s).tick = s.tick := by
  unfold State.endSession; dsimp only; repeat' split
  all_goals simp
@[simp] theorem State.endSession_nextSecond (s : State) (e : SessionState) (a : AbortReason) (m f : Nat) : (State.endSession e a m f s).nextSecond = s.nextSecond := by
  unfold State.endSession; dsimp only; repeat' split
  all_goals simp
@[simp] theorem State.endSession_uptime (s : State) (e : SessionState) (a : AbortReason) (m f : Nat) : (State.endSession e a m f s).uptime = s.uptime := by
  unfold State.endSession; dsimp only; repeat' split
  all_goals simp
@[simp] theorem State.endSession_stationTime (s : State) (e : SessionState) (a : AbortReason) (m f : Nat) : (State.endSession e a m f s).stationTime = s.stationTime := by
  unfold State.endSession; dsimp only; repeat' split
  all_goals simp
@[simp] theorem State.endSession_stationSet (s : State) (e : SessionState) (a : AbortReason) (m f : Nat) : (State.endSession e a m f s).stationSet = s.stationSet := by
  unfold State.endSession; dsimp only; repeat' split
  all_goals simp
@[simp] theorem State.endSession_lines (s : State) (e : SessionState) (a : AbortReason) (m f : Nat) : (State.endSession e a m f s).lines = s.lines := by
  unfold State.endSession; dsimp only; repeat' split
  all_goals simp
@[simp] theorem State.endSession_channels (s : State) (e : SessionState) (a : AbortReason) (m f : Nat) : (State.endSession e a m f s).channels = s.channels := by
  unfold State.endSession; dsimp only; repeat' split
  all_goals simp
@[simp] theorem State.endSession_totalizers (s : State) (e : SessionState) (a : AbortReason) (m f : Nat) : (State.endSession e a m f s).totalizers = s.totalizers := by
  unfold State.endSession; dsimp only; repeat' split
  all_goals simp
@[simp] theorem State.endSession_curves (s : State) (e : SessionState) (a : AbortReason) (m f : Nat) : (State.endSession e a m f s).curves = s.curves := by
  unfold State.endSession; dsimp only; repeat' split
  all_goals simp
@[simp] theorem State.endSession_queue (s : State) (e : SessionState) (a : AbortReason) (m f : Nat) : (State.endSession e a m f s).queue = s.queue := by
  unfold State.endSession; dsimp only; repeat' split
  all_goals simp
@[simp] theorem State.endSession_batchSeq (s : State) (e : SessionState) (a : AbortReason) (m f : Nat) : (State.endSession e a m f s).batchSeq = s.batchSeq := by
  unfold State.endSession; dsimp only; repeat' split
  all_goals simp
@[simp] theorem State.endSession_history (s : State) (e : SessionState) (a : AbortReason) (m f : Nat) : (State.endSession e a m f s).history = s.history := by
  unfold State.endSession; dsimp only; repeat' split
  all_goals simp
@[simp] theorem State.endSession_sampler (s : State) (e : SessionState) (a : AbortReason) (m f : Nat) : (State.endSession e a m f s).sampler = s.sampler := by
  unfold State.endSession; dsimp only; repeat' split
  all_goals simp
@[simp] theorem State.endSession_store (s : State) (e : SessionState) (a : AbortReason) (m f : Nat) : (State.endSession e a m f s).store = s.store := by
  unfold State.endSession; dsimp only; repeat' split
  all_goals simp
@[simp] theorem State.endSession_freeIndex (s : State) (e : SessionState) (a : AbortReason) (m f : Nat) : (State.endSession e a m f s).freeIndex = s.freeIndex := by
  unfold State.endSession; dsimp only; repeat' split
  all_goals simp
@[simp] theorem State.endSession_pending (s : State) (e : SessionState) (a : AbortReason) (m f : Nat) : (State.endSession e a m f s).pending = s.pending := by
  unfold State.endSession; dsimp only; repeat' split
  all_goals simp

/-! ### testSession -/

@[simp] theorem State.testSession_tick (s : State) (b : Bool) : (State.testSession b s).tick = s.tick := by
  unfold State.testSession; dsimp only; repeat' split
  all_goals simp
@[simp] theorem State.testSession_nextSecond (s : State) (b : Bool) : (State.testSession b s).nextSecond = s.nextSecond := by
  unfold State.testSession; dsimp only; repeat' split
  all_goals simp
@[simp] theorem State.testSession_uptime (s : State) (b : Bool) : (State.testSession b s).uptime = s.uptime := by
  unfold State.testSession; dsimp only; repeat' split
  all_goals simp
@[simp] theorem State.testSession_stationTime (s : State) (b : Bool) : (State.testSession b s).stationTime = s.stationTime := by
  unfold State.testSession; dsimp only; repeat' split
  all_goals simp
@[simp] theorem State.testSession_stationSet (s : State) (b : Bool) : (State.testSession b s).stationSet = s.stationSet := by
  unfold State.testSession; dsimp only; repeat' split
  all_goals simp
@[simp] theorem State.testSession_lines (s : State) (b : Bool) : (State.testSession b s).lines = s.lines := by
  unfold State.testSession; dsimp only; repeat' split
  all_goals simp
@[simp] theorem State.testSession_channels (s : State) (b : Bool) : (State.testSession b s).channels = s.channels := by
  unfold State.testSession; dsimp only; repeat' split
  all_goals simp
@[simp] theorem State.testSession_totalizers (s : State) (b : Bool) : (State.testSession b s).totalizers = s.totalizers := by
  unfold State.testSession; dsimp only; repeat' split
  all_goals simp
@[simp] theorem State.testSession_curves (s : State) (b : Bool) : (State.testSession b s).curves = s.curves := by
  unfold State.testSession; dsimp only; repeat' split
  all_goals simp
@[simp] theorem State.testSession_queue (s : State) (b : Bool) : (State.testSession b s).queue = s.queue := by
  unfold State.testSession; dsimp only; repeat' split
  all_goals simp
@[simp] theorem State.testSession_batchSeq (s : State) (b : Bool) : (State.testSession b s).batchSeq = s.batchSeq := by
  unfold State.testSession; dsimp only; repeat' split
  all_goals simp
@[simp] theorem State.testSession_history (s : State) (b : Bool) : (State.testSession b s).history = s.history := by
  unfold State.testSession; dsimp only; repeat' split
  all_goals simp
@[simp] theorem State.testSession_sampler (s : State) (b : Bool) : (State.testSession b s).sampler = s.sampler := by
  unfold State.testSession; dsimp only; repeat' split
  all_goals simp
@[simp] theorem State.testSession_store (s : State) (b : Bool) : (State.testSession b s).store = s.store := by
  unfold State.testSession; dsimp only; repeat' split
  all_goals simp
@[simp] theorem State.testSession_freeIndex (s : State) (b : Bool) : (State.testSession b s).freeIndex = s.freeIndex := by
  unfold State.testSession; dsimp only; repeat' split
  all_goals simp
@[simp] theorem State.testSession_pending (s : State) (b : Bool) : (State.testSession b s).pending = s.pending := by
  unfold State.testSession; dsimp only; repeat' split
  all_goals simp

/-! ### recordPass -/

@[simp] theorem State.recordPass_tick (s : State) (y : PassRecord) : (State.recordPass y s).tick = s.tick := by
  simp [State.recordPass]
@[simp] theorem State.recordPass_nextSecond (s : State) (y : PassRecord) : (State.recordPass y s).nextSecond = s.nextSecond := by
  simp [State.recordPass]
@[simp] theorem State.recordPass_uptime (s : State) (y : PassRecord) : (State.recordPass y s).uptime = s.uptime := by
  simp [State.recordPass]
@[simp] theorem State.recordPass_stationTime (s : State) (y : PassRecord) : (State.recordPass y s).stationTime = s.stationTime := by
  simp [State.recordPass]
@[simp] theorem State.recordPass_stationSet (s : State) (y : PassRecord) : (State.recordPass y s).stationSet = s.stationSet := by
  simp [State.recordPass]
@[simp] theorem State.recordPass_lines (s : State) (y : PassRecord) : (State.recordPass y s).lines = s.lines := by
  simp [State.recordPass]
@[simp] theorem State.recordPass_channels (s : State) (y : PassRecord) : (State.recordPass y s).channels = s.channels := by
  simp [State.recordPass]
@[simp] theorem State.recordPass_totalizers (s : State) (y : PassRecord) : (State.recordPass y s).totalizers = s.totalizers := by
  simp [State.recordPass]
@[simp] theorem State.recordPass_curves (s : State) (y : PassRecord) : (State.recordPass y s).curves = s.curves := by
  simp [State.recordPass]
@[simp] theorem State.recordPass_queue (s : State) (y : PassRecord) : (State.recordPass y s).queue = s.queue := by
  simp [State.recordPass]
@[simp] theorem State.recordPass_batchSeq (s : State) (y : PassRecord) : (State.recordPass y s).batchSeq = s.batchSeq := by
  simp [State.recordPass]
@[simp] theorem State.recordPass_history (s : State) (y : PassRecord) : (State.recordPass y s).history = s.history := by
  simp [State.recordPass]
@[simp] theorem State.recordPass_sampler (s : State) (y : PassRecord) : (State.recordPass y s).sampler = s.sampler := by
  simp [State.recordPass]
@[simp] theorem State.recordPass_store (s : State) (y : PassRecord) : (State.recordPass y s).store = s.store := by
  simp [State.recordPass]
@[simp] theorem State.recordPass_freeIndex (s : State) (y : PassRecord) : (State.recordPass y s).freeIndex = s.freeIndex := by
  simp [State.recordPass]
@[simp] theorem State.recordPass_pending (s : State) (y : PassRecord) : (State.recordPass y s).pending = s.pending := by
  simp [State.recordPass]

/-! ### awaitDet1 -/

@[simp] theorem State.awaitDet1_tick (s : State) : (State.awaitDet1 s).tick = s.tick := by
  unfold State.awaitDet1; dsimp only; split <;> simp
@[simp] theorem State.awaitDet1_nextSecond (s : State) : (State.awaitDet1 s).nextSecond = s.nextSecond := by
  unfold State.awaitDet1; dsimp only; split <;> simp
@[simp] theorem State.awaitDet1_uptime (s : State) : (State.awaitDet1 s).uptime = s.uptime := by
  unfold State.awaitDet1; dsimp only; split <;> simp
@[simp] theorem State.awaitDet1_stationTime (s : State) : (State.awaitDet1 s).stationTime = s.stationTime := by
  unfold State.awaitDet1; dsimp only; split <;> simp
@[simp] theorem State.awaitDet1_stationSet (s : State) : (State.awaitDet1 s).stationSet = s.stationSet := by
  unfold State.awaitDet1; dsimp only; split <;> simp
@[simp] theorem State.awaitDet1_lines (s : State) : (State.awaitDet1 s).lines = s.lines := by
  unfold State.awaitDet1; dsimp only; split <;> simp
@[simp] theorem State.awaitDet1_channels (s : State) : (State.awaitDet1 s).channels = s.channels := by
  unfold State.awaitDet1; dsimp only; split <;> simp
@[simp] theorem State.awaitDet1_totalizers (s : State) : (State.awaitDet1 s).totalizers = s.totalizers := by
  unfold State.awaitDet1; dsimp only; split <;> simp
@[simp] theorem State.awaitDet1_curves (s : State) : (State.awaitDet1 s).curves = s.curves := by
  unfold State.awaitDet1; dsimp only; split <;> simp
@[simp] theorem State.awaitDet1_queue (s : State) : (State.awaitDet1 s).queue = s.queue := by
  unfold State.awaitDet1; dsimp only; split <;> simp
@[simp] theorem State.awaitDet1_batch (s : State) : (State.awaitDet1 s).batch = s.batch := by
  unfold State.awaitDet1; dsimp only; split <;> simp
@[simp] theorem State.awaitDet1_batchSeq (s : State) : (State.awaitDet1 s).batchSeq = s.batchSeq := by
  unfold State.awaitDet1; dsimp only; split <;> simp
@[simp] theorem State.awaitDet1_history (s : State) : (State.awaitDet1 s).history = s.history := by
  unfold State.awaitDet1; dsimp only; split <;> simp
@[simp] theorem State.awaitDet1_control (s : State) : (State.awaitDet1 s).control = s.control := by
  unfold State.awaitDet1; dsimp only; split <;> simp
@[simp] theorem State.awaitDet1_sampler (s : State) : (State.awaitDet1 s).sampler = s.sampler := by
  unfold State.awaitDet1; dsimp only; split <;> simp
@[simp] theorem State.awaitDet1_ports (s : State) : (State.awaitDet1 s).ports = s.ports := by
  unfold State.awaitDet1; dsimp only; split <;> simp
@[simp] theorem State.awaitDet1_store (s : State) : (State.awaitDet1 s).store = s.store := by
  unfold State.awaitDet1; dsimp only; split <;> simp
@[simp] theorem State.awaitDet1_freeIndex (s : State) : (State.awaitDet1 s).freeIndex = s.freeIndex := by
  unfold State.awaitDet1; dsimp only; split <;> simp
@[simp] theorem State.awaitDet1_pending (s : State) : (State.awaitDet1 s).pending = s.pending := by
  unfold State.awaitDet1; dsimp only; split <;> simp

/-! ### beginPass -/

@[simp] theorem State.beginPass_tick (s : State) (t : Tick) : (State.beginPass t s).tick = s.tick := by
  rfl
@[simp] theorem State.beginPass_nextSecond (s : State) (t : Tick) : (State.beginPass t s).nextSecond = s.nextSecond := by
  rfl
@[simp] theorem State.beginPass_uptime (s : State) (t : Tick) : (State.beginPass t s).uptime = s.uptime := by
  rfl
@[simp] theorem State.beginPass_stationTime (s : State) (t : Tick) : (State.beginPass t s).stationTime = s.stationTime := by
  rfl
@[simp] theorem State.beginPass_stationSet (s : State) (t : Tick) : (State.beginPass t s).stationSet = s.stationSet := by
  rfl
@[simp] theorem State.beginPass_lines (s : State) (t : Tick) : (State.beginPass t s).lines = s.lines := by
  rfl
@[simp] theorem State.beginPass_channels (s : State) (t : Tick) : (State.beginPass t s).channels = s.channels := by
  rfl
@[simp] theorem State.beginPass_totalizers (s : State) (t : Tick) : (State.beginPass t s).totalizers = s.totalizers := by
  rfl
@[simp] theorem State.beginPass_curves (s : State) (t : Tick) : (State.beginPass t s).curves = s.curves := by
  rfl
@[simp] theorem State.beginPass_queue (s : State) (t : Tick) : (State.beginPass t s).queue = s.queue := by
  rfl
@[simp] theorem State.beginPass_batch (s : State) (t : Tick) : (State.beginPass t s).batch = s.batch := by
  rfl
@[simp] theorem State.beginPass_batchSeq (s : State) (t : Tick) : (State.beginPass t s).batchSeq = s.batchSeq := by
  rfl
@[simp] theorem State.beginPass_history (s : State) (t : Tick) : (State.beginPass t s).history = s.history := by
  rfl
@[simp] theorem State.beginPass_control (s : State) (t : Tick) : (State.beginPass t s).control = s.control := by
  rfl
@[simp] theorem State.beginPass_sampler (s : State) (t : Tick) : (State.beginPass t s).sampler = s.sampler := by
  rfl
@[simp] theorem State.beginPass_ports (s : State) (t : Tick) : (State.beginPass t s).ports = s.ports := by
  rfl
@[simp] theorem State.beginPass_store (s : State) (t : Tick) : (State.beginPass t s).store = s.store := by
  rfl
@[simp] theorem State.beginPass_freeIndex (s : State) (t : Tick) : (State.beginPass t s).freeIndex = s.freeIndex := by
  rfl
@[simp] theorem State.beginPass_pending (s : State) (t : Tick) : (State.beginPass t s).pending = s.pending := by
  rfl

/-! ### pulseInPass -/

@[simp] theorem State.pulseInPass_tick (s : State) (t : Tick) : (State.pulseInPass t s).tick = s.tick := by
  unfold State.pulseInPass State.setPass; dsimp only; repeat' split
  all_goals simp
@[simp] theorem State.pulseInPass_nextSecond (s : State) (t : Tick) : (State.pulseInPass t s).nextSecond = s.nextSecond := by
  unfold State.pulseInPass State.setPass; dsimp only; repeat' split
  all_goals simp
@[simp] theorem State.pulseInPass_uptime (s : State) (t : Tick) : (State.pulseInPass t s).uptime = s.uptime := by
  unfold State.pulseInPass State.setPass; dsimp only; repeat' split
  all_goals simp
@[simp] theorem State.pulseInPass_stationTime (s : State) (t : Tick) : (State.pulseInPass t s).stationTime = s.stationTime := by
  unfold State.pulseInPass State.setPass; dsimp only; repeat' split
  all_goals simp
@[simp] theorem State.pulseInPass_stationSet (s : State) (t : Tick) : (State.pulseInPass t s).stationSet = s.stationSet := by
  unfold State.pulseInPass State.setPass; dsimp only; repeat' split
  all_goals simp
@[simp] theorem State.pulseInPass_lines (s : State) (t : Tick) : (State.pulseInPass t s).lines = s.lines := by
  unfold State.pulseInPass State.setPass; dsimp only; repeat' split
  all_goals simp
@[simp] theorem State.pulseInPass_channels (s : State) (t : Tick) : (State.pulseInPass t s).channels = s.channels := by
  unfold State.pulseInPass State.setPass; dsimp only; repeat' split
  all_goals simp
@[simp] theorem State.pulseInPass_totalizers (s : State) (t : Tick) : (State.pulseInPass t s).totalizers = s.totalizers := by
  unfold State.pulseInPass State.setPass; dsimp only; repeat' split
  all_goals simp
@[simp] theorem State.pulseInPass_curves (s : State) (t : Tick) : (State.pulseInPass t s).curves = s.curves := by
  unfold State.pulseInPass State.setPass; dsimp only; repeat' split
  all_goals simp
@[simp] theorem State.pulseInPass_queue (s : State) (t : Tick) : (State.pulseInPass t s).queue = s.queue := by
  unfold State.pulseInPass State.setPass; dsimp only; repeat' split
  all_goals simp
@[simp] theorem State.pulseInPass_batch (s : State) (t : Tick) : (State.pulseInPass t s).batch = s.batch := by
  unfold State.pulseInPass State.setPass; dsimp only; repeat' split
  all_goals simp
@[simp] theorem State.pulseInPass_batchSeq (s : State) (t : Tick) : (State.pulseInPass t s).batchSeq = s.batchSeq := by
  unfold State.pulseInPass State.setPass; dsimp only; repeat' split
  all_goals simp
@[simp] theorem State.pulseInPass_history (s : State) (t : Tick) : (State.pulseInPass t s).history = s.history := by
  unfold State.pulseInPass State.setPass; dsimp only; repeat' split
  all_goals simp
@[simp] theorem State.pulseInPass_control (s : State) (t : Tick) : (State.pulseInPass t s).control = s.control := by
  unfold State.pulseInPass State.setPass; dsimp only; repeat' split
  all_goals simp
@[simp] theorem State.pulseInPass_sampler (s : State) (t : Tick) : (State.pulseInPass t s).sampler = s.sampler := by
  unfold State.pulseInPass State.setPass; dsimp only; repeat' split
  all_goals simp
@[simp] theorem State.pulseInPass_ports (s : State) (t : Tick) : (State.pulseInPass t s).ports = s.ports := by
  unfold State.pulseInPass State.setPass; dsimp only; repeat' split
  all_goals simp
@[simp] theorem State.pulseInPass_store (s : State) (t : Tick) : (State.pulseInPass t s).store = s.store := by
  unfold State.pulseInPass State.setPass; dsimp only; repeat' split
  all_goals simp
@[simp] theorem State.pulseInPass_freeIndex (s : State) (t : Tick) : (State.pulseInPass t s).freeIndex = s.freeIndex := by
  unfold State.pulseInPass State.setPass; dsimp only; repeat' split
  all_goals simp
@[simp] theorem State.pulseInPass_pending (s : State) (t : Tick) : (State.pulseInPass t s).pending = s.pending := by
  unfold State.pulseInPass State.setPass; dsimp only; repeat' split
  all_goals simp

/-! ### pulseInWaitStop -/

@[simp] theorem State.pulseInWaitStop_tick (s : State) (r : Run) (t : Tick) : (State.pulseInWaitStop r t s).tick = s.tick := by
  unfold State.pulseInWaitStop State.setPass; dsimp only; repeat' split
  all_goals simp
@[simp] theorem State.pulseInWaitStop_nextSecond (s : State) (r : Run) (t : Tick) : (State.pulseInWaitStop r t s).nextSecond = s.nextSecond := by
  unfold State.pulseInWaitStop State.setPass; dsimp only; repeat' split
  all_goals simp
@[simp] theorem State.pulseInWaitStop_uptime (s : State) (r : Run) (t : Tick) : (State.pulseInWaitStop r t s).uptime = s.uptime := by
  unfold State.pulseInWaitStop State.setPass; dsimp only; repeat' split
  all_goals simp
@[simp] theorem State.pulseInWaitStop_stationTime (s : State) (r : Run) (t : Tick) : (State.pulseInWaitStop r t s).stationTime = s.stationTime := by
  unfold State.pulseInWaitStop State.setPass; dsimp only; repeat' split
  all_goals simp
@[simp] theorem State.pulseInWaitStop_stationSet (s : State) (r : Run) (t : Tick) : (State.pulseInWaitStop r t s).stationSet = s.stationSet := by
  unfold State.pulseInWaitStop State.setPass; dsimp only; repeat' split
  all_goals simp
@[simp] theorem State.pulseInWaitStop_lines (s : State) (r : Run) (t : Tick) : (State.pulseInWaitStop r t s).lines = s.lines := by
  unfold State.pulseInWaitStop State.setPass; dsimp only; repeat' split
  all_goals simp
@[simp] theorem State.pulseInWaitStop_channels (s : State) (r : Run) (t : Tick) : (State.pulseInWaitStop r t s).channels = s.channels := by
  unfold State.pulseInWaitStop State.setPass; dsimp only; repeat' split
  all_goals simp
@[simp] theorem State.pulseInWaitStop_totalizers (s : State) (r : Run) (t : Tick) : (State.pulseInWaitStop r t s).totalizers = s.totalizers := by
  unfold State.pulseInWaitStop State.setPass; dsimp only; repeat' split
  all_goals simp
@[simp] theorem State.pulseInWaitStop_curves (s : State) (r : Run) (t : Tick) : (State.pulseInWaitStop r t s).curves = s.curves := by
  unfold State.pulseInWaitStop State.setPass; dsimp only; repeat' split
  all_goals simp
@[simp] theorem State.pulseInWaitStop_queue (s : State) (r : Run) (t : Tick) : (State.pulseInWaitStop r t s).queue = s.queue := by
  unfold State.pulseInWaitStop State.setPass; dsimp only; repeat' split
  all_goals simp
@[simp] theorem State.pulseInWaitStop_batchSeq (s : State) (r : Run) (t : Tick) : (State.pulseInWaitStop r t s).batchSeq = s.batchSeq := by
  unfold State.pulseInWaitStop State.setPass; dsimp only; repeat' split
  all_goals simp
@[simp] theorem State.pulseInWaitStop_history (s : State) (r : Run) (t : Tick) : (State.pulseInWaitStop r t s).history = s.history := by
  unfold State.pulseInWaitStop State.setPass; dsimp only; repeat' split
  all_goals simp
@[simp] theorem State.pulseInWaitStop_sampler (s : State) (r : Run) (t : Tick) : (State.pulseInWaitStop r t s).sampler = s.sampler := by
  unfold State.pulseInWaitStop State.setPass; dsimp only; repeat' split
  all_goals simp
@[simp] theorem State.pulseInWaitStop_store (s : State) (r : Run) (t : Tick) : (State.pulseInWaitStop r t s).store = s.store := by
  unfold State.pulseInWaitStop State.setPass; dsimp only; repeat' split
  all_goals simp
@[simp] theorem State.pulseInWaitStop_freeIndex (s : State) (r : Run) (t : Tick) : (State.pulseInWaitStop r t s).freeIndex = s.freeIndex := by
  unfold State.pulseInWaitStop State.setPass; dsimp only; repeat' split
  all_goals simp
@[simp] theorem State.pulseInWaitStop_pending (s : State) (r : Run) (t : Tick) : (State.pulseInWaitStop r t s).pending = s.pending := by
  unfold State.pulseInWaitStop State.setPass; dsimp only; repeat' split
  all_goals simp

/-! ### proverCycle -/

@[simp] theorem State.proverCycle_tick (s : State) (r : Run) (c : CycleClass) (d : Option Direction) (t : Tick) : (State.proverCycle r c d t s).tick = s.tick := by
  unfold State.proverCycle State.setPass; dsimp only; repeat' split
  all_goals simp
@[simp] theorem State.proverCycle_nextSecond (s : State) (r : Run) (c : CycleClass) (d : Option Direction) (t : Tick) : (State.proverCycle r c d t s).nextSecond = s.nextSecond := by
  unfold State.proverCycle State.setPass; dsimp only; repeat' split
  all_goals simp
@[simp] theorem State.proverCycle_uptime (s : State) (r : Run) (c : CycleClass) (d : Option Direction) (t : Tick) : (State.proverCycle r c d t s).uptime = s.uptime := by
  unfold State.proverCycle State.setPass; dsimp only; repeat' split
  all_goals simp
@[simp] theorem State.proverCycle_stationTime (s : State) (r : Run) (c : CycleClass) (d : Option Direction) (t : Tick) : (State.proverCycle r c d t s).stationTime = s.stationTime := by
  unfold State.proverCycle State.setPass; dsimp only; repeat' split
  all_goals simp
@[simp] theorem State.proverCycle_stationSet (s : State) (r : Run) (c : CycleClass) (d : Option Direction) (t : Tick) : (State.proverCycle r c d t s).stationSet = s.stationSet := by
  unfold State.proverCycle State.setPass; dsimp only; repeat' split
  all_goals simp
@[simp] theorem State.proverCycle_lines (s : State) (r : Run) (c : CycleClass) (d : Option Direction) (t : Tick) : (State.proverCycle r c d t s).lines = s.lines := by
  unfold State.proverCycle State.setPass; dsimp only; repeat' split
  all_goals simp
@[simp] theorem State.proverCycle_channels (s : State) (r : Run) (c : CycleClass) (d : Option Direction) (t : Tick) : (State.proverCycle r c d t s).channels = s.channels := by
  unfold State.proverCycle State.setPass; dsimp only; repeat' split
  all_goals simp
@[simp] theorem State.proverCycle_totalizers (s : State) (r : Run) (c : CycleClass) (d : Option Direction) (t : Tick) : (State.proverCycle r c d t s).totalizers = s.totalizers := by
  unfold State.proverCycle State.setPass; dsimp only; repeat' split
  all_goals simp
@[simp] theorem State.proverCycle_curves (s : State) (r : Run) (c : CycleClass) (d : Option Direction) (t : Tick) : (State.proverCycle r c d t s).curves = s.curves := by
  unfold State.proverCycle State.setPass; dsimp only; repeat' split
  all_goals simp
@[simp] theorem State.proverCycle_queue (s : State) (r : Run) (c : CycleClass) (d : Option Direction) (t : Tick) : (State.proverCycle r c d t s).queue = s.queue := by
  unfold State.proverCycle State.setPass; dsimp only; repeat' split
  all_goals simp
@[simp] theorem State.proverCycle_batchSeq (s : State) (r : Run) (c : CycleClass) (d : Option Direction) (t : Tick) : (State.proverCycle r c d t s).batchSeq = s.batchSeq := by
  unfold State.proverCycle State.setPass; dsimp only; repeat' split
  all_goals simp
@[simp] theorem State.proverCycle_history (s : State) (r : Run) (c : CycleClass) (d : Option Direction) (t : Tick) : (State.proverCycle r c d t s).history = s.history := by
  unfold State.proverCycle State.setPass; dsimp only; repeat' split
  all_goals simp
@[simp] theorem State.proverCycle_sampler (s : State) (r : Run) (c : CycleClass) (d : Option Direction) (t : Tick) : (State.proverCycle r c d t s).sampler = s.sampler := by
  unfold State.proverCycle State.setPass; dsimp only; repeat' split
  all_goals simp
@[simp] theorem State.proverCycle_store (s : State) (r : Run) (c : CycleClass) (d : Option Direction) (t : Tick) : (State.proverCycle r c d t s).store = s.store := by
  unfold State.proverCycle State.setPass; dsimp only; repeat' split
  all_goals simp
@[simp] theorem State.proverCycle_freeIndex (s : State) (r : Run) (c : CycleClass) (d : Option Direction) (t : Tick) : (State.proverCycle r c d t s).freeIndex = s.freeIndex := by
  unfold State.proverCycle State.setPass; dsimp only; repeat' split
  all_goals simp
@[simp] theorem State.proverCycle_pending (s : State) (r : Run) (c : CycleClass) (d : Option Direction) (t : Tick) : (State.proverCycle r c d t s).pending = s.pending := by
  unfold State.proverCycle State.setPass; dsimp only; repeat' split
  all_goals simp

/-! ### abortSession -/

@[simp] theorem State.abortSession_tick (s : State) (a : AbortReason) : (State.abortSession a s).tick = s.tick := by
  unfold State.abortSession; dsimp only; split <;> simp
@[simp] theorem State.abortSession_nextSecond (s : State) (a : AbortReason) : (State.abortSession a s).nextSecond = s.nextSecond := by
  unfold State.abortSession; dsimp only; split <;> simp
@[simp] theorem State.abortSession_uptime (s : State) (a : AbortReason) : (State.abortSession a s).uptime = s.uptime := by
  unfold State.abortSession; dsimp only; split <;> simp
@[simp] theorem State.abortSession_stationTime (s : State) (a : AbortReason) : (State.abortSession a s).stationTime = s.stationTime := by
  unfold State.abortSession; dsimp only; split <;> simp
@[simp] theorem State.abortSession_stationSet (s : State) (a : AbortReason) : (State.abortSession a s).stationSet = s.stationSet := by
  unfold State.abortSession; dsimp only; split <;> simp
@[simp] theorem State.abortSession_lines (s : State) (a : AbortReason) : (State.abortSession a s).lines = s.lines := by
  unfold State.abortSession; dsimp only; split <;> simp
@[simp] theorem State.abortSession_channels (s : State) (a : AbortReason) : (State.abortSession a s).channels = s.channels := by
  unfold State.abortSession; dsimp only; split <;> simp
@[simp] theorem State.abortSession_totalizers (s : State) (a : AbortReason) : (State.abortSession a s).totalizers = s.totalizers := by
  unfold State.abortSession; dsimp only; split <;> simp
@[simp] theorem State.abortSession_curves (s : State) (a : AbortReason) : (State.abortSession a s).curves = s.curves := by
  unfold State.abortSession; dsimp only; split <;> simp
@[simp] theorem State.abortSession_queue (s : State) (a : AbortReason) : (State.abortSession a s).queue = s.queue := by
  unfold State.abortSession; dsimp only; split <;> simp
@[simp] theorem State.abortSession_batchSeq (s : State) (a : AbortReason) : (State.abortSession a s).batchSeq = s.batchSeq := by
  unfold State.abortSession; dsimp only; split <;> simp
@[simp] theorem State.abortSession_history (s : State) (a : AbortReason) : (State.abortSession a s).history = s.history := by
  unfold State.abortSession; dsimp only; split <;> simp
@[simp] theorem State.abortSession_sampler (s : State) (a : AbortReason) : (State.abortSession a s).sampler = s.sampler := by
  unfold State.abortSession; dsimp only; split <;> simp
@[simp] theorem State.abortSession_store (s : State) (a : AbortReason) : (State.abortSession a s).store = s.store := by
  unfold State.abortSession; dsimp only; split <;> simp
@[simp] theorem State.abortSession_freeIndex (s : State) (a : AbortReason) : (State.abortSession a s).freeIndex = s.freeIndex := by
  unfold State.abortSession; dsimp only; split <;> simp
@[simp] theorem State.abortSession_pending (s : State) (a : AbortReason) : (State.abortSession a s).pending = s.pending := by
  unfold State.abortSession; dsimp only; split <;> simp

/-! ### detectorEvent -/

@[simp] theorem State.detectorEvent_tick (s : State) (d : Detector) (t : Tick) : (State.detectorEvent d t s).tick = s.tick := by
  unfold State.detectorEvent; dsimp only; repeat' split
  all_goals simp
@[simp] theorem State.detectorEvent_nextSecond (s : State) (d : Detector) (t : Tick) : (State.detectorEvent d t s).nextSecond = s.nextSecond := by
  unfold State.detectorEvent; dsimp only; repeat' split
  all_goals simp
@[simp] theorem State.detectorEvent_uptime (s : State) (d : Detector) (t : Tick) : (State.detectorEvent d t s).uptime = s.uptime := by
  unfold State.detectorEvent; dsimp only; repeat' split
  all_goals simp
@[simp] theorem State.detectorEvent_stationTime (s : State) (d : Detector) (t : Tick) : (State.detectorEvent d t s).stationTime = s.stationTime := by
  unfold State.detectorEvent; dsimp only; repeat' split
  all_goals simp
@[simp] theorem State.detectorEvent_stationSet (s : State) (d : Detector) (t : Tick) : (State.detectorEvent d t s).stationSet = s.stationSet := by
  unfold State.detectorEvent; dsimp only; repeat' split
  all_goals simp
@[simp] theorem State.detectorEvent_lines (s : State) (d : Detector) (t : Tick) : (State.detectorEvent d t s).lines = s.lines := by
  unfold State.detectorEvent; dsimp only; repeat' split
  all_goals simp
@[simp] theorem State.detectorEvent_channels (s : State) (d : Detector) (t : Tick) : (State.detectorEvent d t s).channels = s.channels := by
  unfold State.detectorEvent; dsimp only; repeat' split
  all_goals simp
@[simp] theorem State.detectorEvent_totalizers (s : State) (d : Detector) (t : Tick) : (State.detectorEvent d t s).totalizers = s.totalizers := by
  unfold State.detectorEvent; dsimp only; repeat' split
  all_goals simp
@[simp] theorem State.detectorEvent_curves (s : State) (d : Detector) (t : Tick) : (State.detectorEvent d t s).curves = s.curves := by
  unfold State.detectorEvent; dsimp only; repeat' split
  all_goals simp
@[simp] theorem State.detectorEvent_queue (s : State) (d : Detector) (t : Tick) : (State.detectorEvent d t s).queue = s.queue := by
  unfold State.detectorEvent; dsimp only; repeat' split
  all_goals simp
@[simp] theorem State.detectorEvent_batchSeq (s : State) (d : Detector) (t : Tick) : (State.detectorEvent d t s).batchSeq = s.batchSeq := by
  unfold State.detectorEvent; dsimp only; repeat' split
  all_goals simp
@[simp] theorem State.detectorEvent_history (s : State) (d : Detector) (t : Tick) : (State.detectorEvent d t s).history = s.history := by
  unfold State.detectorEvent; dsimp only; repeat' split
  all_goals simp
@[simp] theorem State.detectorEvent_sampler (s : State) (d : Detector) (t : Tick) : (State.detectorEvent d t s).sampler = s.sampler := by
  unfold State.detectorEvent; dsimp only; repeat' split
  all_goals simp
@[simp] theorem State.detectorEvent_store (s : State) (d : Detector) (t : Tick) : (State.detectorEvent d t s).store = s.store := by
  unfold State.detectorEvent; dsimp only; repeat' split
  all_goals simp
@[simp] theorem State.detectorEvent_freeIndex (s : State) (d : Detector) (t : Tick) : (State.detectorEvent d t s).freeIndex = s.freeIndex := by
  unfold State.detectorEvent; dsimp only; repeat' split
  all_goals simp
@[simp] theorem State.detectorEvent_pending (s : State) (d : Detector) (t : Tick) : (State.detectorEvent d t s).pending = s.pending := by
  unfold State.detectorEvent; dsimp only; repeat' split
  all_goals simp

end Sys2Proof.Machine
end

