-- ==== Sys2Proof/Laws/ChannelFrames.lean ====
section
/-! SUPPORT. What the operations of the pulse front end (R9 to R21) leave as it was: one lemma per operation and field that it never
changes. -/

namespace Sys2Proof.Machine

/-! ### endBlock -/

@[simp] theorem State.endBlock_tick (s : State) (r : Run) (n : Nat) : (State.endBlock r n s).tick = s.tick := by
  simp [State.endBlock]
@[simp] theorem State.endBlock_nextSecond (s : State) (r : Run) (n : Nat) : (State.endBlock r n s).nextSecond = s.nextSecond := by
  simp [State.endBlock]
@[simp] theorem State.endBlock_uptime (s : State) (r : Run) (n : Nat) : (State.endBlock r n s).uptime = s.uptime := by
  simp [State.endBlock]
@[simp] theorem State.endBlock_stationTime (s : State) (r : Run) (n : Nat) : (State.endBlock r n s).stationTime = s.stationTime := by
  simp [State.endBlock]
@[simp] theorem State.endBlock_stationSet (s : State) (r : Run) (n : Nat) : (State.endBlock r n s).stationSet = s.stationSet := by
  simp [State.endBlock]
@[simp] theorem State.endBlock_lines (s : State) (r : Run) (n : Nat) : (State.endBlock r n s).lines = s.lines := by
  simp [State.endBlock]
@[simp] theorem State.endBlock_totalizers (s : State) (r : Run) (n : Nat) : (State.endBlock r n s).totalizers = s.totalizers := by
  simp [State.endBlock]
@[simp] theorem State.endBlock_curves (s : State) (r : Run) (n : Nat) : (State.endBlock r n s).curves = s.curves := by
  simp [State.endBlock]
@[simp] theorem State.endBlock_queue (s : State) (r : Run) (n : Nat) : (State.endBlock r n s).queue = s.queue := by
  simp [State.endBlock]
@[simp] theorem State.endBlock_batch (s : State) (r : Run) (n : Nat) : (State.endBlock r n s).batch = s.batch := by
  simp [State.endBlock]
@[simp] theorem State.endBlock_batchSeq (s : State) (r : Run) (n : Nat) : (State.endBlock r n s).batchSeq = s.batchSeq := by
  simp [State.endBlock]
@[simp] theorem State.endBlock_history (s : State) (r : Run) (n : Nat) : (State.endBlock r n s).history = s.history := by
  simp [State.endBlock]
@[simp] theorem State.endBlock_prover (s : State) (r : Run) (n : Nat) : (State.endBlock r n s).prover = s.prover := by
  simp [State.endBlock]
@[simp] theorem State.endBlock_control (s : State) (r : Run) (n : Nat) : (State.endBlock r n s).control = s.control := by
  simp [State.endBlock]
@[simp] theorem State.endBlock_sampler (s : State) (r : Run) (n : Nat) : (State.endBlock r n s).sampler = s.sampler := by
  simp [State.endBlock]
@[simp] theorem State.endBlock_store (s : State) (r : Run) (n : Nat) : (State.endBlock r n s).store = s.store := by
  simp [State.endBlock]
@[simp] theorem State.endBlock_freeIndex (s : State) (r : Run) (n : Nat) : (State.endBlock r n s).freeIndex = s.freeIndex := by
  simp [State.endBlock]
@[simp] theorem State.endBlock_pending (s : State) (r : Run) (n : Nat) : (State.endBlock r n s).pending = s.pending := by
  simp [State.endBlock]

/-! ### advanceBlock -/

@[simp] theorem State.advanceBlock_tick (s : State) (r : Run) (b : Bool) : (State.advanceBlock r b s).tick = s.tick := by
  unfold State.advanceBlock; dsimp only; split <;> simp
@[simp] theorem State.advanceBlock_nextSecond (s : State) (r : Run) (b : Bool) : (State.advanceBlock r b s).nextSecond = s.nextSecond := by
  unfold State.advanceBlock; dsimp only; split <;> simp
@[simp] theorem State.advanceBlock_uptime (s : State) (r : Run) (b : Bool) : (State.advanceBlock r b s).uptime = s.uptime := by
  unfold State.advanceBlock; dsimp only; split <;> simp
@[simp] theorem State.advanceBlock_stationTime (s : State) (r : Run) (b : Bool) : (State.advanceBlock r b s).stationTime = s.stationTime := by
  unfold State.advanceBlock; dsimp only; split <;> simp
@[simp] theorem State.advanceBlock_stationSet (s : State) (r : Run) (b : Bool) : (State.advanceBlock r b s).stationSet = s.stationSet := by
  unfold State.advanceBlock; dsimp only; split <;> simp
@[simp] theorem State.advanceBlock_lines (s : State) (r : Run) (b : Bool) : (State.advanceBlock r b s).lines = s.lines := by
  unfold State.advanceBlock; dsimp only; split <;> simp
@[simp] theorem State.advanceBlock_totalizers (s : State) (r : Run) (b : Bool) : (State.advanceBlock r b s).totalizers = s.totalizers := by
  unfold State.advanceBlock; dsimp only; split <;> simp
@[simp] theorem State.advanceBlock_curves (s : State) (r : Run) (b : Bool) : (State.advanceBlock r b s).curves = s.curves := by
  unfold State.advanceBlock; dsimp only; split <;> simp
@[simp] theorem State.advanceBlock_queue (s : State) (r : Run) (b : Bool) : (State.advanceBlock r b s).queue = s.queue := by
  unfold State.advanceBlock; dsimp only; split <;> simp
@[simp] theorem State.advanceBlock_batch (s : State) (r : Run) (b : Bool) : (State.advanceBlock r b s).batch = s.batch := by
  unfold State.advanceBlock; dsimp only; split <;> simp
@[simp] theorem State.advanceBlock_batchSeq (s : State) (r : Run) (b : Bool) : (State.advanceBlock r b s).batchSeq = s.batchSeq := by
  unfold State.advanceBlock; dsimp only; split <;> simp
@[simp] theorem State.advanceBlock_history (s : State) (r : Run) (b : Bool) : (State.advanceBlock r b s).history = s.history := by
  unfold State.advanceBlock; dsimp only; split <;> simp
@[simp] theorem State.advanceBlock_prover (s : State) (r : Run) (b : Bool) : (State.advanceBlock r b s).prover = s.prover := by
  unfold State.advanceBlock; dsimp only; split <;> simp
@[simp] theorem State.advanceBlock_control (s : State) (r : Run) (b : Bool) : (State.advanceBlock r b s).control = s.control := by
  unfold State.advanceBlock; dsimp only; split <;> simp
@[simp] theorem State.advanceBlock_sampler (s : State) (r : Run) (b : Bool) : (State.advanceBlock r b s).sampler = s.sampler := by
  unfold State.advanceBlock; dsimp only; split <;> simp
@[simp] theorem State.advanceBlock_store (s : State) (r : Run) (b : Bool) : (State.advanceBlock r b s).store = s.store := by
  unfold State.advanceBlock; dsimp only; split <;> simp
@[simp] theorem State.advanceBlock_freeIndex (s : State) (r : Run) (b : Bool) : (State.advanceBlock r b s).freeIndex = s.freeIndex := by
  unfold State.advanceBlock; dsimp only; split <;> simp
@[simp] theorem State.advanceBlock_pending (s : State) (r : Run) (b : Bool) : (State.advanceBlock r b s).pending = s.pending := by
  unfold State.advanceBlock; dsimp only; split <;> simp

/-! ### setRunState -/

@[simp] theorem State.setRunState_tick (s : State) (r : Run) (x : RunState) : (State.setRunState r x s).tick = s.tick := by
  unfold State.setRunState; dsimp only; repeat' split
  all_goals simp
@[simp] theorem State.setRunState_nextSecond (s : State) (r : Run) (x : RunState) : (State.setRunState r x s).nextSecond = s.nextSecond := by
  unfold State.setRunState; dsimp only; repeat' split
  all_goals simp
@[simp] theorem State.setRunState_uptime (s : State) (r : Run) (x : RunState) : (State.setRunState r x s).uptime = s.uptime := by
  unfold State.setRunState; dsimp only; repeat' split
  all_goals simp
@[simp] theorem State.setRunState_stationTime (s : State) (r : Run) (x : RunState) : (State.setRunState r x s).stationTime = s.stationTime := by
  unfold State.setRunState; dsimp only; repeat' split
  all_goals simp
@[simp] theorem State.setRunState_stationSet (s : State) (r : Run) (x : RunState) : (State.setRunState r x s).stationSet = s.stationSet := by
  unfold State.setRunState; dsimp only; repeat' split
  all_goals simp
@[simp] theorem State.setRunState_lines (s : State) (r : Run) (x : RunState) : (State.setRunState r x s).lines = s.lines := by
  unfold State.setRunState; dsimp only; repeat' split
  all_goals simp
@[simp] theorem State.setRunState_totalizers (s : State) (r : Run) (x : RunState) : (State.setRunState r x s).totalizers = s.totalizers := by
  unfold State.setRunState; dsimp only; repeat' split
  all_goals simp
@[simp] theorem State.setRunState_curves (s : State) (r : Run) (x : RunState) : (State.setRunState r x s).curves = s.curves := by
  unfold State.setRunState; dsimp only; repeat' split
  all_goals simp
@[simp] theorem State.setRunState_queue (s : State) (r : Run) (x : RunState) : (State.setRunState r x s).queue = s.queue := by
  unfold State.setRunState; dsimp only; repeat' split
  all_goals simp
@[simp] theorem State.setRunState_batchSeq (s : State) (r : Run) (x : RunState) : (State.setRunState r x s).batchSeq = s.batchSeq := by
  unfold State.setRunState; dsimp only; repeat' split
  all_goals simp
@[simp] theorem State.setRunState_history (s : State) (r : Run) (x : RunState) : (State.setRunState r x s).history = s.history := by
  unfold State.setRunState; dsimp only; repeat' split
  all_goals simp
@[simp] theorem State.setRunState_sampler (s : State) (r : Run) (x : RunState) : (State.setRunState r x s).sampler = s.sampler := by
  unfold State.setRunState; dsimp only; repeat' split
  all_goals simp
@[simp] theorem State.setRunState_store (s : State) (r : Run) (x : RunState) : (State.setRunState r x s).store = s.store := by
  unfold State.setRunState; dsimp only; repeat' split
  all_goals simp
@[simp] theorem State.setRunState_freeIndex (s : State) (r : Run) (x : RunState) : (State.setRunState r x s).freeIndex = s.freeIndex := by
  unfold State.setRunState; dsimp only; repeat' split
  all_goals simp
@[simp] theorem State.setRunState_pending (s : State) (r : Run) (x : RunState) : (State.setRunState r x s).pending = s.pending := by
  unfold State.setRunState; dsimp only; repeat' split
  all_goals simp

/-! ### countCycle -/

@[simp] theorem State.countCycle_tick (s : State) (r : Run) (c : CycleClass) (t : Tick) : (State.countCycle r c t s).tick = s.tick := by
  unfold State.countCycle; dsimp only; repeat' split
  all_goals simp
@[simp] theorem State.countCycle_nextSecond (s : State) (r : Run) (c : CycleClass) (t : Tick) : (State.countCycle r c t s).nextSecond = s.nextSecond := by
  unfold State.countCycle; dsimp only; repeat' split
  all_goals simp
@[simp] theorem State.countCycle_uptime (s : State) (r : Run) (c : CycleClass) (t : Tick) : (State.countCycle r c t s).uptime = s.uptime := by
  unfold State.countCycle; dsimp only; repeat' split
  all_goals simp
@[simp] theorem State.countCycle_stationTime (s : State) (r : Run) (c : CycleClass) (t : Tick) : (State.countCycle r c t s).stationTime = s.stationTime := by
  unfold State.countCycle; dsimp only; repeat' split
  all_goals simp
@[simp] theorem State.countCycle_stationSet (s : State) (r : Run) (c : CycleClass) (t : Tick) : (State.countCycle r c t s).stationSet = s.stationSet := by
  unfold State.countCycle; dsimp only; repeat' split
  all_goals simp
@[simp] theorem State.countCycle_lines (s : State) (r : Run) (c : CycleClass) (t : Tick) : (State.countCycle r c t s).lines = s.lines := by
  unfold State.countCycle; dsimp only; repeat' split
  all_goals simp
@[simp] theorem State.countCycle_totalizers (s : State) (r : Run) (c : CycleClass) (t : Tick) : (State.countCycle r c t s).totalizers = s.totalizers := by
  unfold State.countCycle; dsimp only; repeat' split
  all_goals simp
@[simp] theorem State.countCycle_curves (s : State) (r : Run) (c : CycleClass) (t : Tick) : (State.countCycle r c t s).curves = s.curves := by
  unfold State.countCycle; dsimp only; repeat' split
  all_goals simp
@[simp] theorem State.countCycle_queue (s : State) (r : Run) (c : CycleClass) (t : Tick) : (State.countCycle r c t s).queue = s.queue := by
  unfold State.countCycle; dsimp only; repeat' split
  all_goals simp
@[simp] theorem State.countCycle_batchSeq (s : State) (r : Run) (c : CycleClass) (t : Tick) : (State.countCycle r c t s).batchSeq = s.batchSeq := by
  unfold State.countCycle; dsimp only; repeat' split
  all_goals simp
@[simp] theorem State.countCycle_history (s : State) (r : Run) (c : CycleClass) (t : Tick) : (State.countCycle r c t s).history = s.history := by
  unfold State.countCycle; dsimp only; repeat' split
  all_goals simp
@[simp] theorem State.countCycle_sampler (s : State) (r : Run) (c : CycleClass) (t : Tick) : (State.countCycle r c t s).sampler = s.sampler := by
  unfold State.countCycle; dsimp only; repeat' split
  all_goals simp
@[simp] theorem State.countCycle_store (s : State) (r : Run) (c : CycleClass) (t : Tick) : (State.countCycle r c t s).store = s.store := by
  unfold State.countCycle; dsimp only; repeat' split
  all_goals simp
@[simp] theorem State.countCycle_freeIndex (s : State) (r : Run) (c : CycleClass) (t : Tick) : (State.countCycle r c t s).freeIndex = s.freeIndex := by
  unfold State.countCycle; dsimp only; repeat' split
  all_goals simp
@[simp] theorem State.countCycle_pending (s : State) (r : Run) (c : CycleClass) (t : Tick) : (State.countCycle r c t s).pending = s.pending := by
  unfold State.countCycle; dsimp only; repeat' split
  all_goals simp

/-! ### closeWindow -/

@[simp] theorem State.closeWindow_tick (s : State) (r : Run) : (State.closeWindow r s).tick = s.tick := by
  simp [State.closeWindow]
@[simp] theorem State.closeWindow_nextSecond (s : State) (r : Run) : (State.closeWindow r s).nextSecond = s.nextSecond := by
  simp [State.closeWindow]
@[simp] theorem State.closeWindow_uptime (s : State) (r : Run) : (State.closeWindow r s).uptime = s.uptime := by
  simp [State.closeWindow]
@[simp] theorem State.closeWindow_stationTime (s : State) (r : Run) : (State.closeWindow r s).stationTime = s.stationTime := by
  simp [State.closeWindow]
@[simp] theorem State.closeWindow_stationSet (s : State) (r : Run) : (State.closeWindow r s).stationSet = s.stationSet := by
  simp [State.closeWindow]
@[simp] theorem State.closeWindow_lines (s : State) (r : Run) : (State.closeWindow r s).lines = s.lines := by
  simp [State.closeWindow]
@[simp] theorem State.closeWindow_curves (s : State) (r : Run) : (State.closeWindow r s).curves = s.curves := by
  simp [State.closeWindow]
@[simp] theorem State.closeWindow_freeIndex (s : State) (r : Run) : (State.closeWindow r s).freeIndex = s.freeIndex := by
  simp [State.closeWindow]
@[simp] theorem State.closeWindow_pending (s : State) (r : Run) : (State.closeWindow r s).pending = s.pending := by
  simp [State.closeWindow]

end Sys2Proof.Machine
end

