-- ==== Sys2Proof/Laws/Request.lean ====
section
/-! SUPPORT. What ending a transaction and taking a request do (R163, R166, R168, R169). -/

namespace Sys2Proof.Machine

theorem State.respond_get_self (p : Port) (echo : Byte) (a : Answer) (s : State) :
    (s.respond p echo a).ports.get p = { s.ports.get p with
      transaction := .idle, sdo := none, selectSeenHigh := true, response := ⟨a.status, echo, a.data⟩ } := by
  simp [State.respond]

theorem State.respond_get_ne {p q : Port} (echo : Byte) (a : Answer) (s : State) (h : q ≠ p) :
    (s.respond p echo a).ports.get q = s.ports.get q := by
  simp [State.respond, h]

/-- A response changes nothing but its port and that port's select pin. -/
theorem State.respond_frame (p : Port) (echo : Byte) (a : Answer) (s : State) :
    s.respond p echo a = { s with lines := (s.respond p echo a).lines, ports := (s.respond p echo a).ports } := rfl

@[simp] theorem State.respond_events (p q : Port) (echo : Byte) (a : Answer) (s : State) :
    ((s.respond p echo a).ports.get q).events = (s.ports.get q).events := by
  by_cases h : q = p
  · subst h; simp [State.respond_get_self]
  · simp [State.respond_get_ne, h]

@[simp] theorem State.respond_threshold (p q : Port) (echo : Byte) (a : Answer) (s : State) :
    ((s.respond p echo a).ports.get q).threshold = (s.ports.get q).threshold := by
  by_cases h : q = p
  · subst h; simp [State.respond_get_self]
  · simp [State.respond_get_ne, h]

@[simp] theorem State.respond_alertLow (p q : Port) (echo : Byte) (a : Answer) (s : State) :
    ((s.respond p echo a).ports.get q).alertLow = (s.ports.get q).alertLow := by
  by_cases h : q = p
  · subst h; simp [State.respond_get_self]
  · simp [State.respond_get_ne, h]

/-- The four ways a well-formed request of the catalogue is decided (R169). -/
theorem takeRequest_cases (p : Port) (row : CatalogueRow) (args : List Byte) (body : State → State × Answer) (s : State) :
    (s.isRestoring = true ∧ takeRequest p row args body s = s.respond p row.code (.refuse .starting)) ∨
    (s.isRestoring = false ∧ row.ports.has p = false ∧
      takeRequest p row args body s = s.respond p row.code (.refuse .notPermitted)) ∨
    (s.isRestoring = false ∧ row.ports.has p = true ∧ (∃ n, row.length = some n ∧ n ≠ args.length) ∧
      takeRequest p row args body s = s.respond p row.code (.refuse .badArgument)) ∨
    (s.isRestoring = false ∧ row.ports.has p = true ∧ (∀ n, row.length = some n → n = args.length) ∧
      takeRequest p row args body s = (body s).1.respond p row.code (body s).2) := by
  unfold takeRequest refusalBefore
  cases h1 : s.isRestoring
  · cases h2 : row.ports.has p
    · simp
    · cases h3 : row.length with
      | none => simp
      | some n =>
        by_cases h4 : n = args.length
        · simp [h4]
        · simp [h4]
  · simp

/-- A request that passes the checks is decided by its own rule. -/
theorem takeRequest_accepted (p : Port) (row : CatalogueRow) (args : List Byte) (body : State → State × Answer) (s : State)
    (h1 : s.isRestoring = false) (h2 : row.ports.has p = true) (h3 : ∀ n, row.length = some n → n = args.length) :
    takeRequest p row args body s = (body s).1.respond p row.code (body s).2 := by
  rcases takeRequest_cases p row args body s with h | h | h | h
  · simp [h1] at h
  · simp [h2] at h
  · obtain ⟨-, -, ⟨n, hn, hne⟩, -⟩ := h
    exact absurd (h3 n hn) hne
  · exact h.2.2.2

/-- The same for a catalogue row whose length is written out. -/
theorem takeRequest_decided (p : Port) (row : CatalogueRow) (args : List Byte) (body : State → State × Answer) (s : State)
    (h1 : s.isRestoring = false) (h2 : row.ports.has p = true) (h3 : row.length = none ∨ row.length = some args.length) :
    takeRequest p row args body s = (body s).1.respond p row.code (body s).2 := by
  apply takeRequest_accepted _ _ _ _ _ h1 h2
  intro n hn
  rcases h3 with h | h
  · rw [h] at hn; cases hn
  · rw [h] at hn; exact (Option.some.inj hn).symm

end Sys2Proof.Machine
end

