-- ==== Sys2Proof/Laws/Operations.lean ====
section
/-! SUPPORT. What the shared operations can do, each said once: clamping, the full indication, grabs, the write queue, the run
state, aborts and ends of a session, the end of a cycle, the order of the commands of one tick. -/

namespace Sys2Proof.Machine

/-! ### Clamping, and changes of the same run -/

theorem clamp_eq {low high : Nat} (x : Nat) (h : low ≤ high) : clamp low high x = max low (min x high) := by
  unfold clamp; split
  · omega
  · split <;> omega

theorem State.raiseIf_setChannel (b : Bool) (c : EventClass) (s : State) (r : Run) (x : Channel) :
    (s.raiseIf b c).setChannel r x = State.raiseIf b c (s.setChannel r x) := by cases b <;> rfl

/-! ### The sampler -/

theorem State.evaluateFull_sampler (s : State) :
    s.evaluateFull.sampler = { s.sampler with full := s.sampler.isFull } := by
  simp [State.evaluateFull]

/-- The full indication evaluated afresh changes that indication alone, and raises SAMPLER if it changed (R152). -/
theorem State.evaluateFull_eq (s : State) :
    s.evaluateFull = State.raiseIf (s.sampler.isFull != s.sampler.full) .sampler
      { s with sampler := { s.sampler with full := s.sampler.isFull } } := rfl

/-- The five dispositions of a grab that falls due (R151). -/
theorem State.disposeGrab_cases (s : State) :
    let x := s.sampler
    (x.hold = true ∧ s.disposeGrab =
      State.raise .sampler (s.setSampler { x with counts := { x.counts with hold := x.counts.hold + 1 } })) ∨
    (x.hold = false ∧ x.full = true ∧ s.disposeGrab =
      State.raise .sampler (s.setSampler { x with counts := { x.counts with full := x.counts.full + 1 } })) ∨
    (x.hold = false ∧ x.full = false ∧ x.output = .idle ∧ s.disposeGrab = s.issueGrab .own) ∨
    (x.hold = false ∧ x.full = false ∧ x.output ≠ .idle ∧ x.pendingGrabs.length < 4 ∧ s.disposeGrab =
      State.evaluateFull (s.setSampler { x with pendingGrabs := x.pendingGrabs ++ [.own] })) ∨
    (x.hold = false ∧ x.full = false ∧ x.output ≠ .idle ∧ 4 ≤ x.pendingGrabs.length ∧ s.disposeGrab =
      State.raise .sampler (s.setSampler { x with counts := { x.counts with overflow := x.counts.overflow + 1 } })) := by
  unfold State.disposeGrab
  by_cases h1 : s.sampler.hold = true
  · simp [h1]
  · by_cases h2 : s.sampler.full = true
    · simp [h1, h2]
    · by_cases h3 : s.sampler.output = .idle
      · simp [h1, h2, h3]
      · by_cases h4 : s.sampler.pendingGrabs.length < 4
        · simp [h1, h2, h3, h4]
        · simp [h1, h2, h3, h4]; omega

/-- A grab that is disposed of leaves the setup and A (R151). -/
@[simp] theorem State.disposeGrab_volume (s : State) : s.disposeGrab.sampler.volume = s.sampler.volume := by
  obtain ⟨_, h⟩ | ⟨_, _, h⟩ | ⟨_, _, _, h⟩ | ⟨_, _, _, _, h⟩ | ⟨_, _, _, _, h⟩ := s.disposeGrab_cases <;>
    simp [h, State.issueGrab, State.evaluateFull_sampler]

@[simp] theorem State.dueGrab_volume (g : Nat) (s : State) :
    (State.dueGrab g s).sampler.volume = s.sampler.volume - g := by
  simp only [State.dueGrab]; split <;> simp

/-- However many grabs fall due, what stays in A is the remainder of the sum by G (R150). -/
theorem State.dueGrabs_volume (g n : Nat) (s : State) (h : s.sampler.volume < (n + 1) * g) :
    (State.dueGrabs g n s).sampler.volume = s.sampler.volume % g := by
  induction n generalizing s with
  | zero => simp [State.dueGrabs, Nat.mod_eq_of_lt (by simpa using h)]
  | succ n ih =>
    unfold State.dueGrabs
    split
    · rename_i low
      rw [ih _ (by rw [State.dueGrab_volume]; rw [Nat.succ_mul] at h; omega), State.dueGrab_volume, Nat.mod_eq_sub_mod low]
    · rw [Nat.mod_eq_of_lt (by omega)]

/-! ### Reported lines -/

/-- A report leaves a line or makes it one known to carry the new level (R5; log entry 6). -/
theorem Line.report_cases (l : Line) (was now : Bool) :
    (l.settled = true ∧ (now = was ∨ l.seen = some now) ∧ l.report was now = l) ∨
      (¬ (l.settled = true ∧ (now = was ∨ l.seen = some now)) ∧ l.report was now = .accepted now) := by
  unfold Line.report; split
  · rename_i h; exact .inl ⟨h.1, h.2, rfl⟩
  · rename_i h; exact .inr ⟨h, rfl⟩

/-! ### The write queue -/

/-- A job that begins stays in the queue (R186). -/
@[simp] theorem State.beginJob_store_queue (s : State) : s.beginJob.store.queue = s.store.queue := by
  unfold State.beginJob; dsimp only; repeat' split
  all_goals simp_all

@[simp] theorem State.beginJob_store_powerFail (s : State) : s.beginJob.store.powerFail = s.store.powerFail := by
  unfold State.beginJob; dsimp only; repeat' split
  all_goals simp

@[simp] theorem State.beginJob_store_pfailActive (s : State) : s.beginJob.store.pfailActive = s.store.pfailActive := by
  unfold State.beginJob; dsimp only; repeat' split
  all_goals simp

/-- A job that joins stands at the tail (R186). -/
@[simp] theorem State.joinQueue_store_queue (j : Job) (s : State) :
    (s.joinQueue j).store.queue = s.store.queue ++ [j] := by
  unfold State.joinQueue; dsimp only; split <;> simp

/-- What the oldest job does when it begins: the store is WRITING it, or READY with none (R184 to R187). -/
theorem State.beginJob_status (s : State) :
    (s.store.queue = [] → s.beginJob = s.setStore { s.store with status := .ready, writing := none }) ∧
    (s.store.queue ≠ [] → s.beginJob.store.status = .writing ∧ s.beginJob.store.writing.isSome) := by
  unfold State.beginJob
  dsimp only
  split
  · rename_i h; simp [h]
  · rename_i h; simp [h]
  · rename_i h; simp [h]
  · rename_i h; simp only [h]; split <;> simp

/-! ### Sessions -/

/-- A result that is offered leaves the session (R125). -/
theorem State.offerResult_session (s : State) (r : Run) (x : ProvingResult) :
    (State.offerResult r x s).1.prover.session = s.prover.session := by
  obtain h | h | ⟨_, _, _, h⟩ := s.offerResult_cases r x <;> simp [h, State.setResult]

/-- The end of a session sets its state and leaves its passes and figures (R124). -/
theorem State.endSession_session (e : SessionState) (a : AbortReason) (m f : Nat) (s : State) :
    (s.endSession e a m f).prover.session = { s.prover.session with state := e } := by
  unfold State.endSession
  dsimp only
  split
  · simp
  · by_cases h : e = .resultPass
    · simp only [h, if_true, true_and]
      split <;> simp [State.offerResult_session, State.setResult]
    · simp [h, State.setResult]

/-- An abort ends an active session RESULT_ABORTED, and does nothing with none active (R119 to R124). -/
theorem State.abortSession_session (a : AbortReason) (s : State) :
    (s.prover.session.state.isActive = false → s.abortSession a = s) ∧
    (s.prover.session.state.isActive = true → (s.abortSession a).prover.session.state = .resultAborted) := by
  unfold State.abortSession
  dsimp only
  split
  iterate 3
    rename_i h
    simp [h, SessionState.isActive, State.endSession_session]
  · rename_i h1 h2 h3
    cases h : s.prover.session.state <;> simp_all [SessionState.isActive]

/-- A run state that is set anew raises RUN_STATE, and aborts the session that holds the run when it leaves FLOWING (R17,
R120). -/
theorem State.setRunState_cases (r : Run) (x : RunState) (s : State) :
    let c := s.channels.get r
    let t := State.raise .runState (s.setChannel r { c with runState := x })
    (c.runState = x ∧ s.setRunState r x = s) ∨
    (c.runState ≠ x ∧ c.runState = .flowing ∧ t.prover.session.holds r = true ∧
      s.setRunState r x = t.abortSession .runStopped) ∨
    (c.runState ≠ x ∧ ¬ (c.runState = .flowing ∧ t.prover.session.holds r = true) ∧ s.setRunState r x = t) := by
  dsimp only
  unfold State.setRunState
  by_cases h : (s.channels.get r).runState = x
  · simp [h]
  · dsimp only
    simp only [h, if_false]
    split
    · rename_i h2; exact .inr (.inl ⟨h, h2.1, h2.2, rfl⟩)
    · rename_i h2; exact .inr (.inr ⟨h, h2, rfl⟩)

/-! ### Cycles -/

/-- An edge event that takes the pair of an open cycle back to 00 counts the cycle, classified by its path and its double
steps, with its stamp (R6, R7). -/
theorem execEdgeEvent_return (r : Run) (tick stamp : Tick) (path : List Pair) (d : Bool) (s : State)
    (hp : (s.channels.get r).pair ≠ .zero) (ht : (s.channels.get r).tracking = .inCycle stamp path d) :
    execEdgeEvent r false false tick s = .next (State.countCycle r
      (classify path (d || ((s.channels.get r).pair.a && (s.channels.get r).pair.b))) stamp
      ((s.setLines (s.lines.setPulses r (s.channels.get r).pair .zero)).setChannel r
        { s.channels.get r with pair := .zero, tracking := .outside })) := by
  simp only [execEdgeEvent]
  rw [if_neg (show ¬ (⟨false, false⟩ : Pair) = (s.channels.get r).pair from fun h => hp h.symm), ht]
  simp only [Tracking.edge, show (⟨false, false⟩ : Pair) = .zero from rfl, if_true]
  simp

/-! ### The commands of one tick -/

/-- Put at a place, an element joins a list and nothing else changes but the order. -/
theorem putAt_perm {α : Type} (n : Nat) (x : α) (l : List α) : (putAt n x l).Perm (x :: l) := by
  induction l generalizing n with
  | nil => cases n <;> exact .refl _
  | cons y l ih =>
    cases n with
    | zero => exact .refl _
    | succ n => exact ((ih n).cons y).trans (.swap x y l)

/-- Whatever order the free values pick, exactly the events that are not empty join those placed before (log entry 4). -/
theorem interleave_perm (base : Nat) (events placed : List (List Instr)) :
    (interleave base events placed).Perm (events.filter (· ≠ []) ++ placed) := by
  induction events generalizing base placed with
  | nil => exact .refl _
  | cons e rest ih =>
    cases e with
    | nil => simpa [interleave] using ih base placed
    | cons c cs =>
      simp only [interleave]
      refine (ih _ _).trans (((putAt_perm _ _ _).append_left _).trans ?_)
      simp

end Sys2Proof.Machine
end

