-- ==== Sys2Proof/Laws/PerInstr.lean ====
section
/-! SUPPORT. What each command is as syntax: the frame written for a well-formed request command reads as that command,
and its arguments fit a frame; no other command travels as a frame. One lemma per command. -/

namespace Sys2Proof.Laws

/-- A well-formed command that travels as a frame is the one its port, code and arguments are read as (R164, R169), and its
arguments fit a frame. -/
def PortOfRequest.Statement (i : Instr) : Prop :=
  i.wellFormed = true → ∀ port code args, frameParts i = some (port, code, args) →
    requestOf port code args = i ∧ args.length ≤ maxArguments

/-- A command that is no request travels as no frame. -/
theorem PortOfRequest.of_none {i : Instr} (h : frameParts i = none) : PortOfRequest.Statement i := by
  intro _ port code args h2; rw [h] at h2; cases h2

/-- A request command whose code leads to it reads as itself. -/
theorem PortOfRequest.of_some {i : Instr} {p : Port} {c : Byte} {a : List Byte} (h : frameParts i = some (p, c, a))
    (hr : i.wellFormed = true → requestOf p c a = i) (hl : i.wellFormed = true → argsFit a = true) :
    PortOfRequest.Statement i := by
  intro hw port code args h2
  rw [h] at h2; cases h2
  exact ⟨hr hw, of_decide_eq_true (hl hw)⟩

theorem PortOfRequest.reset : Statement .reset := of_none rfl
theorem PortOfRequest.restoreComplete : Statement .restoreComplete := of_none rfl
theorem PortOfRequest.edgeEvent (run : Run) (a b : Bool) (tick : Tick) : Statement (.edgeEvent run a b tick) := of_none rfl
theorem PortOfRequest.integrityBlockEnd (run : Run) (isError : Bool) : Statement (.integrityBlockEnd run isError) := of_none rfl
theorem PortOfRequest.windowExpiry (run : Run) : Statement (.windowExpiry run) := of_none rfl
theorem PortOfRequest.pulseEnd : Statement .pulseEnd := of_none rfl
theorem PortOfRequest.gapEnd : Statement .gapEnd := of_none rfl
theorem PortOfRequest.rcvhiChange (level : Bool) : Statement (.rcvhiChange level) := of_none rfl
theorem PortOfRequest.oneSecondEvent : Statement .oneSecondEvent := of_none rfl
theorem PortOfRequest.proposalExpiry : Statement .proposalExpiry := of_none rfl
theorem PortOfRequest.noDetector : Statement .noDetector := of_none rfl
theorem PortOfRequest.periodicCheckpoint : Statement .periodicCheckpoint := of_none rfl
theorem PortOfRequest.detectorEvent (detector : Detector) (tick : Tick) : Statement (.detectorEvent detector tick) := of_none rfl
theorem PortOfRequest.passTimeout (tD1 : Tick) : Statement (.passTimeout tD1) := of_none rfl
theorem PortOfRequest.jobComplete : Statement .jobComplete := of_none rfl
theorem PortOfRequest.powerFailWarning : Statement .powerFailWarning := of_none rfl
theorem PortOfRequest.powerFailClear : Statement .powerFailClear := of_none rfl
theorem PortOfRequest.frameError (port : Port) (first : Option Byte) : Statement (.frameError port first) := of_none rfl
/-- A code outside the catalogue leads to no row of it (R169). -/
theorem requestOf_unknown (port : Port) (code : Byte) (h : Machine.Catalogue.holds code = false) :
    requestOf port code [] = .unknownRequest port code := by
  revert code; cases port <;> decide

theorem PortOfRequest.unknownRequest (port : Port) (code : Byte) : Statement (.unknownRequest port code) :=
  of_some rfl (fun h => requestOf_unknown port code (by simpa [Instr.wellFormed] using h)) (fun _ => rfl)
theorem PortOfRequest.nop (port : Port) (args : List Byte) : Statement (.nop port args) :=
  of_some rfl (fun _ => rfl) id
theorem PortOfRequest.identify (port : Port) (args : List Byte) : Statement (.identify port args) :=
  of_some rfl (fun _ => rfl) id
theorem PortOfRequest.readTime (port : Port) (args : List Byte) : Statement (.readTime port args) :=
  of_some rfl (fun _ => rfl) id
theorem PortOfRequest.readEvents (port : Port) (args : List Byte) : Statement (.readEvents port args) :=
  of_some rfl (fun _ => rfl) id
theorem PortOfRequest.topEvent (port : Port) (args : List Byte) : Statement (.topEvent port args) :=
  of_some rfl (fun _ => rfl) id
theorem PortOfRequest.clearEvents (port : Port) (args : List Byte) : Statement (.clearEvents port args) :=
  of_some rfl (fun _ => rfl) id
theorem PortOfRequest.setLevel (port : Port) (args : List Byte) : Statement (.setLevel port args) :=
  of_some rfl (fun _ => rfl) id
theorem PortOfRequest.setThreshold (port : Port) (args : List Byte) : Statement (.setThreshold port args) :=
  of_some rfl (fun _ => rfl) id
theorem PortOfRequest.readRun (port : Port) (args : List Byte) : Statement (.readRun port args) :=
  of_some rfl (fun _ => rfl) id
theorem PortOfRequest.readTotals (port : Port) (args : List Byte) : Statement (.readTotals port args) :=
  of_some rfl (fun _ => rfl) id
theorem PortOfRequest.readCurve (port : Port) (args : List Byte) : Statement (.readCurve port args) :=
  of_some rfl (fun _ => rfl) id
theorem PortOfRequest.runEnable (port : Port) (args : List Byte) : Statement (.runEnable port args) :=
  of_some rfl (fun h => by simp only [Instr.wellFormed, Bool.and_eq_true, Bool.not_eq_true'] at h; simp [requestOf, h.2])
    (fun h => by simp only [Instr.wellFormed, Bool.and_eq_true] at h; exact h.1)
theorem PortOfRequest.runEnableOff (port : Port) (run : Byte) : Statement (.runEnableOff port run) :=
  of_some rfl (fun _ => rfl) (fun _ => rfl)
theorem PortOfRequest.setCutoff (port : Port) (args : List Byte) : Statement (.setCutoff port args) :=
  of_some rfl (fun _ => rfl) id
theorem PortOfRequest.setIntegrityLimit (port : Port) (args : List Byte) : Statement (.setIntegrityLimit port args) :=
  of_some rfl (fun _ => rfl) id
theorem PortOfRequest.readBatch (port : Port) (args : List Byte) : Statement (.readBatch port args) :=
  of_some rfl (fun _ => rfl) id
theorem PortOfRequest.readQueue (port : Port) (args : List Byte) : Statement (.readQueue port args) :=
  of_some rfl (fun _ => rfl) id
theorem PortOfRequest.planAdd (port : Port) (args : List Byte) : Statement (.planAdd port args) :=
  of_some rfl (fun _ => rfl) id
theorem PortOfRequest.planRemove (port : Port) (args : List Byte) : Statement (.planRemove port args) :=
  of_some rfl (fun _ => rfl) id
theorem PortOfRequest.planClear (port : Port) (args : List Byte) : Statement (.planClear port args) :=
  of_some rfl (fun _ => rfl) id
theorem PortOfRequest.batchOpen (port : Port) (args : List Byte) : Statement (.batchOpen port args) :=
  of_some rfl (fun _ => rfl) id
theorem PortOfRequest.batchClose (port : Port) (args : List Byte) : Statement (.batchClose port args) :=
  of_some rfl (fun _ => rfl) id
theorem PortOfRequest.readRecord (port : Port) (args : List Byte) : Statement (.readRecord port args) :=
  of_some rfl (fun _ => rfl) id
theorem PortOfRequest.findParcel (port : Port) (args : List Byte) : Statement (.findParcel port args) :=
  of_some rfl (fun _ => rfl) id
theorem PortOfRequest.setCursor (port : Port) (args : List Byte) : Statement (.setCursor port args) :=
  of_some rfl (fun _ => rfl) id
theorem PortOfRequest.readProving (port : Port) (args : List Byte) : Statement (.readProving port args) :=
  of_some rfl (fun _ => rfl) id
theorem PortOfRequest.readPass (port : Port) (args : List Byte) : Statement (.readPass port args) :=
  of_some rfl (fun _ => rfl) id
theorem PortOfRequest.proveStart (port : Port) (args : List Byte) : Statement (.proveStart port args) :=
  of_some rfl (fun _ => rfl) id
theorem PortOfRequest.proveAbort (port : Port) (args : List Byte) : Statement (.proveAbort port args) :=
  of_some rfl (fun _ => rfl) id
theorem PortOfRequest.provePost (port : Port) (args : List Byte) : Statement (.provePost port args) :=
  of_some rfl (fun _ => rfl) id
theorem PortOfRequest.readProposal (port : Port) (args : List Byte) : Statement (.readProposal port args) :=
  of_some rfl (fun _ => rfl) id
theorem PortOfRequest.propose (port : Port) (args : List Byte) : Statement (.propose port args) :=
  of_some rfl (fun _ => rfl) id
theorem PortOfRequest.concur (port : Port) (args : List Byte) : Statement (.concur port args) :=
  of_some rfl (fun _ => rfl) id
theorem PortOfRequest.reject (port : Port) (args : List Byte) : Statement (.reject port args) :=
  of_some rfl (fun _ => rfl) id
theorem PortOfRequest.withdraw (port : Port) (args : List Byte) : Statement (.withdraw port args) :=
  of_some rfl (fun _ => rfl) id
theorem PortOfRequest.readSampler (port : Port) (args : List Byte) : Statement (.readSampler port args) :=
  of_some rfl (fun _ => rfl) id
theorem PortOfRequest.samplerHold (port : Port) (args : List Byte) : Statement (.samplerHold port args) :=
  of_some rfl (fun _ => rfl) id
theorem PortOfRequest.samplerOutput (port : Port) (args : List Byte) : Statement (.samplerOutput port args) :=
  of_some rfl (fun _ => rfl) id
theorem PortOfRequest.receiverSwap (port : Port) (args : List Byte) : Statement (.receiverSwap port args) :=
  of_some rfl (fun _ => rfl) id
theorem PortOfRequest.setTime (port : Port) (args : List Byte) : Statement (.setTime port args) :=
  of_some rfl (fun _ => rfl) id
theorem PortOfRequest.transactionBegin (port : Port) : Statement (.transactionBegin port) := of_none rfl
theorem PortOfRequest.sckEdge (port : Port) (edge : SckEdge) : Statement (.sckEdge port edge) := of_none rfl

end Sys2Proof.Laws
end

