-- ==== Sys2Proof/Tests/Slice0.lean ====
section
/-! SUPPORT. Tests of the model: the refusals of well-formedness, frames of the wire written out bit by bit, figures of
the manual's worked examples, and for every statement with hypotheses a state and operands that meet them. -/

namespace Sys2Proof.Tests

open Sys2Proof Sys2Proof.Machine

/-! ### Helper states -/

/-- A part after the restore of an empty store. -/
def live : State :=
  { State.reset with
    store := { Store.reset with status := .ready }
    sampler := { Sampler.reset with grabLine := some false } }

/-- Run 2 of the worked example before its first window (02, two windows on two runs). -/
def run2 : Totalizer :=
  { Totalizer.reset with
    kx := 420000, indicatedRemainder := 350000, grossRemainder := 0
    total := ⟨24022489884, 57196402115, 57204118330⟩, curveStatus := .inRange, lastMf := some 1000183 }

/-- Run 2's pulse front end, its history such that N = 63 makes the sum 627. -/
def front2 : Channel :=
  { Channel.reset 1250000 with
    history := [61, 63, 63, 63, 63, 62, 62, 62, 63, 63], freq := 625, runState := .flowing, window := ⟨63, .zero⟩ }

/-- The curve of run 2 in the worked example. -/
def curve2 : List CurvePoint := [⟨400, 1001200⟩, ⟨800, 999400⟩]

/-- A plan of run 2 alone. -/
def plan2 (parcel target preTarget : Nat) (mode : Mode) (count : Nat) : Plan :=
  ⟨parcel, 3, target, preTarget, 0b0010, mode, count⟩

/-- An open batch on run 2 that has taken 1 204 330 litres. -/
def loading2 (plan : Plan) (index remaining : Nat) : OpenBatch where
  plan := plan
  repeatIndex := index
  repeatsRemaining := remaining
  openTime := 0
  openTimeValid := false
  opening := .all .zero
  changeCountAtOpen := 0
  preceding := .all ⟨0, 0⟩
  acc := ⟨.zero, ⟨⟨⟨505818, 1204180, 1204330⟩, .zero⟩, 0, 0⟩, .zero, .zero⟩
  flags := ⟨false, false, false, false, false⟩
  runningGross := 1204330

/-- A record of a batch without figures. -/
def record (seq parcel : Nat) : BatchRecord where
  seq := seq
  parcel := parcel
  grade := 3
  mode := .single
  repeatIndex := 1
  cause := .requested
  flags := ⟨false, false, false, false, false⟩
  timeValid := false
  runSet := 0b0010
  openTime := 0
  closeTime := 0
  target := 0
  overshoot := 0
  changesOpen := 0
  changesClose := 0
  grabs := .zero
  pendingGrabs := 0
  fill := 0
  runs := .all ⟨.zero, 0, ⟨0, 0⟩, .zero, 0, 0, .zero, .zero⟩

/-- A session on run 2 as PROVE_START(2, 5, 8, 50, 1) leaves it. -/
def session2 : Session :=
  { Session.reset with state := .waitDet1, run := some .run2, p := 5, m := 8, l := 50, post := true }

/-- An OPEN proposal. -/
def proposal (id : Nat) (change : Change) (originator : Originator) (opr wit : Verdict) : Proposal where
  id := id
  change := change
  originator := originator
  created := 0
  oprVerdict := opr
  witVerdict := wit
  largeDeviation := false
  state := .opened
  ended := 0

/-- A part at work: run 2 FLOWING in batch 7102, a plan queued, a record in the ring, a session waiting for DET1, a
proposal that the witness concurred in, the sampler set up. -/
def skid : State :=
  { live with
    channels := { live.channels with run2 := front2 }
    totalizers := { live.totalizers with run2 := run2 }
    curves := { live.curves with run2 := curve2 }
    queue := [plan2 7103 900 0 .single 1]
    batch := some (loading2 (plan2 7102 0 0 .single 1) 1 1)
    batchSeq := 6
    history := ⟨[⟨record 5 7101, .retained⟩], .all 5, .all 0⟩
    prover := { Prover.reset with session := session2, baseVolume := 250000 }
    control := ⟨[some (proposal 215 (.mfPoint .run2 627 998546) .prover .none .concur), none, none, none, none, none], 216, 57⟩
    sampler := { Sampler.reset with setup := some ⟨1000, 10, 1000⟩, volume := 100, grabLine := some false } }

/-! ### The part at work meets every invariant -/

theorem witness_eventsLegal : skid.eventsLegal := by
  intro p
  refine ⟨fun c => ?_, by cases p <;> decide, by cases p <;> decide, fun _ => ⟨.restarted, ?_⟩, fun _ => ?_⟩
  · cases p <;> cases c <;> exact ⟨by decide, by decide, by decide⟩
  · cases p <;> decide
  · cases p <;> rfl

/-- The store of a part at work holds no checkpoint. -/
theorem skid_checkpoints (P : CheckpointArea → Prop) : skid.store.everyCheckpoint P :=
  ⟨⟨fun m h => absurd (show none = some m from h) nofun, fun m h => absurd (show none = some m from h) nofun⟩,
    fun w _ _ h => absurd (show none = some w from h) nofun⟩

/-- Nor does it hold a parameter area. -/
theorem skid_parameters (P : ParameterArea → Prop) : skid.store.everyParameters P :=
  ⟨⟨fun m h => absurd (show none = some m from h) nofun, fun m h => absurd (show none = some m from h) nofun⟩,
    fun w _ _ h => absurd (show none = some w from h) nofun⟩

theorem witness_channelsLegal : skid.channelsLegal := by
  refine ⟨fun r => ?_, skid_checkpoints _⟩
  unfold Channel.legal FaultCounts.atMost
  cases r <;> decide

/-- A record of the ring, the slots, the queue or the job in progress of a part at work is the one in the ring. -/
theorem skid_everyRecord (P : BatchRecord → Prop) (h : P (record 5 7101)) : skid.everyRecord P := by
  refine ⟨fun e he => ?_, fun r hr => ?_, fun r hr => absurd (show Job.record r ∈ [] from hr) nofun,
    fun w _ hw => absurd (show none = some w from hw) nofun⟩
  · rcases List.mem_singleton.1 he with rfl; exact h
  · exact absurd (List.eq_of_mem_replicate hr) nofun

theorem zero_triple_below (n : Nat) (h : 0 < n) : Triple.below n .zero := ⟨h, h, h⟩

theorem zero_faults_atMost (n : Nat) : FaultCounts.atMost n .zero :=
  ⟨Nat.zero_le _, Nat.zero_le _, Nat.zero_le _, Nat.zero_le _, Nat.zero_le _⟩

theorem witness_totalsLegal : skid.totalsLegal := by
  refine ⟨fun r => ?_, fun r => by cases r <;> decide, fun b h => ?_, skid_checkpoints _,
    skid_everyRecord _ fun r => by cases r <;> exact zero_triple_below _ (by decide)⟩
  · cases r <;> exact ⟨⟨by decide, by decide, by decide⟩, zero_triple_below _ (by decide), ⟨by decide, by decide⟩,
      zero_triple_below _ (by decide), zero_faults_atMost _⟩
  · obtain rfl := Option.some.inj h
    exact ⟨fun r => by cases r <;>
      exact ⟨⟨⟨by decide, by decide, by decide⟩, zero_faults_atMost _⟩, by decide, by decide⟩,
      fun r => by cases r <;> decide, by decide⟩

theorem witness_custodyLegal : skid.custodyLegal := by
  refine ⟨⟨fun r => ?_, fun r => ?_, .inr ⟨by decide, by decide⟩, fun u h => ?_, by decide⟩, skid_parameters _,
    fun p h => ?_, fun r x h => ?_⟩
  · cases r <;> first | exact .inl rfl | exact .inr ⟨by decide, by decide⟩
  · cases r <;> refine ⟨by decide, by decide, fun p hp => ?_⟩
    · exact absurd (show p ∈ [] from hp) (List.not_mem_nil)
    · rcases List.mem_cons.1 hp with rfl | hp
      · exact ⟨by decide, by decide, by decide, by decide⟩
      · rcases List.mem_singleton.1 hp with rfl
        exact ⟨by decide, by decide, by decide, by decide⟩
    · exact absurd (show p ∈ [] from hp) (List.not_mem_nil)
    · exact absurd (show p ∈ [] from hp) (List.not_mem_nil)
  · obtain rfl := Option.some.inj h
    unfold SamplerSetup.legal
    decide
  · have : p = proposal 215 (.mfPoint .run2 627 998546) .prover .none .concur := by simpa [skid] using h
    subst this
    exact ⟨by decide, by decide, by decide, by decide⟩
  · exact absurd (show none = some x from by cases r <;> exact h) nofun

theorem plan2_legal (parcel target pre : Nat) (h1 : 1 ≤ parcel ∧ parcel ≤ max32) (h2 : target ≤ max32)
    (h3 : pre ≤ max32) : (plan2 parcel target pre .single 1).legal :=
  ⟨h1.1, h1.2, show 1 ≤ 3 by decide, show 3 ≤ 255 by decide, h2, h3, show (0b0010 : BitVec 4) ≠ 0 by decide,
    show 1 ≤ 1 by decide, show 1 ≤ 255 by decide, fun _ => rfl⟩

theorem witness_plansLegal : skid.plansLegal := by
  refine ⟨⟨by decide, by decide, fun p h => ?_, fun b h => ?_⟩, skid_checkpoints _⟩
  · rcases List.mem_singleton.1 h with rfl
    exact plan2_legal _ _ _ (by decide) (by decide) (by decide)
  · obtain rfl := Option.some.inj h
    exact ⟨plan2_legal _ _ _ (by decide) (by decide) (by decide), by decide, by decide, by decide, by decide⟩

theorem witness_historyLegal : skid.historyLegal := by
  refine ⟨by decide, by decide, by decide, fun p => .inl (by cases p <;> decide), fun p => by cases p <;> decide, by decide,
    fun i r h => ?_⟩
  have := List.mem_of_getElem? h
  exact absurd (List.eq_of_mem_replicate this) nofun

theorem witness_sessionLegal : skid.sessionLegal :=
  ⟨fun _ => by decide, by decide, by decide, fun y h => absurd (show y ∈ [] from h) nofun⟩

theorem witness_tableLegal : skid.tableLegal := by
  refine ⟨by decide, by decide, fun i h => ?_, ⟨by decide, by decide⟩, by decide, fun p h => ?_, skid_checkpoints _⟩
  · rcases List.mem_singleton.1 (show i ∈ [215] from h) with rfl
    exact ⟨by decide, by decide⟩
  · have : p = proposal 215 (.mfPoint .run2 627 998546) .prover .none .concur := by simpa [skid] using h
    subst this
    exact ⟨by decide, by decide, by decide, by decide⟩

theorem witness_samplerLegal : skid.samplerLegal := by
  refine ⟨by decide, fun u h => ?_, fun _ => by decide, by unfold GrabCounts.accounted; decide,
    fun h => absurd (show some _ = none from h) nofun, skid_checkpoints _,
    skid_everyRecord _ rfl⟩
  obtain rfl := Option.some.inj h
  decide

theorem witness_storeLegal : skid.storeLegal :=
  ⟨by decide, fun h => absurd (show StoreStatus.ready = .writing from h) nofun, fun _ => ⟨rfl, rfl⟩, by decide, by decide,
    by decide⟩

theorem witness_recordsLegal : skid.recordsLegal :=
  ⟨nofun, fun _ _ h => absurd (List.eq_of_mem_replicate h) nofun, fun r h => absurd (show Job.record r ∈ [] from h) nofun,
    fun w _ h => absurd (show none = some w from h) nofun⟩

/-- A step that the invariants speak of: PLAN_CLEAR in front of the part at work. -/
theorem witness_step : ∃ t, step { skid with pending := [.planClear .sup []] } = .next t ∧ t.queue = [] := ⟨_, rfl, rfl⟩

/-! ### Well-formedness (R164, R169, R20, R21) -/

theorem test_wellFormed_refuses_61_arguments : (Instr.nop .opr (List.replicate 61 0)).wellFormed = false := by decide

theorem test_wellFormed_takes_60_arguments : (Instr.nop .opr (List.replicate 60 0)).wellFormed = true := by decide

theorem test_wellFormed_refuses_enable_with_on_0 : (Instr.runEnable .sup [2, 0]).wellFormed = false := by decide

theorem test_wellFormed_refuses_unknown_request_in_catalogue :
    (Instr.unknownRequest .opr 0x48).wellFormed = false ∧ (Instr.unknownRequest .opr 0x49).wellFormed = true := by decide

theorem test_wellFormed_checks_arguments_of_every_request :
    let long := List.replicate 61 (0 : Byte)
    [Instr.identify .opr long, .readTime .opr long, .readEvents .opr long, .topEvent .opr long, .clearEvents .opr long,
      .setLevel .opr long, .setThreshold .opr long, .readRun .opr long, .readTotals .opr long, .readCurve .opr long,
      .runEnable .sup long, .setCutoff .sup long, .setIntegrityLimit .sup long, .readBatch .opr long, .readQueue .opr long,
      .planAdd .sup long, .planRemove .sup long, .planClear .sup long, .batchOpen .sup long, .batchClose .sup long,
      .readRecord .opr long, .findParcel .opr long, .setCursor .opr long, .readProving .opr long, .readPass .opr long,
      .proveStart .sup long, .proveAbort .sup long, .provePost .sup long, .readProposal .opr long, .propose .opr long,
      .concur .opr long, .reject .opr long, .withdraw .opr long, .readSampler .opr long, .samplerHold .sup long,
      .samplerOutput .sup long, .receiverSwap .sup long, .setTime .sup long].all (fun i => !i.wellFormed) = true := by
  decide

/-! ### Frames of the wire, bit by bit (R163, R164; 09, five transactions on OPR) -/

/-- Transaction 1: READ_TOTALS, L 2, run 2, scale 3. -/
theorem test_frame_read_totals : decodeFrame .opr
    (let two := [false, false, false, false, false, false, true, false]
     [false, false, false, true, false, false, false, true] ++ two ++ two ++ [false, false, false, false, false, false, true, true]) =
    .readTotals .opr [2, 3] := by decide

/-- Transaction 2: CONCUR, L 2, id 215 (00 D7), then fill bytes. -/
theorem test_frame_concur_with_fill : decodeBytes .opr ([0x3A, 2, 0x00, 0xD7] ++ List.replicate 28 0xFF) =
    .concur .opr [0x00, 0xD7] := by decide

/-- Transaction 4: 0x12, L 1, cut short. -/
theorem test_frame_cut_short : decodeBytes .opr [0x12, 1] = .frameError .opr (some 0x12) := by decide

/-- Transaction 5: NOP and a fill byte. -/
theorem test_frame_nop_with_fill : decodeBytes .opr [0x00, 0, 0xFF] = .nop .opr [] := by decide

/-- A fill byte that is not 0xFF, a length above 60, a bit too many, and no whole byte (R165). -/
theorem test_frames_malformed :
    decodeBytes .wit [0x00, 0, 0x7F] = .frameError .wit (some 0x00) ∧
    decodeBytes .wit ([0x39, 61] ++ List.replicate 61 0) = .frameError .wit (some 0x39) ∧
    decodeFrame .wit (bitsOfBytes [0x00, 0x00] ++ [true]) = .frameError .wit (some 0x00) ∧
    decodeFrame .wit [true, false, true] = .frameError .wit none ∧ decodeFrame .wit [] = .frameError .wit none := by decide

/-- One frame of every other family: the codes of the catalogue (the table before R173). -/
theorem test_frames_of_every_family :
    decodeBytes .sup [0x48, 4, 0x68, 0x00, 0x00, 0x01] = .setTime .sup [0x68, 0x00, 0x00, 0x01] ∧
    decodeBytes .sup [0x05, 2, 0x10, 0x00] = .clearEvents .sup [0x10, 0x00] ∧
    decodeBytes .sup [0x18, 2, 2, 1] = .runEnable .sup [2, 1] ∧
    decodeBytes .sup [0x18, 2, 2, 0] = .runEnableOff .sup 2 ∧
    decodeBytes .sup [0x25, 0] = .batchOpen .sup [] ∧
    decodeBytes .opr [0x28, 6, 0, 0, 0, 0, 4, 1] = .readRecord .opr [0, 0, 0, 0, 4, 1] ∧
    decodeBytes .sup [0x32, 6, 2, 5, 8, 0x00, 0x32, 1] = .proveStart .sup [2, 5, 8, 0x00, 0x32, 1] ∧
    decodeBytes .wit [0x39, 6, 0, 4, 0x00, 0x13, 0x10, 0x88] = .propose .wit [0, 4, 0x00, 0x13, 0x10, 0x88] ∧
    decodeBytes .sup [0x43, 0] = .receiverSwap .sup [] ∧
    decodeBytes .opr [0x08, 0] = .unknownRequest .opr 0x08 := by decide

/-- The catalogue holds 39 codes, each once. -/
theorem test_catalogue : Catalogue.rows.length = 39 ∧ (Catalogue.rows.map CatalogueRow.code).Nodup := by decide

/-- No row of the table gives bits. -/
theorem test_no_word_spells_a_command : decodeTableWord 8 0 = none ∧ State.reset.withFetchWord 8 0 = State.reset := by
  decide

/-! ### Worked examples of the manual -/

/-- The state after a command; reset where it is not a next state, which no test expects. -/
def after : Host.Outcome State Fault Refusal → State
  | .next t => t
  | _ => State.reset

/-- The response of a port after a command. -/
def reply (p : Port) (o : Host.Outcome State Fault Refusal) : Response := ((after o).ports.get p).response

/-- A run's class count in OPR's flags. -/
def flagged (c : EventClass) (s : State) : Bool × Nat := ((s.ports.opr.events.get c).flag, (s.ports.opr.events.get c).count)

/-- 02, first window of run 2: f 627, MF 1 000 178, dI 150, dG 150. -/
theorem test_window_of_run_2 :
    let t := after (exec (.windowExpiry .run2) skid)
    t.channels.run2.freq = 627 ∧ t.totalizers.run2.lastMf = some 1000178 ∧
    t.totalizers.run2.indicatedRemainder = 350000 ∧ t.totalizers.run2.grossRemainder = 11214000000 ∧
    t.totalizers.run2.total = ⟨24022489947, 57196402265, 57204118480⟩ ∧
    (t.batch.map OpenBatch.runningGross) = some 1204480 ∧ t.channels.run2.deadline = 2250000 := by decide

/-- 02, first window of run 4: above the curve, the gross total wraps. -/
theorem test_convert_of_run_4 :
    let points : List CurvePoint := [⟨1000, 999800⟩, ⟨3000, 1000300⟩, ⟨5000, 1000100⟩]
    let t : Totalizer := { Totalizer.reset with
      kx := 1250000, indicatedRemainder := 1000000, grossRemainder := 600000000000
      total := ⟨412345678900, 999999998000, 999999999800⟩, rollover := ⟨0, 0, 3⟩ }
    lookupCurve points 5012 = (1000100, .aboveCurve) ∧ lookupCurve points 4998 = (1000100, .inRange) ∧
    (t.convert 501 1000100).1 = ⟨501, 401, 401⟩ ∧ (t.convert 501 1000100).2.indicatedRemainder = 750000 ∧
    (t.convert 501 1000100).2.grossRemainder = 400100000000 ∧
    wrapTotal 999999999800 401 = 201 ∧ rollCount 3 999999999800 401 = 4 := by decide

/-- 02 and 03: lookups between two points, a half carried away from zero, and a changed curve. -/
theorem test_lookups :
    lookupCurve curve2 627 = (1000178, .inRange) ∧ lookupCurve curve2 626 = (1000183, .inRange) ∧
    lookupCurve [⟨400, 1001200⟩, ⟨790, 999600⟩] 626 = (1000273, .inRange) ∧
    lookupCurve [⟨400, 1001200⟩, ⟨627, 998546⟩, ⟨800, 999400⟩] 626 = (998558, .inRange) := by decide

/-- 03, building a curve: steps 3, 6, 7 and 8, and the deviation test. -/
theorem test_curve_changes :
    applyPoint ⟨1520, 1000410⟩ [⟨1500, 1000450⟩, ⟨3000, 999900⟩] = .ok [⟨1520, 1000410⟩, ⟨3000, 999900⟩] ∧
    applyPoint ⟨2040, 1000120⟩ [⟨1520, 1000410⟩, ⟨2000, 1000150⟩, ⟨2080, 1000060⟩, ⟨3000, 999900⟩] =
      .ok [⟨1520, 1000410⟩, ⟨2040, 1000120⟩, ⟨2080, 1000060⟩, ⟨3000, 999900⟩] ∧
    deletePoint 2000 [⟨1520, 1000410⟩, ⟨2040, 1000120⟩] = .error .noPoint ∧
    deletePoint 2040 [⟨1520, 1000410⟩, ⟨2040, 1000120⟩] = .ok [⟨1520, 1000410⟩] ∧
    inBand 2080 2039 = true ∧ inBand 2080 2038 = false ∧
    deviatesLargely curve2 627 998546 = false ∧ deviatesLargely [⟨400, 1001200⟩] 627 998546 = true := by decide

/-- 01, a disturbed stretch: the six classes. -/
theorem test_classes :
    classify [⟨true, false⟩, ⟨true, true⟩, ⟨false, true⟩] false = .forwardGood ∧
    classify [⟨true, false⟩] false = .bMissing ∧ classify [⟨true, true⟩, ⟨false, true⟩] true = .coincident ∧
    classify [⟨true, false⟩, ⟨true, true⟩, ⟨true, false⟩] false = .incomplete ∧
    classify [⟨false, true⟩, ⟨true, true⟩, ⟨true, false⟩] false = .reverseGood ∧
    classify [⟨false, true⟩] false = .aMissing := by decide

/-- Run 2 in a reverse cycle at its last edge (01, tick 7 400). -/
def reversing : State :=
  skid.setChannel .run2 { front2 with
    pair := ⟨true, false⟩, tracking := .inCycle 6200 [⟨false, true⟩, ⟨true, true⟩, ⟨true, false⟩] false }

theorem test_reverse_cycle :
    let t := after (exec (.edgeEvent .run2 false false 7400) reversing)
    t.channels.run2.window = ⟨63, ⟨1, 0, 0, 0, 0⟩⟩ ∧ t.channels.run2.direction = .reverse ∧
    t.channels.run2.blockCycles = 1 ∧ t.channels.run2.blockErrors = 0 ∧ flagged .reverse t = (true, 1) := by decide

/-- 01, integrity block: the 1000th cycle is the 11th error with E = 10. -/
def blockFull : State := skid.setChannel .run2 { front2 with blockCycles := 999, blockErrors := 10 }

theorem test_integrity_block_end :
    let t := after (exec (.integrityBlockEnd .run2 true) blockFull)
    t.channels.run2.degraded = true ∧ t.channels.run2.blockCycles = 0 ∧ flagged .integrity t = (true, 1) := by decide

/-- 01, run 2 is disabled in a window. -/
theorem test_disable :
    let t := after (exec (.runEnableOff .sup 2) skid)
    t.channels.run2.runState = .offline ∧ t.channels.run2.history = [] ∧
    t.totalizers.run2.total.pulses = 24022489947 ∧ flagged .runState t = (true, 1) := by decide

/-- 06, pass 2: the stop pulse's stamp 201 678 550. -/
def stopping : State :=
  { (skid.setChannel .run2 { front2 with
      pair := ⟨false, true⟩
      tracking := .inCycle 201678550 [⟨true, false⟩, ⟨true, true⟩, ⟨false, true⟩] false }) with
    prover := { skid.prover with session := { session2 with
      state := .waitStop, pass := ⟨200000000, true, 200018550, 103, 201678400, false, false⟩ } } }

theorem test_proving_pass_2 :
    (after (exec (.edgeEvent .run2 false false 201694500) stopping)).prover.session.passes =
      [⟨1, .valid, 200000000, 1678400, 1660000, 104, 1051528, 998547, 627⟩] := by decide +kernel

/-- 06, the five passes of the test: spread 30 ppm, mean 998 546. -/
theorem test_proving_spread :
    spreadOf ([998547, 998560, 998530, 998552, 998541].map fun m => ⟨1, .valid, 0, 0, 0, 0, 0, m, 627⟩) = 30 ∧
    meanOf [998547, 998560, 998530, 998552, 998541] = 998546 := by decide

/-- 09, transaction 1: READ_TOTALS(2, 3) from the totals after the four windows. -/
theorem test_read_totals :
    reply .opr (exec (.readTotals .opr [2, 3]) (skid.setTotalizer .run2 { run2 with
      total := ⟨24022490009, 57196402413, 57204118627⟩ })) =
    ⟨.ok, 0x11, [2, 3, 0, 0, 0, 0, 0, 0, 0x00, 0x00, 0x01, 0x6E, 0x8D, 0xDA, 0x00, 0x00, 0x03, 0x68, 0xBF, 0x72,
      0x00, 0x00, 0x03, 0x68, 0xDD, 0x96, 0, 0, 0]⟩ := by decide

/-- 09, transaction 2: CONCUR(215) is the second one, so the proposal is applied as change 58. -/
theorem test_concur_applies :
    let t := after (exec (.concur .opr [0x00, 0xD7]) skid)
    t.ports.opr.response = ⟨.ok, 0x3A, [0x00, 0xD7, 1, 0, 0, 0, 0, 58]⟩ ∧
    t.curves.run2 = [⟨400, 1001200⟩, ⟨627, 998546⟩, ⟨800, 999400⟩] ∧ t.totalizers.run2.curveChanged = true ∧
    flagged .proposal t = (true, 1) ∧ t.store.queue = [.parameters] := by decide +kernel

/-- 09, transaction 3: READ_CURVE(2) with three points and count 58. -/
theorem test_read_curve :
    reply .opr (exec (.readCurve .opr [2]) (after (exec (.concur .opr [0x00, 0xD7]) skid))) =
    ⟨.ok, 0x12, [2, 3, 0, 0, 0, 58, 0x01, 0x90, 0x00, 0x0F, 0x46, 0xF0, 0x02, 0x73, 0x00, 0x0F, 0x3C, 0x92,
      0x03, 0x20, 0x00, 0x0F, 0x3F, 0xE8]⟩ := by decide

/-- 10, one application: OPR at threshold 5 with PROPOSAL at level 6 sees class 12, level 6, count 2, ALERT 1. -/
theorem test_top_event :
    let quiet : EventEntry := ⟨false, 0, 4⟩
    let s := skid.setPort .opr (PortState.evaluateAlert { PortState.reset with
      events := { ClassMap.reset with restarted := quiet, proposal := ⟨true, 2, 6⟩ }, threshold := 5 })
    reply .opr (exec (.topEvent .opr []) s) = ⟨.ok, 0x04, [12, 6, 2, 1]⟩ ∧
    ((after (exec (.clearEvents .opr [0x10, 0x00]) s)).ports.opr.alertLow) = false := by decide

/-- 08, a queue and a full receiver: at 185 ms run 4 brings grab 44, which is queued and fills the committed receiver. -/
def pacing : State :=
  { live with
    batch := some (loading2 (plan2 7302 0 0 .single 1) 1 1)
    sampler := { Sampler.reset with
      setup := some ⟨1000, 50, 1000⟩, width := 42, volume := 700, fill := 950, output := .pulse 2200000
      counts := ⟨43, 43, 0, 0, 0, 0⟩ } }

theorem test_grab_queued_and_full :
    let x := (pacing.sampleVolume 400).sampler
    x.volume = 100 ∧ x.pendingGrabs = [.own] ∧ x.full = true ∧ x.counts.due = 44 ∧ x.counts.issued = 43 ∧
    reply .sup (exec (.receiverSwap .sup []) pacing) = ⟨.busy, 0x43, []⟩ := by decide

/-- 08, at 240 ms: a swap in the gap answers the fill of 950. -/
theorem test_receiver_swap :
    let s := pacing.setSampler { pacing.sampler with output := .gap 2620000, pendingGrabs := [.own], full := true }
    let t := after (exec (.receiverSwap .sup []) s)
    t.ports.sup.response = ⟨.ok, 0x43, [0x00, 0x00, 0x03, 0xB6]⟩ ∧ t.sampler.full = false ∧
    flagged .sampler t = (true, 1) := by decide

/-- 05, overflow: at the close of 425 the cursor on record 401 moves to 402, with one record lost. -/
def ringOf (first : Nat) : List RingEntry := (List.range 24).map fun i => ⟨record (first + i) 7000, .retained⟩

/-- The history of 05 before the close of 425: OPR has read all, WIT stands at 401, SUP at 403. -/
def fullRing : State := { skid with batchSeq := 425, history := ⟨ringOf 401, ⟨425, 401, 403⟩, .all 0⟩ }

theorem test_ring_overflow :
    let t := after (exec (.batchClose .sup []) fullRing)
    t.history.cursors = ⟨425, 402, 403⟩ ∧ t.history.lost = ⟨0, 1, 0⟩ ∧ t.oldestSeq = 402 ∧ t.endSeq = 426 ∧
    flagged .recordLost t = (false, 0) ∧ (t.ports.wit.events.recordLost).count = 1 := by decide

/-- IDENTIFY and NOP (R173, R174). -/
theorem test_identify :
    reply .wit (exec (.identify .wit []) skid) = ⟨.ok, 0x01, [0x0C, 0x04, 1, 1, 4, 8, 8, 24, 28, 6, 20, 4, 14, 60, 64]⟩ ∧
    reply .wit (exec (.identify .wit []) State.reset) = ⟨.starting, 0x01, []⟩ := by decide
/-! ### The hypotheses of the statements are met: the step, invariants, requests, time, events

Each `witness_<statement>` shows states and operands that meet the statement's hypotheses together, clause by clause, at
the boundary values of the clauses. -/

/-- The part at work with a command in front. -/
def busy : State := { skid with pending := [.planClear .sup []] }

/-- The part at work, its next tick the deadline of everything that has one. -/
def dueNext : State :=
  { skid with
    tick := 599999999, nextSecond := 600000000
    channels := { skid.channels with run2 := { front2 with deadline := 600000000 } }
    prover := { skid.prover with session := { session2 with state := .inPass } }
    sampler := { skid.sampler with output := .pulse 600000000 }
    store := { skid.store with status := .writing, queue := [.record (record 5 7101)],
                               writing := some ⟨.record (record 5 7101), 600000000⟩ } }

/-- The part at work with lines observed at a new level for the second time: line A of run 1 and DET1 high, RCVHI high, PFAIL
low, the select line of OPR low; the transaction of WIT ends. -/
def observing : State :=
  { skid with
    lines := { skid.lines with
      plsA := skid.lines.plsA.set .run1 (.accepted true), plsB := skid.lines.plsB.set .run1 (.accepted false)
      det1 := .accepted true, rcvhi := .accepted true, pfail := .accepted false
      select := ⟨.accepted false, .accepted true, .unseen true⟩ }
    ports := { skid.ports with
      opr := { skid.ports.opr with selectSeenHigh := true }
      wit := { skid.ports.wit with selectSeenHigh := true, transaction := .selected [] 0 } } }

theorem witness_StepTakesFrontCommand : busy.pending = .planClear .sup [] :: [] := rfl

theorem witness_IdleStepIsOneTick :
    skid.pending = [] ∧ skid.lines.resetN = true ∧ dueNext.pending = [] ∧ dueNext.lines.resetN = true ∧
    (dueNext.channels.get .run2).deadline = dueNext.tick + 1 ∧ dueNext.nextSecond = dueNext.tick + 1 ∧
    dueNext.sampler.output = .pulse (dueNext.tick + 1) ∧
    dueNext.store.writing = some ⟨.record (record 5 7101), dueNext.tick + 1⟩ ∧
    dueNext.prover.session.pass.tD1 + 600000000 = dueNext.tick + 1 ∧ dueNext.prover.session.state = .inPass := by decide

/-- Lines settled and observed twice at a new level, and not settled; RESETn low; RESTORING at its last tick. -/
theorem witness_IdleStepIsOneTick_lines :
    observing.pending = [] ∧ observing.lines.resetN = true ∧ observing.isRestoring = false ∧
    (observing.lines.plsA.get .run1).settled = true ∧ (observing.lines.plsB.get .run1).settled = true ∧
    (observing.lines.plsA.get .run1).level ≠ (observing.channels.get .run1).pair.a ∧
    (observing.lines.plsA.get .run2).settled = false ∧ observing.lines.det1 = ⟨true, some true, true⟩ ∧
    observing.prover.det1.level = false ∧ observing.lines.rcvhi.level ≠ observing.sampler.rcvhi ∧
    observing.lines.pfail.level = false ∧ observing.store.pfailActive = false ∧
    (observing.ports.get .opr).transaction = .idle ∧ (observing.ports.get .wit).transaction = .selected [] 0 ∧
    ({ skid with lines := { skid.lines with resetN := false } } : State).lines.resetN = false ∧
    State.reset.isRestoring = true ∧ 1500000 ≤ (({ State.reset with tick := 1499999 } : State).tick + 1).toNat := by decide

theorem witness_StepKeepsEventFlagsAndAlert : busy.eventsLegal ∧ ∃ t, step busy = .next t := ⟨witness_eventsLegal, _, rfl⟩

theorem witness_StepKeepsChannelsInRange : busy.channelsLegal ∧ ∃ t, step busy = .next t := ⟨witness_channelsLegal, _, rfl⟩

theorem witness_StepKeepsTotalsInRange : busy.custodyLegal ∧ busy.totalsLegal ∧ ∃ t, step busy = .next t :=
  ⟨witness_custodyLegal, witness_totalsLegal, _, rfl⟩

theorem witness_StepKeepsPlansAndParcels : busy.plansLegal ∧ ∃ t, step busy = .next t := ⟨witness_plansLegal, _, rfl⟩

theorem witness_StepKeepsRingAndCursors : busy.historyLegal ∧ busy.recordsLegal ∧ ∃ t, step busy = .next t :=
  ⟨witness_historyLegal, witness_recordsLegal, _, rfl⟩

theorem witness_StepKeepsSessionInRange : busy.sessionLegal ∧ ∃ t, step busy = .next t := ⟨witness_sessionLegal, _, rfl⟩

theorem witness_StepKeepsCustodyParametersInRange : busy.sessionLegal ∧ busy.custodyLegal ∧ ∃ t, step busy = .next t :=
  ⟨witness_sessionLegal, witness_custodyLegal, _, rfl⟩

theorem witness_StepKeepsProposalTable : busy.tableLegal ∧ ∃ t, step busy = .next t := ⟨witness_tableLegal, _, rfl⟩

theorem witness_StepKeepsGrabAccounting : busy.samplerLegal ∧ ∃ t, step busy = .next t := ⟨witness_samplerLegal, _, rfl⟩

theorem witness_StepKeepsWriteQueue : busy.storeLegal ∧ ∃ t, step busy = .next t := ⟨witness_storeLegal, _, rfl⟩

theorem witness_DecodeOfEncodedFrameIsTheRequest :
    let plan : Instr := .planAdd .sup (List.replicate 16 1)
    let longest : Instr := .nop .opr (List.replicate 60 0xFF)
    plan.wellFormed = true ∧ (encodeFrame plan 2).isSome = true ∧ longest.wellFormed = true ∧
    (encodeFrame longest 0).isSome = true ∧ (encodeFrame (.runEnableOff .sup 2) 3).isSome = true := by decide

theorem witness_RequestsAreDecidedInOrder :
    State.reset.isRestoring = true ∧ skid.isRestoring = false ∧
    (Instr.concur .sup [0, 1]).wellFormed = true ∧ frameParts (.concur .sup [0, 1]) = some (.sup, 0x3A, [0, 1]) ∧
    (Instr.unknownRequest .opr 0x08).wellFormed = true ∧ frameParts (.unknownRequest .opr 0x08) = some (.opr, 0x08, []) ∧
    Catalogue.holds 0x08 = false ∧ Catalogue.holds 0xFF = false ∧
    (∃ row ∈ Catalogue.rows, row.code = 0x3A ∧ row.ports.has .sup = false) ∧
    (Instr.planAdd .sup (List.replicate 15 1)).wellFormed = true ∧
    frameParts (.planAdd .sup (List.replicate 15 1)) = some (.sup, 0x22, List.replicate 15 1) ∧
    (∃ row ∈ Catalogue.rows, row.code = 0x22 ∧ row.ports.has .sup = true ∧ row.length = some 16) ∧
    (reply .sup (exec (.concur .sup [0, 1]) skid)).status ≠ .ok ∧ (.opr : Port) ≠ .sup := by decide

theorem witness_RequestsAreDecidedInOrder_data :
    skid.custodyLegal ∧ skid.tableLegal ∧ ∃ t, exec (.readRecord .opr [0, 0, 0, 0, 0, 0]) skid = .next t :=
  ⟨witness_custodyLegal, witness_tableLegal, _, rfl⟩

/-- A port in a transaction that has received a byte, and one whose select line was seen high. -/
def transacting : State :=
  skid.setPort .opr { PortState.reset with selectSeenHigh := true, transaction := .selected (List.replicate 8 true) 8 }

theorem witness_SelectedPortShiftsItsResponse :
    let s := skid.setPort .wit { PortState.reset with selectSeenHigh := true }
    (s.ports.get .wit).selectSeenHigh = true ∧ (s.ports.get .wit).transaction = .idle ∧
    (transacting.ports.get .opr).transaction = .selected (List.replicate 8 true) 8 := by decide

theorem witness_NopAndIdentifyAnswer :
    skid.isRestoring = false ∧ State.reset.isRestoring = true ∧ ∃ t, exec (.nop .opr []) skid = .next t :=
  ⟨rfl, rfl, _, rfl⟩

theorem witness_ClocksAdvanceAndAreRead :
    ({ skid with uptime := 4294967295, stationTime := 4294967295, stationSet := true } : State).isRestoring = false := rfl

theorem witness_EventReadsAnswerOwnFlags :
    skid.isRestoring = false ∧ (skid.ports.get .wit).eventsLegal ∧
    ((skid.ports.get .wit).events.get .restarted).flag = true ∧ 1 ≤ ((skid.ports.get .wit).events.get .restarted).level ∧
    ∀ d, ((skid.ports.get .wit).events.get d).flag = true →
      ((skid.ports.get .wit).events.get d).level < ((skid.ports.get .wit).events.get .restarted).level ∨
      (((skid.ports.get .wit).events.get d).level = ((skid.ports.get .wit).events.get .restarted).level ∧
        classNumber .restarted ≤ classNumber d) :=
  ⟨rfl, witness_eventsLegal .wit, by decide, by decide, fun d => by cases d <;> decide⟩

/-- A port whose only set flag has level 0. -/
def silentPort : PortState :=
  { PortState.reset with events := { ClassMap.reset with restarted := ⟨true, 1, 0⟩ }, alertLow := false }

theorem witness_EventReadsAnswerOwnFlags_silent :
    (skid.setPort .opr silentPort).isRestoring = false ∧ silentPort.eventsLegal ∧
    ∀ c, (silentPort.events.get c).flag = true → (silentPort.events.get c).level = 0 := by
  refine ⟨rfl, ⟨fun c => ?_, by decide, by decide, fun h => absurd h nofun, fun ⟨c, h, l⟩ => ?_⟩, fun c => ?_⟩
  · cases c <;> exact ⟨by decide, by decide, by decide⟩
  · revert h l; cases c <;> decide
  · cases c <;> decide

/-- Two set flags of one level: the lower class number is the top one. -/
def tiedPort : PortState :=
  { PortState.reset with events := { ClassMap.reset with restarted := ⟨false, 0, 7⟩, reverse := ⟨true, 2, 5⟩,
                                                         curveRange := ⟨true, 1, 5⟩ } }

theorem witness_EventReadsAnswerOwnFlags_tied :
    tiedPort.eventsLegal ∧ (tiedPort.events.get .reverse).flag = true ∧ 1 ≤ (tiedPort.events.get .reverse).level ∧
    ∀ d, (tiedPort.events.get d).flag = true → (tiedPort.events.get d).level < (tiedPort.events.get .reverse).level ∨
      ((tiedPort.events.get d).level = (tiedPort.events.get .reverse).level ∧ classNumber .reverse ≤ classNumber d) := by
  refine ⟨⟨fun c => ?_, by decide, by decide, fun _ => ⟨.reverse, by decide⟩, fun _ => rfl⟩, by decide, by decide,
    fun c => ?_⟩
  · cases c <;> exact ⟨by decide, by decide, by decide⟩
  · cases c <;> decide

theorem witness_ClearEventsClearsNamedClasses :
    skid.isRestoring = false ∧
    ((0x40 : Byte) ++ (0x00 : Byte) : BitVec 16).getLsbD 14 = true ∧
    ((0x80 : Byte) ++ (0x00 : Byte) : BitVec 16).getLsbD 15 = true ∧
    ((0x3F : Byte) ++ (0xFF : Byte) : BitVec 16).getLsbD 14 = false ∧
    ((0x3F : Byte) ++ (0xFF : Byte) : BitVec 16).getLsbD 15 = false := by decide

theorem witness_LevelsAndThresholdsAreSet : skid.isRestoring = false ∧ 13 < (14 : Byte).toNat := by decide
/-! ### The hypotheses of the statements are met: pulse inputs, windows, curves -/

/-- The part at work with run 2 in a forward good cycle, at its last edge, and so many cycles in its block. -/
def turning (session : Session) (cycles : Nat) : State :=
  { (skid.setChannel .run2 { front2 with
      pair := ⟨false, true⟩, blockCycles := cycles
      tracking := .inCycle 6200 [⟨true, false⟩, ⟨true, true⟩, ⟨false, true⟩] false }) with
    prover := { skid.prover with session := session } }

/-- Line B of run 2 first observed high at the tick that accepts line A high: the observation outlives the edge of A (R5). -/
theorem test_edge_keeps_observation :
    let high : Line := ⟨true, some true, true⟩
    let s : State := { skid with lines := { skid.lines with
      plsA := skid.lines.plsA.set .run2 high, plsB := skid.lines.plsB.set .run2 high } }
    ∃ t, exec (.edgeEvent .run2 true false 7) s = .next t ∧ t.lines = s.lines ∧
      (t.channels.get .run2).pair = ⟨true, false⟩ := ⟨_, rfl, by decide, rfl⟩

/-- Outside a cycle, in one, waiting for 00; a settled line whose level stays, and one already observed at the new level. -/
theorem witness_EdgeEventsWalkTheLinePair :
    (observing.lines.plsB.get .run1).settled = true ∧ false = (observing.channels.get .run1).pair.b ∧
    (observing.lines.plsA.get .run1).settled = true ∧ (observing.lines.plsA.get .run1).seen = some true ∧
    (⟨true, false⟩ : Pair) ≠ (skid.channels.get .run2).pair ∧ (skid.channels.get .run2).tracking = .outside ∧
    (⟨true, false⟩ : Pair) ≠ .zero ∧
    (⟨true, true⟩ : Pair) ≠ ((turning session2 0).channels.get .run2).pair ∧
    ((turning session2 0).channels.get .run2).tracking =
      .inCycle 6200 [⟨true, false⟩, ⟨true, true⟩, ⟨false, true⟩] false ∧ (⟨true, true⟩ : Pair) ≠ .zero ∧
    let joined := skid.setChannel .run2 { front2 with pair := ⟨true, true⟩, tracking := .waiting }
    Pair.zero ≠ (joined.channels.get .run2).pair ∧ (⟨true, false⟩ : Pair) ≠ (joined.channels.get .run2).pair ∧
    (joined.channels.get .run2).tracking = .waiting := by decide

theorem witness_EnabledRunsCountCycles (cycles : Nat) :
    let s := turning .reset cycles
    s.enabled .run2 ∧ s.prover.session.holds .run2 = false ∧ (s.channels.get .run2).pair ≠ .zero ∧
    (s.channels.get .run2).tracking = .inCycle 6200 [⟨true, false⟩, ⟨true, true⟩, ⟨false, true⟩] false ∧
    (s.channels.get .run2).blockCycles = cycles :=
  ⟨⟨rfl, nofun⟩, rfl, nofun, rfl, rfl⟩

theorem witness_OfflineAndRestoringRunsCountApart :
    let c : Channel := { Channel.reset 1000000 with
      pair := ⟨true, false⟩, tracking := .inCycle 6200 [⟨true, false⟩] false }
    let idle := live.setChannel .run1 c
    let early := State.reset.setChannel .run1 c
    (idle.channels.get .run1).pair ≠ .zero ∧ (idle.channels.get .run1).tracking = .inCycle 6200 [⟨true, false⟩] false ∧
    idle.isRestoring = false ∧ (idle.channels.get .run1).runState = .offline ∧
    (early.channels.get .run1).pair ≠ .zero ∧ (early.channels.get .run1).tracking = .inCycle 6200 [⟨true, false⟩] false ∧
    early.isRestoring = true := by decide

theorem witness_IntegrityBlockEndJudgesTheBlock :
    (blockFull.channels.get .run2).runState ≠ .offline ∧ (blockFull.channels.get .run2).blockCycles = 999 := by decide

theorem skid_enabled : skid.enabled .run2 := ⟨rfl, nofun⟩

theorem witness_WindowCloseOfEnabledRun :
    skid.enabled .run2 ∧ (skid.totalizers.get .run2).kx ≠ 0 ∧ closingFreq skid .run2 = 627 ∧
    (skid.setChannel .run2 { front2 with cutoff := 627 }).enabled .run2 ∧
    (skid.setChannel .run2 { front2 with cutoff := 628 }).enabled .run2 :=
  ⟨skid_enabled, by decide, by decide, skid_enabled, skid_enabled⟩

/-- Run 2 about to close a window below its cutoff. -/
def slowing (session : Session) : State :=
  { (skid.setChannel .run2 { front2 with cutoff := 628 }) with prover := { skid.prover with session := session } }

theorem witness_SessionEndsWhenItsRunStops :
    let s := slowing session2
    let p := slowing { session2 with state := .inPass }
    s.isRestoring = false ∧ (s.channels.get .run2).runState = .flowing ∧ s.prover.session.holds .run2 = true ∧
    closingFreq s .run2 < (s.channels.get .run2).cutoff ∧ s.prover.session.state = .waitDet1 ∧
    p.isRestoring = false ∧ (p.channels.get .run2).runState = .flowing ∧ p.prover.session.holds .run2 = true ∧
    closingFreq p .run2 < (p.channels.get .run2).cutoff ∧ p.prover.session.state ≠ .waitDet1 := by decide

/-- The part at work with another batch. -/
def batched (b : Option OpenBatch) : State := { skid with batch := b }

/-- A batch on run 1 alone. -/
def elsewhere : OpenBatch := { loading2 { plan2 7102 0 0 .single 1 with runSet := 0b0001 } 1 1 with runningGross := 0 }

theorem witness_WindowOutsideABatchIsUnbatched :
    (batched none).enabled .run2 ∧ ((batched none).totalizers.get .run2).kx ≠ 0 ∧
    (∀ b, (batched none).batch = some b → inRunSet b.plan.runSet .run2 = false) ∧
    (batched (some elsewhere)).enabled .run2 ∧
    ∀ b, (batched (some elsewhere)).batch = some b → inRunSet b.plan.runSet .run2 = false := by
  refine ⟨⟨rfl, nofun⟩, by decide, fun b h => absurd (show none = some b from h) nofun, ⟨rfl, nofun⟩, fun b h => ?_⟩
  obtain rfl := Option.some.inj h
  decide

/-- Without a target; one litre short of it with no pre-target; with the pre-target just reached; just not reached. -/
theorem witness_WindowOfABatchedRunJoinsTheBatch :
    ∀ b ∈ [loading2 (plan2 7102 0 0 .single 1) 1 1, loading2 (plan2 7102 1204481 0 .single 1) 1 1,
        loading2 (plan2 7102 1204481 1 .single 1) 1 1, loading2 (plan2 7102 1204482 1 .single 1) 1 1],
      (batched (some b)).isRestoring = false ∧ ((batched (some b)).channels.get .run2).runState ≠ .offline ∧
      ((batched (some b)).totalizers.get .run2).kx ≠ 0 ∧ inRunSet b.plan.runSet .run2 = true ∧
      (b.acc.get .run2).main.volume.gross ≤ 4294967295 ∧
      (b.plan.target = 0 ∨ b.runningGross + grossTaken (batched (some b)) .run2 b < b.plan.target) := by decide

/-- A window that reaches the target exactly. -/
def reaching (mode : Mode) (count index remaining : Nat) : OpenBatch :=
  loading2 (plan2 7102 1204480 0 mode count) index remaining

theorem witness_TargetWindowClosesTheBatch :
    (∀ b ∈ [reaching .single 1 1 1, reaching .chain 1 1 1, reaching .repeating 3 3 1, reaching .repeating 3 2 2],
      (batched (some b)).isRestoring = false ∧ ((batched (some b)).channels.get .run2).runState ≠ .offline ∧
      ((batched (some b)).totalizers.get .run2).kx ≠ 0 ∧ inRunSet b.plan.runSet .run2 = true ∧
      (b.acc.get .run2).main.volume.gross ≤ 4294967295 ∧ b.plan.target ≠ 0 ∧
      b.plan.target ≤ b.runningGross + grossTaken (batched (some b)) .run2 b ∧ (batched (some b)).batchSeq < 4294967295) ∧
    ({ batched (some (reaching .chain 1 1 1)) with batchSeq := 4294967295 } : State).batchSeq ≤ 4294967295 ∧
    (batched none).queue = plan2 7103 900 0 .single 1 :: [] ∧ ({ skid with queue := [] } : State).queue = [] ∧
    (reaching .repeating 3 3 1).repeatsRemaining ≤ 1 ∧ 1 < (reaching .repeating 3 2 2).repeatsRemaining := by decide

theorem witness_RunSettingsAndEnable :
    let s := skid.setTotalizer .run1 run2
    skid.isRestoring = false ∧
    (skid.channels.get .run1).runState = .offline ∧ (skid.totalizers.get .run1).kx = 0 ∧
    s.isRestoring = false ∧ (s.channels.get .run1).runState = .offline ∧ (s.totalizers.get .run1).kx ≠ 0 ∧
    (skid.channels.get .run2).runState ≠ .offline ∧ 1 < (2 : Byte).toNat := by decide

/-- With no batch, with a batch one litre short of its target and one that reaches it; a session waiting and in a pass. -/
theorem witness_DisableClosesThePartialWindow :
    skid.isRestoring = false ∧ (skid.channels.get .run1).runState = .offline ∧
    (skid.channels.get .run2).runState = .flowing ∧ (skid.totalizers.get .run2).kx ≠ 0 ∧ (batched none).batch = none ∧
    (∀ b ∈ [loading2 (plan2 7102 1204481 0 .single 1) 1 1, reaching .single 1 1 1],
      inRunSet b.plan.runSet .run2 = true ∧ (b.acc.get .run2).main.volume.gross ≤ 4294967295) ∧
    1204330 + grossTaken (batched none) .run2 (loading2 (plan2 7102 1204481 0 .single 1) 1 1) < 1204481 ∧
    1204480 ≤ 1204330 + grossTaken (batched none) .run2 (reaching .single 1 1 1) ∧
    skid.batchSeq ≤ 4294967295 ∧ skid.prover.session.holds .run2 = true ∧ skid.prover.session.state = .waitDet1 ∧
    Session.reset.holds .run2 = false ∧ ({ session2 with state := .inPass } : Session).holds .run2 = true := by decide

theorem witness_RunNumbersOutsideOneToFourAreRefused :
    skid.isRestoring = false ∧ ((0 : Byte) = 0 ∨ 4 < (0 : Byte).toNat) ∧ ((5 : Byte) = 0 ∨ 4 < (5 : Byte).toNat) := by decide

theorem curve2_legal : legalCurve curve2 := by
  refine ⟨by decide, by decide, fun p hp => ?_⟩
  rcases List.mem_cons.1 hp with rfl | hp
  · exact ⟨by decide, by decide, by decide, by decide⟩
  · rcases List.mem_singleton.1 hp with rfl
    exact ⟨by decide, by decide, by decide, by decide⟩

/-- A curve of points at a factor of 1. -/
def flat (frequencies : List Nat) : List CurvePoint := frequencies.map fun f => ⟨f, 1000000⟩

theorem flat_legal (frequencies : List Nat) (hl : frequencies.length ≤ 8) (hs : frequencies.Pairwise (· < ·))
    (hr : ∀ f ∈ frequencies, 1 ≤ f ∧ f ≤ 50000) : legalCurve (flat frequencies) := by
  refine ⟨by simpa [flat] using hl, List.pairwise_map.2 hs, fun p hp => ?_⟩
  obtain ⟨f, hf, rfl⟩ := List.mem_map.1 hp
  exact ⟨(hr f hf).1, (hr f hf).2, show 900000 ≤ 1000000 by decide, show 1000000 ≤ 1100000 by decide⟩

/-- The places of a frequency: no curve, below, at the first point, between (both ends), at the last point, above. -/
theorem witness_CurveLookupFollowsTheTable :
    legalCurve [] ∧ legalCurve curve2 ∧ curve2 = ⟨400, 1001200⟩ :: [⟨800, 999400⟩] ∧
    curve2 = [⟨400, 1001200⟩] ++ [⟨800, 999400⟩] ∧ curve2 = [] ++ ⟨400, 1001200⟩ :: ⟨800, 999400⟩ :: [] ∧
    399 < 400 ∧ 400 ≤ 400 ∧ 400 < 800 ∧ 400 ≤ 799 ∧ 799 < 800 ∧ 800 < 801 :=
  ⟨⟨by decide, by decide, nofun⟩, curve2_legal, rfl, rfl, rfl, by decide⟩

theorem witness_RemaindersLoseNoLitre :
    run2.kx ≠ 0 ∧ run2.indicatedRemainder < run2.kx ∧ run2.grossRemainder < run2.kx * 1000000 := by decide

/-- Two points equally near at the edge of the band; one just outside it; a full curve; a point to delete, and none. -/
theorem witness_CurvePointChanges :
    CurvePoint.legal ⟨1000, 999800⟩ ∧
    (∀ l ∈ [[980, 1020], [979, 1021], [100, 200, 300, 400, 500, 600, 700, 800], [500, 1000]], legalCurve (flat l)) ∧
    (let near (p : CurvePoint) : Prop := ((p.freq : Int) - (1000 : Nat)).natAbs * 50 ≤ 1000
    near ⟨980, 1000000⟩ ∧ near ⟨1020, 1000000⟩ ∧ (∀ p ∈ flat [979, 1021], ¬ near p) ∧ (flat [979, 1021]).length < 8 ∧
    (∀ p ∈ flat [100, 200, 300, 400, 500, 600, 700, 800], ¬ near p) ∧
    (flat [100, 200, 300, 400, 500, 600, 700, 800]).length = 8) ∧
    flat [500, 1000] = flat [500] ++ ⟨1000, 1000000⟩ :: [] ∧ ∀ p ∈ flat [980, 1020], p.freq ≠ 1000 :=
  ⟨⟨by decide, by decide, by decide, by decide⟩, fun l h =>
    have hl : l.length ≤ 8 ∧ l.Pairwise (· < ·) ∧ ∀ f ∈ l, 1 ≤ f ∧ f ≤ 50000 := by revert l; decide
    flat_legal l hl.1 hl.2.1 hl.2.2, by decide, rfl, by decide⟩

theorem front2_fits : front2.fits := by
  unfold Channel.fits Channel.legal FaultCounts.atMost
  decide

theorem run2_fits : run2.fits := by
  refine ⟨⟨⟨by decide, by decide, by decide⟩, zero_triple_below _ (by decide), ⟨by decide, by decide⟩,
    zero_triple_below _ (by decide), zero_faults_atMost _⟩, by decide, fun m h => ?_⟩
  obtain rfl := Option.some.inj h
  decide

theorem witness_RunReadsAnswerTheFigures :
    skid.isRestoring = false ∧ (skid.channels.get .run2).fits ∧ (skid.totalizers.get .run2).fits ∧
    legalCurve (skid.curves.get .run2) ∧ skid.control.changeCount ≤ max32 ∧ 1 < (2 : Byte).toNat :=
  ⟨rfl, front2_fits, run2_fits, curve2_legal, by decide, by decide⟩
/-! ### The hypotheses of the statements are met: batches, history -/

/-- The part at work with plans 7201, 7202, … in the queue. -/
def planned (n : Nat) : State := { skid with queue := (List.range n).map fun i => plan2 (7201 + i) 0 0 .single 1 }

/-- What R62 refuses in a plan. -/
abbrev badPlan (parcel : Nat) (g rs md rp : Byte) : Prop :=
  parcel = 0 ∨ g = 0 ∨ rs = 0 ∨ 15 < rs.toNat ∨ 2 < md.toNat ∨ (md = 2 ∧ rp = 0)

/-- A field at fault in each way, and plans with every field at the end of its range. -/
theorem witness_PlanCommandsChangeTheQueue_fields :
    badPlan 0 1 1 0 0 ∧ badPlan 1 0 1 0 0 ∧ badPlan 1 1 0 0 0 ∧ badPlan 1 1 16 0 0 ∧ badPlan 1 1 1 3 0 ∧
    badPlan 1 1 1 2 0 ∧ ¬ badPlan 1 1 15 2 1 ∧ ¬ badPlan 4294967295 255 15 0 0 := by decide

/-- A queued parcel, the open batch's parcel, a full queue, room for one more, a removal. -/
theorem witness_PlanCommandsChangeTheQueue :
    skid.isRestoring = false ∧ skid.queue.length ≤ 8 ∧ (skid.queue.map Plan.parcel).Nodup ∧
    (∀ n ∈ [7, 8], (planned n).isRestoring = false ∧ (planned n).queue.length = n ∧
      ((planned n).queue.map Plan.parcel).Nodup ∧ 1 ∉ (planned n).queue.map Plan.parcel) ∧
    ((0 : Byte) ++ (0 : Byte) ++ (0x1B : Byte) ++ (0xBF : Byte)).toNat ∈ skid.queue.map Plan.parcel ∧
    skid.batch.map (fun b => b.plan.parcel) = some ((0 : Byte) ++ (0 : Byte) ++ (0x1B : Byte) ++ (0xBE : Byte)).toNat ∧
    skid.queue = [] ++ plan2 7103 900 0 .single 1 :: [] := by decide

theorem witness_BatchOpenTakesTheHeadPlan :
    skid.isRestoring = false ∧ skid.batch = some (loading2 (plan2 7102 0 0 .single 1) 1 1) ∧
    (batched none).isRestoring = false ∧ (batched none).batch = none ∧
    ({ batched none with queue := [] } : State).queue = [] ∧
    (batched none).queue = plan2 7103 900 0 .single 1 :: [] ∧
    4294967295 < ({ batched none with batchSeq := 4294967296 } : State).batchSeq ∧
    ({ batched none with batchSeq := 4294967295 } : State).batchSeq ≤ 4294967295 ∧
    (plan2 7103 900 0 .single 1).parcel ≤ 4294967295 := by decide

theorem fullRing_legal : fullRing.historyLegal :=
  ⟨by decide, by decide, by decide, fun p => by cases p <;> decide, fun p => by cases p <;> decide, by decide,
    witness_historyLegal.2.2.2.2.2.2⟩

/-- A full ring over a store that is WRITING with some jobs waiting. -/
def closing2 (rest : List Job) (fail : Bool) : State :=
  { fullRing with store := { skid.store with
      status := .writing, queue := .checkpoint :: rest, powerFail := fail, pfailActive := fail
      writing := some ⟨.checkpoint ⟨1, skid.captureCheckpoint⟩ false, 200000⟩ } }

theorem closing2_legal (rest : List Job) (fail : Bool) (h : rest.length ≤ 3)
    (hr : ∀ r, Job.record r ∈ rest → r.seq < 425) :
    (closing2 rest fail).storeLegal ∧ (closing2 rest fail).recordsLegal := by
  refine ⟨⟨show rest.length + 1 ≤ 4 by omega, fun _ => ⟨.checkpoint, rest, _, rfl, rfl, trivial⟩, fun h => absurd rfl h,
    nofun, nofun, id⟩, nofun, fun _ r h => absurd (List.eq_of_mem_replicate h) nofun, fun r h => hr r ?_, ?_⟩
  · exact (List.mem_cons.1 h).resolve_left nofun
  · intro w r hw hp
    obtain rfl := Option.some.inj hw
    cases hp

/-- A cursor at the end, one on the record that the close drops, one behind it; each way of a record not retained. -/
theorem witness_BatchCloseFreezesTheRecord :
    (batched none).isRestoring = false ∧ (batched none).batch = none ∧
    fullRing.isRestoring = false ∧ fullRing.batch = some (loading2 (plan2 7102 0 0 .single 1) 1 1) ∧
    fullRing.batchSeq ≤ 4294967295 ∧ fullRing.historyLegal ∧ fullRing.history.cursors.get .opr = fullRing.endSeq ∧
    fullRing.history.seqs = 401 :: 402 :: (List.range 22).map (403 + ·) ∧ fullRing.history.ring.length = 24 ∧
    fullRing.history.cursors.get .wit = 401 ∧ fullRing.history.cursors.get .sup ∈ fullRing.history.seqs.drop 1 ∧
    { fullRing.store with powerFail := true }.powerFail = true ∧
    { fullRing.store with queue := List.replicate 4 .checkpoint }.queue.length = 4 :=
  ⟨rfl, rfl, rfl, rfl, by decide, fullRing_legal, by decide, by decide, by decide, by decide, by decide, rfl, rfl⟩

/-- The store takes the RECORD job in READY, or behind the job it writes; it refuses it with a full queue and under the
power-fail indication. -/
theorem witness_BatchCloseFreezesTheRecord_jobs :
    fullRing.storeLegal ∧ fullRing.recordsLegal ∧ fullRing.store.status = .ready ∧ fullRing.store.powerFail = false ∧
    (∀ rest ∈ [[], [.parameters, .checkpoint], [.parameters, .checkpoint, .record (record 424 7000)]],
      (closing2 rest false).storeLegal ∧ (closing2 rest false).recordsLegal ∧ (closing2 rest false).historyLegal) ∧
    (closing2 [] true).storeLegal ∧ (closing2 [] true).store.powerFail = true := by
  refine ⟨witness_storeLegal, ⟨nofun, fun _ r h => absurd (List.eq_of_mem_replicate h) nofun,
    fun r h => absurd (show Job.record r ∈ [] from h) nofun, fun w _ h => absurd (show none = some w from h) nofun⟩, rfl,
    rfl, fun rest h => ?_, (closing2_legal [] true (by decide) fun r h => absurd h List.not_mem_nil).1, rfl⟩
  have short : rest.length ≤ 3 ∧ ∀ r, Job.record r ∈ rest → r = record 424 7000 := by
    simp only [List.mem_cons, List.not_mem_nil, or_false] at h
    rcases h with rfl | rfl | rfl <;> simp
  have legal := closing2_legal rest false short.1 fun r h => by rw [short.2 r h]; decide
  exact ⟨legal.1, legal.2, fullRing_legal⟩

theorem loading2_fits : (loading2 (plan2 7102 0 0 .single 1) 1 1).fits :=
  ⟨plan2_legal _ _ _ (by decide) (by decide) (by decide),
    ⟨fun r => by cases r <;>
        exact ⟨⟨⟨by decide, by decide, by decide⟩, zero_faults_atMost _⟩, Nat.zero_le _, Nat.zero_le _⟩,
      fun r => by cases r <;> decide, rfl⟩,
    show 1 ≤ 255 by decide, show 1 ≤ 255 by decide, show 0 ≤ max32 by decide,
    fun r => by cases r <;> exact ⟨zero_triple_below _ (by decide), Nat.zero_le _, Nat.zero_le _⟩⟩

theorem witness_BatchReadsAnswerTheFigures :
    skid.isRestoring = false ∧ skid.queue.length ≤ 8 ∧ skid.queue[(0 : Byte).toNat]? = some (plan2 7103 900 0 .single 1) ∧
    (plan2 7103 900 0 .single 1).legal ∧ skid.queue.length ≤ (1 : Byte).toNat ∧ (batched none).batch = none ∧
    4 < (5 : Byte).toNat ∧ skid.batch = some (loading2 (plan2 7102 0 0 .single 1) 1 1) ∧
    (loading2 (plan2 7102 0 0 .single 1) 1 1).fits :=
  ⟨rfl, by decide, rfl, plan2_legal _ _ _ (by decide) (by decide) (by decide), by decide, rfl, by decide, rfl,
    loading2_fits⟩

theorem part_fits (r : Run) : ((record 5 7101).runs.get r).fits := by
  unfold RunPart.fits Triple.fits Triple.below FaultCounts.atMost
  cases r <;> decide

theorem record_fits : (record 5 7101).fits := by
  unfold BatchRecord.fits
  and_intros <;> first | exact part_fits | decide

/-- By the cursor (selector 0) and by sequence number; part 5, advance 2; a number that no record has. -/
theorem witness_RecordReadsFollowTheLayout :
    skid.isRestoring = false ∧ skid.historyLegal ∧ skid.history.cursors.get .opr = 5 ∧
    4 < (5 : Byte).toNat ∧ 1 < (2 : Byte).toNat ∧ (4 : Byte).toNat ≤ 4 ∧ (1 : Byte).toNat ≤ 1 ∧
    (∀ e ∈ skid.history.ring, e.record.seq ≠ ((0 : Byte) ++ (0 : Byte) ++ (0 : Byte) ++ (6 : Byte)).toNat) ∧
    skid.history.ring = [] ++ ⟨record 5 7101, .retained⟩ :: [] ∧ (record 5 7101).seq = 5 ∧ (record 5 7101).fits :=
  ⟨rfl, witness_historyLegal, rfl, by decide, by decide, by decide, by decide, by decide, rfl, rfl, record_fits⟩

theorem witness_CursorsAndParcelSearch :
    let v : Nat := ((0 : Byte) ++ (0 : Byte) ++ (0x1B : Byte) ++ (0xBD : Byte)).toNat
    let e : RingEntry := ⟨record 5 7101, .retained⟩
    skid.isRestoring = false ∧ skid.historyLegal ∧ skid.batchSeq ≤ 4294967296 ∧ live.history.ring = [] ∧
    skid.history.ring = e :: [] ∧ skid.history.ring = [] ++ [e] ∧ 1 < (2 : Byte).toNat ∧
    (∀ y ∈ skid.history.ring, y.record.parcel ≠ v + 1) ∧ e ∈ skid.history.ring ∧ (1 : Byte).toNat ≤ 1 ∧ v ≠ 0 ∧
    e.record.parcel = v ∧ skid.history.cursors.get .opr ≤ e.record.seq ∧ e.record.seq ≤ skid.history.cursors.get .opr ∧
    (∀ y ∈ skid.history.ring, e.record.seq ≤ y.record.seq ∧ y.record.seq ≤ e.record.seq) ∧ e.record.fits :=
  ⟨rfl, witness_historyLegal, by decide, rfl, rfl, rfl, by decide, by decide, List.mem_singleton.2 rfl, by decide, by decide,
    by decide, by decide, by decide, by decide, record_fits⟩
/-! ### The hypotheses of the statements are met: proving -/

/-- The part at work with another session. -/
def proved (session : Session) : State := { skid with prover := { skid.prover with session := session } }

/-- Post 2; a session active; none active and the run DEGRADED; none active and the run ready, on both values of post. -/
theorem witness_ProveStartSetsUpTheSession :
    skid.isRestoring = false ∧ 1 < (2 : Byte).toNat ∧ (1 : Byte).toNat ≤ 1 ∧ (0 : Byte).toNat ≤ 1 ∧
    skid.prover.session.state.isActive = true ∧ (proved .reset).prover.session.state.isActive = false ∧
    ((proved .reset).setChannel .run2 { front2 with degraded := true }).isRestoring = false ∧
    (((proved .reset).setChannel .run2 { front2 with degraded := true }).channels.get .run2).degraded ≠ false ∧
    ((proved .reset).channels.get .run2).runState = .flowing ∧ ((proved .reset).channels.get .run2).degraded = false ∧
    (proved .reset).prover.baseVolume ≠ 0 ∧ ((proved .reset).totalizers.get .run2).kx ≠ 0 := by decide

/-- A proving result of run 2 that may still be posted, at a frequency. -/
def result2 (freq : Nat) (posting : PostingStatus) : ProvingResult :=
  ⟨.resultPass, .none, 5, 50, 5, some 30, 998546, freq, posting, 0, false, true, 0⟩

/-- The part at work with a last result of run 2. -/
def resulted (y : ProvingResult) : State :=
  { skid with prover := { skid.prover with results := ⟨none, some y, none, none⟩ } }

/-- A table of OPEN proposals. -/
def crowded (n : Nat) : ChangeControl :=
  ⟨(List.range 6).map fun i => if i < n then some (proposal (210 + i) (.mfPoint .run2 627 998546) .prover .none .concur) else none,
    216, 57⟩

theorem crowded_legal (s : State) (n : Nat) (hn : n ≤ 6) (hs : s.control = crowded n)
    (hc : s.store.everyCheckpoint fun a => legalId a.nextId) : s.tableLegal := by
  unfold State.tableLegal
  rw [hs]
  have h : n ∈ List.range 7 := List.mem_range.2 (by omega)
  have key : ∀ n ∈ List.range 7, (crowded n).slots.length = 6 ∧ (crowded n).ids.Nodup ∧
      (∀ i ∈ (crowded n).ids, 1 ≤ i ∧ i ≤ 65535) ∧ (1 ≤ (crowded n).nextId ∧ (crowded n).nextId ≤ 65535) ∧
      (crowded n).nextId ∉ (crowded n).ids := by decide
  obtain ⟨h1, h2, h3, h4, h5⟩ := key n h
  refine ⟨h1, h2, h3, h4, h5, fun p hp => ?_, hc⟩
  obtain ⟨i, _, hi⟩ := List.mem_map.1 hp
  split at hi
  · obtain rfl := Option.some.inj hi
    exact ⟨nofun, nofun, nofun, fun h => absurd h.1 nofun⟩
  · cases hi

theorem witness_ProveAbortAndPost :
    skid.isRestoring = false ∧ skid.tableLegal ∧ (proved .reset).prover.session.state.isActive = false ∧
    skid.prover.session.state.isActive = true ∧ skid.prover.session.run = some .run2 ∧
    (∀ x ∈ [SessionState.waitDet1, .inPass, .waitStop],
      (proved { session2 with state := x }).prover.session.state.isActive = true) ∧
    skid.prover.results.get .run2 = none :=
  ⟨rfl, witness_tableLegal, rfl, rfl, rfl, by decide, rfl⟩

/-- A posted result, the frequencies 0, 1, 50 000 and 50 001, a full table and one with a free slot. -/
theorem witness_ProveAbortAndPost_results :
    (∀ y ∈ [result2 627 .posted, result2 0 .notPosted, result2 1 .notPosted, result2 50000 .notPosted,
        result2 50001 .notPosted], (resulted y).isRestoring = false ∧ (resulted y).prover.results.get .run2 = some y) ∧
    (resulted (result2 627 .notPosted)).tableLegal ∧ ¬ (resulted (result2 627 .notPosted)).tableFull ∧
    ({ resulted (result2 627 .notPosted) with control := crowded 6 } : State).tableLegal ∧
    ({ resulted (result2 627 .notPosted) with control := crowded 6 } : State).tableFull := by
  refine ⟨by decide, witness_tableLegal, fun h => ?_, crowded_legal _ 6 (by decide) rfl (skid_checkpoints _), fun q hq => ?_⟩
  · obtain ⟨x, hx, _⟩ := h none (by decide)
    cases hx
  · obtain ⟨i, hi, rfl⟩ := List.mem_map.1 hq
    exact ⟨proposal (210 + i) (.mfPoint .run2 627 998546) .prover .none .concur, if_pos (List.mem_range.1 hi), rfl⟩

/-- A pass record that was not valid, and one of 06. -/
def failedPass : PassRecord := ⟨1, .timeout, 0, 0, 0, 0, 0, 0, 0⟩

/-- See `failedPass`. -/
def goodPass : PassRecord := ⟨1, .valid, 200000000, 1678400, 1660000, 104, 1051528, 998547, 627⟩

/-- A session on run 2 in a state, with passes taken and a pass in progress. -/
def proving2 (state : SessionState) (passes : List PassRecord) (pass : PassInProgress) : Session :=
  { session2 with state := state, taken := passes.length, passes := passes, pass := pass }

theorem proving2_legal (state : SessionState) (passes : List PassRecord) (pass : PassInProgress)
    (hn : passes.length < 8) (hp : ∀ y ∈ passes, y = failedPass ∨ y = goodPass) :
    (proving2 state passes pass).legal := by
  refine ⟨fun _ => ⟨rfl, show 2 ≤ 5 by decide, show 5 ≤ 10 by decide, show 5 ≤ 8 by decide, show 8 ≤ 20 by decide,
    show 10 ≤ 50 by decide, show 50 ≤ 5000 by decide, hn, rfl⟩, show passes.length ≤ 20 by omega, show 0 ≤ 65535 by decide,
    fun y hy h => ?_⟩
  rcases hp y hy with rfl | rfl
  · cases h
  · exact ⟨by decide, by decide, by decide, by decide⟩

/-- The state has a session of run 2 with so many failed passes taken: 6 of 8, and 7 of 8. -/
theorem witness_DetectorsAndTimeLimitsDriveTheSession (state : SessionState) (n : Nat) (hn : n < 8) :
    let s := proved (proving2 state (List.replicate n failedPass) ⟨5, false, 0, 0, 0, false, false⟩)
    s.sessionLegal ∧ s.prover.session.run = some .run2 ∧ s.prover.session.state = state ∧
    (∀ ref, (s.prover.detector .det1).reference = some ref → 100000 ≤ ((6 : Tick) - ref).toNat) ∧
    (s.prover.session.taken + 1 < s.prover.session.m ↔ n < 7) ∧
    (s.prover.session.taken + 1 = s.prover.session.m ↔ n = 7) ∧ s.prover.session.pass.tD1 ≠ 6 := by
  refine ⟨proving2_legal _ _ _ (by simpa using hn) fun y hy => .inl (List.eq_of_mem_replicate hy), rfl, rfl,
    fun ref h => absurd (show none = some ref from h) nofun, ?_, ?_, by show (5 : Tick) ≠ 6; decide⟩
  · show (List.replicate n failedPass).length + 1 < 8 ↔ n < 7
    rw [List.length_replicate]; omega
  · show (List.replicate n failedPass).length + 1 = 8 ↔ n = 7
    rw [List.length_replicate]; omega

/-- A bounce 99 999 ticks after the reference and an edge 100 000 ticks after it; the uptimes at and before 300 s. -/
theorem witness_DetectorsAndTimeLimitsDriveTheSession_times :
    let s : State := { skid with prover := { skid.prover with det1 := ⟨true, some 1⟩ }, uptime := 300 }
    (s.prover.detector .det1).reference = some 1 ∧ ((100000 : Tick) - 1).toNat < 100000 ∧
    100000 ≤ ((100001 : Tick) - 1).toNat ∧ s.prover.session.state = .waitDet1 ∧
    300 ≤ (s.uptime - s.prover.session.entryUptime).toNat ∧
    (({ s with uptime := 299 } : State).uptime - s.prover.session.entryUptime).toNat < 300 := by decide

/-- After start-up the session has no run; a bounce and an edge at a detector. -/
theorem witness_DetectorsAndTimeLimitsDriveTheSession_idle :
    let s : State := { live with prover := { live.prover with det1 := ⟨true, some 1⟩ } }
    s.sessionLegal ∧ s.prover.session.run = none ∧ (s.prover.detector .det1).reference = some 1 ∧
    ((100000 : Tick) - 1).toNat < 100000 ∧ 100000 ≤ ((100001 : Tick) - 1).toNat :=
  ⟨⟨nofun, by decide, by decide, fun y h => absurd (show y ∈ [] from h) nofun⟩, rfl, rfl, by decide, by decide⟩

/-- A pass that began at `tD1`, its start pulse found or not. -/
def running (tD1 : Tick) (found : Bool) (nm : Nat) (tD2 : Tick) : PassInProgress :=
  ⟨tD1, found, 1, nm, tD2, false, false⟩

/-- Each session state, with the pulse (stamp 6 200) before, at and after the ticks of the detectors. -/
theorem witness_PulsesPlaceAndEndThePass (state : SessionState) (hs : state.isActive = true) (tD1 tD2 : Tick) (found : Bool)
    (nm : Nat) :
    let s := turning (proving2 state [] (running tD1 found nm tD2)) 0
    s.enabled .run2 ∧ s.sessionLegal ∧ s.tableLegal ∧ s.prover.session.holds .run2 = true ∧
    (s.channels.get .run2).pair ≠ .zero ∧
    (s.channels.get .run2).tracking = .inCycle 6200 [⟨true, false⟩, ⟨true, true⟩, ⟨false, true⟩] false ∧
    countedDirection (classify [⟨true, false⟩, ⟨true, true⟩, ⟨false, true⟩] (false || (false && true))) .forward =
      some .forward ∧
    s.prover.session.state = state ∧ s.prover.session.pass = running tD1 found nm tD2 :=
  ⟨⟨rfl, nofun⟩, proving2_legal _ _ _ (by decide) nofun, witness_tableLegal, by
    show (state.isActive && _) = true
    rw [hs]; rfl, nofun, rfl, by decide, rfl, rfl⟩

/-- The stop pulse of a fifth pass behind four valid ones, which is tested and within L, and of an eighth behind seven
failed ones, which is not. -/
theorem witness_PulsesPlaceAndEndThePass_last :
    let x := proving2 .waitStop (List.replicate 4 goodPass) (running 0 true 1 6000)
    let y := proving2 .waitStop (List.replicate 7 failedPass) (running 0 true 1 6000)
    x.legal ∧ x.holds .run2 = true ∧ x.p ≤ x.passes.length + 1 ∧ x.taken + 1 ≠ x.m ∧
    y.legal ∧ y.holds .run2 = true ∧ y.taken + 1 = y.m ∧
    ((6200 : Tick) - 6000).toNat < 2 ^ 47 ∧ ((6200 : Tick) - 6200).toNat < 2 ^ 47 ∧ ¬ ((6200 : Tick) - 6201).toNat < 2 ^ 47 :=
  ⟨proving2_legal _ _ _ (by decide) fun y hy => .inr (List.eq_of_mem_replicate hy), by decide, by decide, by decide,
    proving2_legal _ _ _ (by decide) fun y hy => .inl (List.eq_of_mem_replicate hy), by decide, by decide, by decide, by decide,
    by decide⟩

theorem witness_ProvingReadsAnswerTheFigures :
    skid.isRestoring = false ∧ skid.prover.fits ∧ 4 < (5 : Byte).toNat ∧ skid.prover.results.get .run1 = none ∧
    (resulted (result2 627 .notPosted)).prover.results.get .run2 = some (result2 627 .notPosted) ∧
    (result2 627 .notPosted).fits ∧ skid.prover.session.passes.length < (1 : Byte).toNat ∧
    (proved (proving2 .waitDet1 [failedPass, goodPass] .clear)).prover.session.passes = [failedPass] ++ goodPass :: [] ∧
    (2 : Byte).toNat = [failedPass].length + 1 ∧ goodPass.fits := by
  refine ⟨rfl, by unfold Prover.fits; decide, by decide, rfl, rfl,
    ⟨by decide, by decide, by decide, fun n h => ?_, by decide, by decide, by decide⟩, by decide, rfl, rfl,
    by unfold PassRecord.fits; decide⟩
  obtain rfl := Option.some.inj h
  decide
/-! ### The hypotheses of the statements are met: change control -/

/-- The part at work with proposal 215 in another form. -/
def offered (q : Proposal) : State := { skid with control := ⟨[some q, none, none, none, none, none], 216, 57⟩ }

theorem offered_slot {q p : Proposal} (h : some p ∈ (offered q).control.slots) : p = q := by
  simpa [offered] using h

theorem offered_table (q : Proposal) (hi : q.id = 215) (hq : q.legal) : (offered q).tableLegal := by
  have ids : (offered q).control.ids = [215] := by rw [← hi]; rfl
  unfold State.tableLegal
  rw [ids]
  refine ⟨rfl, by decide, fun i h => ?_, ⟨show 1 ≤ 216 by decide, show 216 ≤ 65535 by decide⟩,
    show 216 ∉ [215] by decide, fun p h => ?_, skid_checkpoints _⟩
  · rcases List.mem_singleton.1 h with rfl
    exact ⟨by decide, by decide⟩
  · rw [offered_slot h]; exact hq

theorem offered_custody (q : Proposal) (hq : q.change.legal) : (offered q).custodyLegal :=
  ⟨witness_custodyLegal.1, witness_custodyLegal.2.1, fun p h => by rw [offered_slot h]; exact hq,
    witness_custodyLegal.2.2.2⟩

/-- Arguments that spell no change; a change at the ends of its ranges; a free slot and none; an id of no proposal. -/
theorem witness_ProposalsArePostedAndEnded :
    skid.isRestoring = false ∧ skid.tableLegal ∧ ([] : List Byte).length ≤ 60 ∧ (∀ c : Change, c.legal → [] ≠ proposeBytes c) ∧
    (Change.kFactor .run2 1000).legal ∧ (Change.kFactor .run2 99999999).legal ∧ ¬ skid.tableFull ∧
    ({ skid with control := crowded 6 } : State).tableLegal ∧ ({ skid with control := crowded 6 } : State).tableFull ∧
    ((0 : Byte) ++ (1 : Byte)).toNat ∉ skid.control.ids ∧
    skid.control.slots[0]? = some (some (proposal 215 (.mfPoint .run2 627 998546) .prover .none .concur)) ∧
    ((0 : Byte) ++ (0xD7 : Byte)).toNat = 215 := by
  refine ⟨rfl, witness_tableLegal, by decide, fun c _ h => by cases c <;> exact absurd h nofun, ⟨by decide, by decide⟩,
    ⟨by decide, by decide⟩, fun h => ?_, crowded_legal _ 6 (by decide) rfl (skid_checkpoints _), fun q hq => ?_, by decide,
    rfl, by decide⟩
  · obtain ⟨x, hx, _⟩ := h none (by decide)
    cases hx
  · obtain ⟨i, hi, rfl⟩ := List.mem_map.1 hq
    exact ⟨proposal (210 + i) (.mfPoint .run2 627 998546) .prover .none .concur, if_pos (List.mem_range.1 hi), rfl⟩

/-- Proposals open and ended, without and with a verdict, of each originator. -/
theorem witness_ProposalsArePostedAndEnded_forms :
    let q := proposal 215 (.proverVolume 250000)
    let open1 := q .opr .concur .none
    let open2 := q .wit .none .concur
    let gone : Proposal := { q .opr .concur .none with state := .withdrawn }
    (offered open1).tableLegal ∧ (offered open2).tableLegal ∧ (offered gone).tableLegal ∧
    (offered open1).isRestoring = false ∧ (offered gone).isRestoring = false ∧
    (offered open1).control.slots[0]? = some (some open1) ∧ (offered gone).control.slots[0]? = some (some gone) ∧
    gone.state ≠ .opened ∧ open1.oprVerdict ≠ .none ∧ open1.witVerdict = .none ∧ open2.oprVerdict = .none :=
  ⟨offered_table _ rfl ⟨nofun, nofun, nofun, fun h => absurd h.2 nofun⟩,
    offered_table _ rfl ⟨nofun, nofun, nofun, fun h => absurd h.1 nofun⟩, offered_table _ rfl ⟨nofun, trivial⟩,
    rfl, rfl, rfl, rfl, nofun, nofun, rfl, rfl⟩

/-- A proposal posted at uptime 0 expires at 900 s and not at 899 s. -/
theorem witness_ProposalsArePostedAndEnded_expiry :
    let s : State := { skid with uptime := 900 }
    s.isRestoring = false ∧ s.tableLegal ∧ 900 ≤ (s.uptime - 0).toNat ∧ ((899 : Seconds) - 0).toNat < 900 ∧ [0].Nodup ∧
    (∀ slot : Nat, slot ∈ [0] ↔ ∃ q, s.control.slots[slot]? = some (some q) ∧ q.state = .opened ∧
      900 ≤ (s.uptime - q.created).toNat) ∧ ((s.ports.get .opr).events.get .proposal).count ≤ 255 := by
  refine ⟨rfl, witness_tableLegal, by decide, by decide, by decide, fun slot => ⟨fun h => ?_, fun ⟨q, h, _⟩ => ?_⟩, by decide⟩
  · obtain rfl := List.mem_singleton.1 h
    exact ⟨_, rfl, rfl, by decide⟩
  · match slot, h with
    | 0, _ => exact List.mem_singleton.2 rfl
    | 1, h | 2, h | 3, h | 4, h | 5, h => cases h
    | n + 6, h => cases h

/-- OPR's concurrence with a change of each kind, the first verdict or the second. -/
theorem witness_ConcurrenceAppliesTheChange (c : Change) (hc : c.legal) (wit : Verdict) (hw : wit ≠ .reject) :
    let q := proposal 215 c .prover .none wit
    let s := offered q
    Port.opr ≠ .sup ∧ s.isRestoring = false ∧ s.tableLegal ∧ s.custodyLegal ∧ s.control.slots[0]? = some (some q) ∧
    q.id = ((0 : Byte) ++ (0xD7 : Byte)).toNat ∧ q.state = .opened ∧ q.oprVerdict = .none ∧ q.witVerdict = wit :=
  ⟨nofun, rfl, offered_table _ rfl ⟨nofun, nofun, hw, fun h => absurd h.1 nofun⟩, offered_custody _ hc, rfl, by
    show 215 = _; decide, rfl, rfl, rfl⟩

/-- The store of the part that takes the proposal is legal; no other proposal is superseded. -/
theorem witness_ConcurrenceAppliesTheChange_store (q : Proposal) :
    (offered q).storeLegal ∧ ([] : List Nat).Nodup ∧
    ∀ j : Nat, j ∈ ([] : List Nat) ↔ j ≠ 0 ∧ ∃ x, (offered q).control.slots[j]? = some (some x) ∧ x.state = .opened ∧
      sameParameter q.change x.change := by
  refine ⟨witness_storeLegal, List.nodup_nil, fun j => ⟨nofun, fun ⟨hj, x, hx, _⟩ => ?_⟩⟩
  obtain ⟨k, rfl⟩ := Nat.exists_eq_succ_of_ne_zero hj
  have h : (List.replicate 5 (none : Option Proposal))[k]? = some (some x) := hx
  exact absurd (List.eq_of_mem_replicate (List.mem_of_getElem? h)) nofun

theorem setup2_legal : SamplerSetup.legal ⟨1000, 10, 1000⟩ := by unfold SamplerSetup.legal; decide

theorem legal_kinds : (Change.kFactor .run2 420000).legal ∧ (Change.proverVolume 20000).legal ∧
    (Change.mfPoint .run2 627 998546).legal ∧ (Change.mfPointDelete .run2 400).legal ∧
    (Change.mfPointDelete .run2 401).legal := by
  unfold Change.legal CurvePoint.legal legalFactor
  decide

/-- A change of each kind; a point that applies, one that finds the curve full, a deletion that finds a point, and none. -/
theorem witness_ConcurrenceAppliesTheChange_kinds :
    (Change.kFactor .run2 420000).legal ∧ (Change.proverVolume 20000).legal ∧ (Change.samplerSetup 1000 10 1000).legal ∧
    (Change.mfPoint .run2 627 998546).legal ∧ (Change.mfPointDelete .run2 400).legal ∧ (Change.mfPointDelete .run2 401).legal ∧
    (∃ l, applyPoint ⟨627, 998546⟩ curve2 = .ok l) ∧ (∃ l, deletePoint 400 curve2 = .ok l) ∧
    deletePoint 401 curve2 = .error .noPoint ∧
    applyPoint ⟨1000, 998546⟩ (flat [100, 200, 300, 400, 500, 600, 700, 800]) = .error .curveFull :=
  ⟨legal_kinds.1, legal_kinds.2.1, setup2_legal, legal_kinds.2.2.1, legal_kinds.2.2.2.1, legal_kinds.2.2.2.2,
    ⟨[⟨400, 1001200⟩, ⟨627, 998546⟩, ⟨800, 999400⟩], by decide⟩, ⟨[⟨800, 999400⟩], by decide⟩, by decide, by decide⟩

/-! ### The hypotheses of the statements are met: sampler -/

/-- The part at work with another sampler. -/
def pacing2 (x : Sampler) : State := { skid with sampler := x }

/-- A sampler set up at G = 1 000, S = 10, C = 1 000. -/
def sampler2 : Sampler := skid.sampler

theorem pacing2_legal (x : Sampler) (hp : x.pendingGrabs.length ≤ 4) (hu : x.setup = some ⟨1000, 10, 1000⟩)
    (hf : x.fill ≤ 1000) (hfull : x.full = x.isFull) (hc : x.counts.accounted (ownGrabs x.pendingGrabs)) :
    (pacing2 x).samplerLegal := by
  refine ⟨hp, fun u h => ?_, fun _ => hfull, hc, fun h => absurd (show some _ = none from h) nofun, skid_checkpoints _,
    skid_everyRecord (fun x => x.grabs.accounted x.pendingGrabs) rfl⟩
  obtain rfl := Option.some.inj (hu.symm.trans h)
  exact hf

/-- No grab due (849 + 150), one due (850 + 150) from IDLE, in a gap with three and with four waiting, under HOLD, and with
the receiver full; two due (1 850 + 150), also where only one may still fall due, and where none may. -/
theorem witness_GrabsFallDueByGrossVolume :
    let samplers : List Sampler := [
      { sampler2 with volume := 849 }, { sampler2 with volume := 850 },
      { sampler2 with
        volume := 850, output := .gap 9, pendingGrabs := [.own, .own, .carried], counts := ⟨2, 0, 0, 0, 0, 1⟩ },
      { sampler2 with
        volume := 850, output := .gap 9, pendingGrabs := [.own, .own, .carried, .carried], counts := ⟨2, 0, 0, 0, 0, 2⟩ },
      { sampler2 with volume := 850, hold := true }, { sampler2 with volume := 850, fill := 1000, full := true },
      { sampler2 with volume := 1850 }]
    let b := loading2 (plan2 7102 0 0 .single 1) 1 1
    (∀ x ∈ samplers, (pacing2 x).enabled .run2 ∧ (pacing2 x).samplerLegal) ∧
    samplers.map (fun x => (x.volume + closingGross (pacing2 x) .run2) / 1000) = [0, 1, 1, 1, 1, 1, 2] ∧
    (skid.totalizers.get .run2).kx ≠ 0 ∧ skid.batch = some b ∧ inRunSet b.plan.runSet .run2 = true ∧ b.plan.target = 0 ∧
    sampler2.setup = some ⟨1000, 10, 1000⟩ ∧ SamplerSetup.legal ⟨1000, 10, 1000⟩ ∧ sampler2.counts.due + 2 ≤ 4294967295 ∧
    ({ sampler2 with volume := 1850, counts := ⟨4294967294, 4294967294, 0, 0, 0, 0⟩ } : Sampler).counts.due < 4294967295 ∧
    4294967295 ≤ ({ sampler2 with counts := ⟨4294967295, 4294967295, 0, 0, 0, 0⟩ } : Sampler).counts.due := by
  refine ⟨fun x hx => ⟨⟨rfl, nofun⟩, ?_⟩, by decide, by decide, rfl, by decide, rfl, rfl,
    setup2_legal, by decide, by decide, by decide⟩
  simp only [List.mem_cons, List.not_mem_nil, or_false] at hx
  rcases hx with rfl | rfl | rfl | rfl | rfl | rfl | rfl <;>
    exact pacing2_legal _ (by decide) rfl (by decide) (by decide) (by unfold GrabCounts.accounted; decide)

theorem witness_SamplerCommandsAndOutput :
    skid.isRestoring = false ∧ (1 : Byte).toNat ≤ 1 ∧ 1 < (2 : Byte).toNat ∧ pacing.sampler.output = .pulse 2200000 ∧
    (∀ e, skid.sampler.output ≠ .pulse e) ∧ (∀ e, skid.sampler.output ≠ .gap e) ∧ skid.sampler.fill < 4294967296 ∧
    (pacing2 { sampler2 with output := .gap 9, pendingGrabs := [] }).sampler.output = .gap 9 ∧
    (pacing2 { sampler2 with output := .gap 9, pendingGrabs := [.own] }).sampler.pendingGrabs = .own :: [] ∧
    State.reset.isRestoring = true :=
  ⟨rfl, by decide, by decide, rfl, nofun, nofun, by decide, rfl, rfl, rfl⟩

theorem sampler2_fits (output : GrabOutput) : { sampler2 with output := output }.fits := by
  refine ⟨fun u h => ?_, ?_⟩
  · obtain rfl := Option.some.inj h
    exact setup2_legal
  · simp [sampler2, skid, Sampler.reset, GrabCounts.zero]

/-- The summary, an id of no proposal, an OPEN proposal; IDLE, and a pulse and a gap with time left. -/
theorem witness_CustodyAndSamplerReadsAnswerTheFigures :
    let q := proposal 215 (.mfPoint .run2 627 998546) .prover .none .concur
    skid.isRestoring = false ∧ skid.tableLegal ∧ skid.control.changeCount ≤ max32 ∧
    ((0 : Byte) ++ (1 : Byte)).toNat ≠ 0 ∧ ((0 : Byte) ++ (1 : Byte)).toNat ∉ skid.control.ids ∧
    skid.control.slots[0]? = some (some q) ∧ q.id = ((0 : Byte) ++ (0xD7 : Byte)).toNat ∧ q.fits ∧
    (∀ o ∈ [GrabOutput.idle, .pulse 9, .gap 9], (pacing2 { sampler2 with output := o }).isRestoring = false ∧
      (pacing2 { sampler2 with output := o }).sampler.fits) ∧ ((9 : Tick) - skid.tick).toNat = 9 :=
  ⟨rfl, witness_tableLegal, by decide, by decide, by decide, rfl, by decide,
    ⟨⟨by decide, by decide⟩, ⟨by decide, by decide, by decide, by decide⟩, nofun, nofun⟩,
    fun o _ => ⟨rfl, sampler2_fits o⟩, by decide⟩

/-! ### The hypotheses of the statements are met: retention store and start-up -/

/-- The part at work with another store. -/
def storing (x : Store) : State := { skid with store := x }

/-- A store that writes the first of some jobs, the payload that of a checkpoint. -/
def writing2 (rest : List Job) (fail active : Bool) : Store :=
  { skid.store with
    status := .writing, queue := .checkpoint :: rest, powerFail := fail, pfailActive := active
    writing := some ⟨.checkpoint ⟨1, skid.captureCheckpoint⟩ false, 200000⟩ }

theorem writing2_legal (rest : List Job) (fail active : Bool) (h : rest.length ≤ 3) (hf : fail = true → active = true) :
    (storing (writing2 rest fail active)).storeLegal :=
  ⟨show rest.length + 1 ≤ 4 by omega, fun _ => ⟨.checkpoint, rest, _, rfl, rfl, trivial⟩, fun h => absurd rfl h, nofun, nofun,
    hf⟩

/-- Nothing being written; a write with jobs waiting, with none, with the queue full; PFAIL clear and active; HALTED;
RESTORING; a CHECKPOINT waiting and none; 59 s and 60 s since the reference. -/
theorem witness_StoreCommandsWorkTheQueue :
    skid.storeLegal ∧ skid.store.writing = none ∧ skid.store.pfailActive = false ∧ skid.isRestoring = false ∧
    (∀ rest ∈ [[], [.parameters, .checkpoint], [.record (record 5 7101), .parameters, .parameters]], ∀ fail : Bool,
      (storing (writing2 rest fail fail)).storeLegal ∧ (writing2 rest fail fail).writing.isSome = true) ∧
    (writing2 [] true true).pfailActive = true ∧ (writing2 [] true true).status ≠ .halted ∧
    (storing { skid.store with status := .halted, powerFail := true, pfailActive := true }).storeLegal ∧
    State.reset.storeLegal ∧ State.reset.isRestoring = true ∧
    (skid.channels.get .run2).runState = .flowing ∧
    60 ≤ (({ skid with uptime := 60 } : State).uptime - skid.store.periodicRef).toNat ∧
    (({ skid with uptime := 59 } : State).uptime - skid.store.periodicRef).toNat < 60 ∧
    (∀ r, (live.channels.get r).runState ≠ .flowing) := by
  refine ⟨witness_storeLegal, rfl, rfl, rfl, fun rest h fail => ⟨writing2_legal _ _ _ ?_ id, rfl⟩, rfl, nofun,
    ⟨by decide, nofun, fun _ => ⟨rfl, rfl⟩, fun _ => rfl, nofun, fun _ => rfl⟩,
    ⟨by decide, nofun, fun _ => ⟨rfl, rfl⟩, nofun, fun _ => rfl, nofun⟩, rfl, rfl, by decide, by decide, fun r => ?_⟩
  · simp only [List.mem_cons, List.not_mem_nil, or_false] at h
    rcases h with rfl | rfl | rfl <;> decide
  · cases r <;> exact nofun

/-- At the last grab due of a batch A is still reduced below G, and no further grab falls due (R150). -/
theorem test_last_grab_due :
    (State.dueGrabs 1000 2 (pacing2 { sampler2 with
      volume := 2000, counts := ⟨4294967294, 4294967294, 0, 0, 0, 0⟩ })).sampler.volume = 0 ∧
    (State.dueGrabs 1000 2 (pacing2 { sampler2 with
      volume := 2000, counts := ⟨4294967294, 4294967294, 0, 0, 0, 0⟩ })).sampler.counts.due = 4294967295 := by decide

/-- A job of each kind being written, with its area's copies marked in each way, and a sector that must be erased first:
the slot of record 29 is that of record 1. -/
theorem witness_StoreCommandsWorkTheQueue_jobs :
    (∀ p : Payload, ∀ j, p.belongsTo j → (storing { skid.store with
      status := .writing, queue := [j], writing := some ⟨p, 5⟩ }).storeLegal) ∧
    Payload.belongsTo (.parameters ⟨1, skid.captureParameters⟩ true) .parameters ∧
    Payload.belongsTo (.record (record 5 7101)) (.record (record 5 7101)) ∧
    Copies.nextWrite (⟨some ⟨1, ()⟩, some ⟨2, ()⟩⟩ : Copies Unit) false 3 ∧
    Copies.nextWrite (⟨none, none⟩ : Copies Unit) false 1 ∧
    inSectorOf ((List.replicate 28 none).set 0 (some (record 1 7000))) 29 (record 1 7000) ∧
    (record 1 7000).seq < 29 - (29 - 1) % 28 % 4 := by
  refine ⟨fun p j h => ⟨show 1 ≤ 4 by decide, fun _ => ⟨j, [], _, rfl, rfl, h⟩, fun h => absurd rfl h, nofun, nofun, nofun⟩,
    trivial, rfl, ⟨?_, nofun, nofun, nofun⟩, ⟨nofun, nofun, nofun, fun _ => ⟨rfl, rfl⟩⟩, ⟨0, by decide, rfl⟩, by decide⟩
  intro x y h
  cases h
  decide

/-- The part after a reset, its store keeping what the part at work had captured and the record of a batch. -/
def rebooted (seq : Nat) : State :=
  { State.reset with
    store := { Store.reset with
      parameters := ⟨some ⟨1, skid.captureParameters⟩, none⟩, checkpoints := ⟨none, some ⟨3, skid.captureCheckpoint⟩⟩
      slots := (List.replicate 28 none).set (slotOf seq) (some (record seq 7101)) } }

theorem rebooted_slots (seq : Nat) : slotsLegal (rebooted seq).store.slots := by
  refine ⟨by simp [rebooted], fun i r h => ?_⟩
  rcases Decidable.em (i = slotOf seq) with rfl | hi
  · have h' : ((List.replicate 28 none).set (slotOf seq) (some (record seq 7101)))[slotOf seq]? = some (some r) := h
    rw [List.getElem?_set_self' ] at h'
    revert h'
    cases (List.replicate 28 (none : Option BatchRecord))[slotOf seq]? <;> intro h' <;> simp at h'
    rw [← h']; rfl
  · have h' : ((List.replicate 28 none).set (slotOf seq) (some (record seq 7101)))[i]? = some (some r) := h
    rw [List.getElem?_set_ne (Ne.symm hi)] at h'
    exact absurd (List.eq_of_mem_replicate (List.mem_of_getElem? h')) nofun

theorem rebooted_held {seq : Nat} {q : BatchRecord} (h : some q ∈ (rebooted seq).store.slots) : q = record seq 7101 := by
  rcases List.mem_or_eq_of_mem_set h with h | h
  · exact absurd (List.eq_of_mem_replicate h) nofun
  · exact Option.some.inj h

/-- Records without a checkpoint; a checkpoint of a part with no batch open, its setup marked unset. -/
theorem witness_RestoreCompletionRestoresTheBlocks_parts :
    let bare (a : CheckpointArea) : State := { rebooted 5 with store := { (rebooted 5).store with
      checkpoints := ⟨some ⟨1, a⟩, none⟩ } }
    (bare { (batched none).captureCheckpoint with setupSet := false }).isRestoring = true ∧
    (batched none).captureCheckpoint.batch = none ∧ 1 ≤ (batched none).captureCheckpoint.batchSeq ∧
    skid.captureCheckpoint.setupSet = true ∧ skid.captureCheckpoint.volume < 1000 ∧
    ({ (rebooted 5).store with checkpoints := ⟨none, none⟩ }).checkpoints.newest = none ∧
    some (record 5 7101) ∈ (rebooted 5).store.slots ∧
    ∀ y, some y ∈ (rebooted 5).store.slots → y.seq ≤ (record 5 7101).seq :=
  ⟨rfl, rfl, by decide, rfl, by decide, rfl, by decide, fun y h => by rw [rebooted_held h]⟩

/-- A factory-new part; a restart with the batch still open (newest record 5, the checkpoint's counter 6), and one whose
batch was closed after the checkpoint (newest record 6). -/
theorem witness_RestoreCompletionRestoresTheBlocks :
    skid.isRestoring = false ∧ State.reset.isRestoring = true ∧ State.reset.storeLegal ∧ slotsLegal State.reset.store.slots ∧
    (∀ seq, (rebooted seq).isRestoring = true ∧ (rebooted seq).storeLegal ∧ slotsLegal (rebooted seq).store.slots ∧
      ((rebooted seq).store.parameters.newest.map Marked.contents) = some skid.captureParameters ∧
      ((rebooted seq).store.checkpoints.newest.map Marked.contents) = some skid.captureCheckpoint ∧
      (∀ q, some q ∈ (rebooted seq).store.slots → q.seq = seq)) ∧
    skid.captureCheckpoint.batchSeq = 6 ∧ skid.captureCheckpoint.batch.isSome = true ∧
    some (record 6 7101) ∈ (rebooted 6).store.slots ∧ (rebooted 6).store.pfailActive = false := by
  refine ⟨rfl, rfl, ⟨by decide, nofun, fun _ => ⟨rfl, rfl⟩, nofun, fun _ => rfl, nofun⟩, ⟨by decide, fun i r h => ?_⟩,
    fun seq => ⟨rfl, ⟨show 0 ≤ 4 by decide, nofun, fun _ => ⟨rfl, rfl⟩, nofun, fun _ => rfl, nofun⟩, rebooted_slots seq, rfl, rfl,
      fun q h => by rw [rebooted_held h]; rfl⟩, rfl, rfl, by decide, rfl⟩
  exact absurd (List.eq_of_mem_replicate (List.mem_of_getElem? h)) nofun

end Sys2Proof.Tests
end

section
/-! PROOFS. What the retention store and the ring hold, through every operation of the store: one lemma per operation, for any
property of checkpoints and any property of records (R85, R184 to R189). -/

namespace Sys2Proof.Machine

/-! ### What is held -/

/-- The records of the ring, without their retention states. -/
def History.records (h : History) : List BatchRecord := h.ring.map RingEntry.record

@[simp] theorem History.records_lose (h : History) (seqs : List Nat) : (h.lose seqs).records = h.records := by
  simp only [History.records, History.lose, List.map_map]
  congr 1; funext e
  simp only [Function.comp, RingEntry.lose]; split <;> rfl

@[simp] theorem History.records_complete (h : History) (p : Payload) : (h.complete p).records = h.records := by
  cases p with
  | record r =>
    simp only [History.records, History.complete, List.map_map]
    congr 1; funext e
    simp only [Function.comp, RingEntry.complete]; split <;> rfl
  | parameters | checkpoint => rfl

/-- What a job in progress writes has the property that is asked of its kind. -/
def Payload.has (P : CheckpointArea → Prop) (Q : BatchRecord → Prop) : Payload → Prop
  | .parameters _ _ => True
  | .checkpoint m _ => P m.contents
  | .record r => Q r

/-- A waiting job's record has a property. -/
def Job.has (Q : BatchRecord → Prop) : Job → Prop
  | .record r => Q r
  | _ => True

/-- Every checkpoint that the store holds or writes has one property, and every record that it holds, writes or is to write
another. -/
structure Store.Retains (P : CheckpointArea → Prop) (Q : BatchRecord → Prop) (x : Store) : Prop where
  first   : ∀ m, x.checkpoints.first = some m → P m.contents
  second  : ∀ m, x.checkpoints.second = some m → P m.contents
  writing : ∀ w, x.writing = some w → w.payload.has P Q
  slots   : ∀ r, some r ∈ x.slots → Q r
  queue   : ∀ j ∈ x.queue, j.has Q

/-- The same of the store and the ring together. -/
structure State.Retains (P : CheckpointArea → Prop) (Q : BatchRecord → Prop) (s : State) : Prop where
  store : s.store.Retains P Q
  ring  : ∀ r ∈ s.history.records, Q r

section
variable {P : CheckpointArea → Prop} {Q : BatchRecord → Prop} {s t : State} {x : Store}

/-- The predicates of the invariants, in these terms. -/
theorem State.retains_iff : s.Retains P Q ↔ s.store.everyCheckpoint P ∧ s.everyRecord Q := by
  constructor
  · rintro ⟨⟨h1, h2, h3, h4, h5⟩, h6⟩
    refine ⟨⟨⟨h1, h2⟩, fun w m b hw hp => ?_⟩, fun e he => h6 _ (List.mem_map_of_mem he), h4, fun r hr => h5 _ hr,
      fun w r hw hp => ?_⟩
    · have := h3 w hw; rwa [hp] at this
    · have := h3 w hw; rwa [hp] at this
  · rintro ⟨⟨⟨h1, h2⟩, h3⟩, h4, h5, h6, h7⟩
    refine ⟨⟨h1, h2, fun w hw => ?_, h5, fun j hj => ?_⟩, fun r hr => ?_⟩
    · cases hp : w.payload with
      | parameters => trivial
      | checkpoint m b => exact h3 w m b hw hp
      | record r => exact h7 w r hw hp
    · cases j with
      | record r => exact h6 r hj
      | parameters | checkpoint => trivial
    · obtain ⟨e, he, rfl⟩ := List.mem_map.1 hr; exact h4 e he

/-- Nothing new is held by a state with the same records in its ring and the same store. -/
theorem State.Retains.of_eq (h : s.Retains P Q) (hs : t.store = s.store) (hr : t.history.records = s.history.records) :
    t.Retains P Q := ⟨hs ▸ h.store, hr ▸ h.ring⟩

/-! ### The contents of a checkpoint -/

theorem State.captureRun_congr (hc : t.channels = s.channels) (ht : t.totalizers = s.totalizers) :
    t.captureRun = s.captureRun := by
  funext r; simp only [State.captureRun, hc, ht]

theorem State.captureCheckpoint_congr (hc : t.channels = s.channels) (ht : t.totalizers = s.totalizers)
    (hb : t.batch = s.batch) (hx : t.sampler = s.sampler) (hq : t.queue = s.queue) (hn : t.batchSeq = s.batchSeq)
    (hi : t.control = s.control) : t.captureCheckpoint = s.captureCheckpoint := by
  simp only [State.captureCheckpoint, State.captureRun_congr hc ht, hb, hx, hq, hn, hi]

/-! ### Jobs -/

theorem mem_of_mem_eraseSector {slots : List (Option BatchRecord)} {seq : Nat} {r : BatchRecord}
    (h : some r ∈ eraseSector slots seq) : some r ∈ slots := by
  have gone (l : List (Option BatchRecord)) (i : Nat) (h : some r ∈ l.set i none) : some r ∈ l :=
    (List.mem_or_eq_of_mem_set h).resolve_right nofun
  exact gone _ _ (gone _ _ (gone _ _ (gone _ _ h)))

/-- A copy erased holds nothing new (R184). -/
theorem Store.Retains.eraseCheckpoint (h : x.Retains P Q) (second : Bool) :
    (∀ m, (x.checkpoints.erase second).first = some m → P m.contents) ∧
      ∀ m, (x.checkpoints.erase second).second = some m → P m.contents := by
  cases second
  · exact ⟨fun _ hm => absurd hm.symm (Option.some_ne_none _), h.second⟩
  · exact ⟨h.first, fun _ hm => absurd hm.symm (Option.some_ne_none _)⟩

/-- A job that begins writes what the queue holds, or the checkpoint of its own event (R184, R186). -/
theorem State.Retains.beginJob (h : s.Retains P Q) (hc : P s.captureCheckpoint) : s.beginJob.Retains P Q := by
  have held := h.store
  unfold State.beginJob
  dsimp only
  split
  · exact ⟨{ held with writing := fun _ hw => absurd hw.symm (Option.some_ne_none _) }, h.ring⟩
  · exact ⟨{ held with writing := fun w hw => by cases hw; trivial }, h.ring⟩
  · have erased := held.eraseCheckpoint s.store.checkpoints.writesSecond
    exact ⟨{ held with first := erased.1, second := erased.2, writing := fun w hw => by cases hw; exact hc }, h.ring⟩
  · rename_i r rest hq
    have hr : Q r := held.queue (.record r) (by simp [hq])
    split
    · refine ⟨?_, by simpa using h.ring⟩
      rw [State.raiseRetentionTimes_store]
      exact { held with
        slots := fun q hm => held.slots q (mem_of_mem_eraseSector hm)
        writing := fun w hw => by cases hw; exact hr }
    · exact ⟨{ held with
        slots := fun q hm => held.slots q ((List.mem_or_eq_of_mem_set hm).resolve_right nofun)
        writing := fun w hw => by cases hw; exact hr }, h.ring⟩

theorem State.Retains.joinQueue {j : Job} (h : s.Retains P Q) (hc : P s.captureCheckpoint) (hj : j.has Q) :
    (s.joinQueue j).Retains P Q := by
  have joined : (s.setStore { s.store with queue := s.store.queue ++ [j] }).Retains P Q := by
    refine ⟨{ h.store with queue := fun i hi => ?_ }, h.ring⟩
    rcases List.mem_append.1 hi with hi | hi
    · exact h.store.queue i hi
    · cases List.mem_singleton.1 hi; exact hj
  unfold State.joinQueue
  dsimp only
  split
  · exact joined.beginJob hc
  · exact joined

theorem State.Retains.loseRecord {seq : Nat} (h : s.Retains P Q) : (s.loseRecord seq).Retains P Q :=
  h.of_eq (by simp) (by simp [State.loseRecord])

theorem State.Retains.requestRecord {r : BatchRecord} (h : s.Retains P Q) (hc : P s.captureCheckpoint) (hr : Q r) :
    (s.requestRecord r).Retains P Q := by
  unfold State.requestRecord
  split
  · exact h.joinQueue hc hr
  · exact h.loseRecord

/-- An owed mark holds nothing. -/
theorem State.Retains.owe (h : s.Retains P Q) (a b : Bool) :
    (s.setStore { s.store with owedParameters := a, owedCheckpoint := b }).Retains P Q := ⟨{ h.store with }, h.ring⟩

theorem State.Retains.requestParameters (h : s.Retains P Q) (hc : P s.captureCheckpoint) :
    s.requestParameters.Retains P Q := by
  unfold State.requestParameters
  split
  · exact h.owe true _
  · split
    · exact h
    · split
      · exact h.joinQueue hc trivial
      · exact h.owe true _

theorem State.Retains.requestCheckpoint (h : s.Retains P Q) (hc : P s.captureCheckpoint) :
    s.requestCheckpoint.Retains P Q := by
  unfold State.requestCheckpoint
  split
  · exact h
  · split
    · exact h.joinQueue hc trivial
    · exact h.owe _ true

/-- The owed kinds that join the queue are no records (R186). -/
theorem Store.Retains.joinOwed (h : x.Retains P Q) : x.joinOwed.Retains P Q := by
  have joined {j : Job} (l : List Job) (hl : ∀ i ∈ l, i.has Q) (hj : j.has Q) : ∀ i ∈ l ++ [j], i.has Q := by
    intro i hi
    rcases List.mem_append.1 hi with hi | hi
    · exact hl i hi
    · cases List.mem_singleton.1 hi; exact hj
  unfold Store.joinOwed
  dsimp only
  split <;> split
  · exact { h with queue := joined _ (joined _ h.queue trivial) trivial }
  · exact { h with queue := joined _ h.queue trivial }
  · exact { h with queue := joined _ h.queue trivial }
  · exact h

theorem State.Retains.afterCompletion (h : s.Retains P Q) (hc : P s.captureCheckpoint) :
    s.afterCompletion.Retains P Q := by
  unfold State.afterCompletion
  split
  · exact ⟨{ h.store with writing := fun _ hw => absurd hw.symm (Option.some_ne_none _) }, h.ring⟩
  · exact h.beginJob hc

/-- A marker put in place marks what the job in progress wrote (R184, R185). -/
theorem Store.Retains.commit {p : Payload} (h : x.Retains P Q) (hp : p.has P Q) : (x.commit p).Retains P Q := by
  cases p with
  | parameters m b => exact { h with }
  | checkpoint m b =>
    cases b with
    | false => exact { h with first := fun n hn => by cases hn; exact hp }
    | true => exact { h with second := fun n hn => by cases hn; exact hp }
  | record r =>
    refine { h with slots := fun q hq => ?_ }
    rcases List.mem_or_eq_of_mem_set hq with hq | hq
    · exact h.slots q hq
    · cases hq; exact hp

/-- What a completed job leaves in the queue and in progress. -/
theorem Store.Retains.finish (h : x.Retains P Q) :
    Store.Retains P Q { x with queue := x.queue.drop 1, writing := none } :=
  { h with writing := fun _ hw => absurd hw.symm (Option.some_ne_none _), queue := fun j hj => h.queue j (List.mem_of_mem_drop hj) }

theorem Store.commit_queue (x : Store) (p : Payload) : (x.commit p).queue = x.queue := by cases p <;> rfl

theorem State.Retains.jobComplete (h : s.Retains P Q) (hc : P s.captureCheckpoint)
    (ht : execJobComplete s = .next t) : t.Retains P Q := by
  unfold execJobComplete at ht
  split at ht
  · cases ht; exact h
  · rename_i w hw
    have done : Store.Retains P Q
        { s.store.commit w.payload with queue := s.store.queue.drop 1, writing := none } := by
      have := (h.store.commit (h.store.writing w hw)).finish
      rwa [Store.commit_queue] at this
    have ring : ∀ r ∈ (s.history.complete w.payload).records, Q r := by simpa using h.ring
    cases ht
    refine State.Retains.afterCompletion ⟨?_, ring⟩ hc
    dsimp only
    split
    · exact done
    · exact done.joinOwed

/-! ### Power fail (R188, R189) -/

/-- The warning drops jobs, and drops none that it keeps (R188). -/
theorem State.Retains.dropWaiting (h : s.Retains P Q) (kept : Job → Bool) (owed : Bool) :
    (s.setStore { s.store with
      powerFail := true, queue := s.store.queue.take 1 ++ s.store.waiting.filter kept, owedParameters := owed }).Retains
      P Q := by
  refine ⟨{ h.store with queue := fun j hj => ?_ }, h.ring⟩
  rcases List.mem_append.1 hj with hj | hj
  · exact h.store.queue j (List.mem_of_mem_take hj)
  · exact h.store.queue j (List.mem_of_mem_drop (List.mem_of_mem_filter hj))

theorem State.Retains.actOnPowerFail (h : s.Retains P Q) (hc : P s.captureCheckpoint) :
    s.actOnPowerFail.Retains P Q := by
  have lost (n : Nat) (l : List Nat) {u : State} (hu : u.Retains P Q) :
      (State.raiseRetentionTimes .recordNotRetained n (u.setHistory (u.history.lose l))).Retains P Q :=
    hu.of_eq (by simp) (by simp)
  have raised {u : State} (c : RetentionCause) (hu : u.Retains P Q) : (u.raiseRetention c).Retains P Q :=
    hu.of_eq (by simp) (by simp)
  unfold State.actOnPowerFail
  split
  · dsimp only
    split
    · refine raised _ ((lost _ _ (h.dropWaiting _ _)).joinQueue ?_ trivial)
      rwa [State.captureCheckpoint_congr (s := s) (by simp) (by simp) (by simp) (by simp) (by simp) (by simp) (by simp)]
    · exact raised _ (lost _ _ (h.dropWaiting _ _))
  · exact h

theorem State.Retains.powerFailWarning (h : s.Retains P Q) (hc : P s.captureCheckpoint)
    (ht : execPowerFailWarning s = .next t) : t.Retains P Q := by
  unfold execPowerFailWarning at ht
  split at ht
  · cases ht; exact h
  · cases ht
    exact State.Retains.actOnPowerFail ⟨{ h.store with }, h.ring⟩ hc

theorem State.Retains.powerFailClear (h : s.Retains P Q) (hc : P s.captureCheckpoint)
    (ht : execPowerFailClear s = .next t) : t.Retains P Q := by
  unfold execPowerFailClear at ht
  dsimp only at ht
  split at ht
  · have cleared : Store.Retains P Q { s.store with pfailActive := false, powerFail := false } := { h.store with }
    split at ht
    · cases ht; exact State.Retains.beginJob ⟨cleared.joinOwed, h.ring⟩ hc
    · cases ht; exact ⟨cleared, h.ring⟩
  · cases ht; exact h

theorem State.Retains.periodicCheckpoint (h : s.Retains P Q) (hc : P s.captureCheckpoint)
    (ht : execPeriodicCheckpoint s = .next t) : t.Retains P Q := by
  unfold execPeriodicCheckpoint at ht
  split at ht
  · cases ht; exact h.requestCheckpoint hc
  · cases ht; exact h

end

end Sys2Proof.Machine
end

section
/-! PROOFS. What a window's hand-off and a batch's close do to what the store and the ring hold, and which commands leave every
figure of the measurement as it was. -/

namespace Sys2Proof.Machine

section
variable {P : CheckpointArea → Prop} {Q : BatchRecord → Prop} {s t : State}

/-! ### Closing a batch (R76 to R79) -/

@[simp] theorem State.dropFor_history_ring (oldest : Nat) (s : State) (p : Port) :
    (State.dropFor oldest s p).history.ring = s.history.ring := by
  unfold State.dropFor; split <;> simp

/-- A full ring loses its oldest entry, and no other (R84, R88). -/
theorem State.dropOldest_history_ring (s : State) :
    s.dropOldest.history.ring = if 24 ≤ s.history.ring.length then s.history.ring.drop 1 else s.history.ring := by
  unfold State.dropOldest
  split <;> simp [allPorts]

theorem State.appendRecord_history_ring (r : BatchRecord) (s : State) :
    (s.appendRecord r).history.ring = s.dropOldest.history.ring ++ [⟨r, .pending⟩] := rfl

theorem State.Retains.appendRecord {r : BatchRecord} (h : s.Retains P Q) (hr : Q r) :
    (s.appendRecord r).Retains P Q := by
  refine ⟨by simpa using h.store, fun q hq => ?_⟩
  simp only [History.records, State.appendRecord_history_ring, State.dropOldest_history_ring, List.map_append,
    List.mem_append, List.map_cons, List.map_nil, List.mem_singleton] at hq
  rcases hq with hq | rfl
  · apply h.ring
    split at hq
    · rw [List.map_drop] at hq; exact List.mem_of_mem_drop hq
    · exact hq
  · exact hr

/-- The part between a batch's record and its requests (R79, R158). -/
def State.afterAppend (r : BatchRecord) (s : State) : State :=
  let s1 := s.appendRecord r
  { s1 with batchSeq := s1.batchSeq + 1, sampler := s1.sampler.closeBatch, batch := none }

theorem State.closeBatch_eq (cause : CloseCause) (overshoot : Nat) (b : OpenBatch) (s : State) :
    s.closeBatch cause overshoot b =
      (((s.afterAppend (s.assembleRecord b cause overshoot)).requestRecord
        (s.assembleRecord b cause overshoot)).requestCheckpoint).raise .batchClosed := rfl

theorem State.requestRecord_captureCheckpoint (r : BatchRecord) (s : State) :
    (s.requestRecord r).captureCheckpoint = s.captureCheckpoint := by
  apply State.captureCheckpoint_congr <;> simp

theorem State.Retains.closeBatch {cause : CloseCause} {overshoot : Nat} {b : OpenBatch} (h : s.Retains P Q)
    (hc : P (s.afterAppend (s.assembleRecord b cause overshoot)).captureCheckpoint)
    (hr : Q (s.assembleRecord b cause overshoot)) : (s.closeBatch cause overshoot b).Retains P Q := by
  rw [State.closeBatch_eq]
  have appended : (s.afterAppend (s.assembleRecord b cause overshoot)).Retains P Q :=
    (h.appendRecord hr).of_eq rfl rfl
  refine State.Retains.of_eq (State.Retains.requestCheckpoint (appended.requestRecord hc hr) ?_)
    (State.raise_store _ _) (by rw [State.raise_history])
  rwa [State.requestRecord_captureCheckpoint]

/-! ### Routing a window (R36, R70 to R72) -/

theorem State.Retains.continueAfter {b : OpenBatch} (h : s.Retains P Q) : (s.continueAfter b).Retains P Q :=
  h.of_eq (by simp) (by simp)

/-- What a batch's close at its target asks of the properties: they hold of every record and checkpoint made of the channels
and totalizers of that event, with no batch open. -/
def State.closesInto (P : CheckpointArea → Prop) (Q : BatchRecord → Prop) (s : State) : Prop :=
  ∀ t : State, t.channels = s.channels → t.totalizers = s.totalizers →
    (t.batch = none → P t.captureCheckpoint) ∧ ∀ b cause overshoot, Q (t.assembleRecord b cause overshoot)

theorem State.closesInto.of_eq (h : s.closesInto P Q) (hc : t.channels = s.channels)
    (ht : t.totalizers = s.totalizers) : t.closesInto P Q := fun u h1 h2 => h u (h1.trans hc) (h2.trans ht)

theorem State.Retains.closeBatch_of_closesInto {cause : CloseCause} {overshoot : Nat} {b : OpenBatch}
    (h : s.Retains P Q) (hc : s.closesInto P Q) : (s.closeBatch cause overshoot b).Retains P Q :=
  h.closeBatch ((hc _ (by simp [State.afterAppend]) (by simp [State.afterAppend])).1 rfl) ((hc s rfl rfl).2 _ _ _)

/-- The batch after the pre-target test (R71). -/
def OpenBatch.markPreTarget (b : OpenBatch) : OpenBatch :=
  if b.meetsPreTarget then { b with flags := { b.flags with preTargetReached := true } } else b

/-- The state after the pre-target test (R71). -/
def State.afterPreTarget (b : OpenBatch) (s : State) : State :=
  State.raiseIf b.meetsPreTarget .preTarget (s.setBatch (some b.markPreTarget))

/-- The target test closes the batch and goes on, or leaves it open (R70, R72, R80). -/
theorem State.testTargets_cases (b : OpenBatch) (s : State) :
    (b.markPreTarget.meetsTarget = true ∧ s.testTargets b =
      ((s.afterPreTarget b).closeBatch .target (b.markPreTarget.runningGross - b.markPreTarget.plan.target)
        b.markPreTarget).continueAfter b.markPreTarget) ∨
    (b.markPreTarget.meetsTarget = false ∧ s.testTargets b = s.afterPreTarget b) := by
  cases h : b.markPreTarget.meetsTarget
  · exact .inr ⟨rfl, if_neg (by simpa [OpenBatch.markPreTarget] using h)⟩
  · exact .inl ⟨rfl, if_pos (by simpa [OpenBatch.markPreTarget] using h)⟩

theorem State.Retains.testTargets {b : OpenBatch} (h : s.Retains P Q) (hc : s.closesInto P Q) :
    (s.testTargets b).Retains P Q := by
  have tested : (s.afterPreTarget b).Retains P Q := h.of_eq (by simp [State.afterPreTarget]) (by simp [State.afterPreTarget])
  have into : (s.afterPreTarget b).closesInto P Q := hc.of_eq (by simp [State.afterPreTarget]) (by simp [State.afterPreTarget])
  obtain ⟨-, e⟩ | ⟨-, e⟩ := s.testTargets_cases b <;> rw [e]
  · exact (tested.closeBatch_of_closesInto into).continueAfter
  · exact tested

theorem State.Retains.routeWindow {r : Run} {w : WindowFigures} (h : s.Retains P Q) (hc : s.closesInto P Q) :
    (s.routeWindow r w).Retains P Q := by
  unfold State.routeWindow State.batchWindow
  split
  · exact State.Retains.testTargets (h.of_eq (by simp) (by simp)) (hc.of_eq (by simp) (by simp))
  · exact h.of_eq (by simp) (by simp)

/-! ### The window computation (R25 to R33) -/

/-- The totalizer that a hand-off of N pulses at a factor leaves, but for its unbatched accumulators (R28 to R33). -/
def Totalizer.handed (x : Totalizer) (mf : Nat) (status : CurveStatus) (n : Nat) : Totalizer :=
  let converted := (x.takeLookup mf status).convert n mf
  converted.2.addTotals converted.1

/-- The figures that a hand-off routes (R25 step 5). -/
def State.handedFigures (s : State) (r : Run) (f : Nat) (w : WindowCounts) : WindowFigures :=
  let x := s.totalizers.get r
  let found := lookupCurve (s.curves.get r) f
  let v := ((x.takeLookup found.1 found.2).convert w.pulses found.1).1
  { pulses := v.pulses, indicated := v.indicated, gross := v.gross, faults := w.faults,
    outside := found.2 != .inRange, moved := x.factorMoved found.1 }

/-- The state between the totals and the routing of a window (R25 steps 1 to 4). -/
def State.afterTotals (r : Run) (f n : Nat) (s : State) : State :=
  let x := s.totalizers.get r
  let found := lookupCurve (s.curves.get r) f
  State.raiseIf (found.2 != x.curveStatus) .curveRange (s.setTotalizer r (x.handed found.1 found.2 n))

theorem State.computeWindow_eq (r : Run) (f : Nat) (w : WindowCounts) (s : State) :
    s.computeWindow r f w = (s.afterTotals r f w.pulses).routeWindow r (s.handedFigures r f w) := rfl

theorem State.Retains.computeWindow {r : Run} {f : Nat} {w : WindowCounts} (h : s.Retains P Q)
    (hc : (s.afterTotals r f w.pulses).closesInto P Q) : (s.computeWindow r f w).Retains P Q := by
  rw [State.computeWindow_eq]
  exact State.Retains.routeWindow (h.of_eq (by simp [State.afterTotals]) (by simp [State.afterTotals])) hc

end

/-! ### The open batch without its flags (R66) -/

/-- A batch with its flags left out. -/
def OpenBatch.bare (b : OpenBatch) : OpenBatch := { b with flags := ⟨false, false, false, false, false⟩ }

/-- The open batch with its flags left out. -/
def State.bareBatch (s : State) : Option OpenBatch := s.batch.map OpenBatch.bare

theorem State.bareBatch_congr {s t : State} (h : t.batch = s.batch) : t.bareBatch = s.bareBatch := by
  simp only [State.bareBatch, h]

@[simp] theorem State.raise_bareBatch (s : State) (c : EventClass) : (s.raise c).bareBatch = s.bareBatch := rfl

@[simp] theorem State.setResult_bareBatch (s : State) (r : Run) (x : ProvingResult) :
    (s.setResult r x).bareBatch = s.bareBatch := rfl

@[simp] theorem State.offerResult_bareBatch (s : State) (r : Run) (x : ProvingResult) :
    (s.offerResult r x).1.bareBatch = s.bareBatch := State.bareBatch_congr (by simp)

theorem State.batchOf_some {s : State} {r : Run} {b : OpenBatch} (h : s.batchOf r = some b) :
    s.batch = some b ∧ inRunSet b.plan.runSet r = true := by
  simpa [State.batchOf, Option.filter_eq_some_iff] using h

/-- A result reported sets a flag of the open batch (R73). -/
@[simp] theorem State.reportProved_bareBatch (s : State) (r : Run) : (s.reportProved r).bareBatch = s.bareBatch := by
  unfold State.reportProved
  split
  · rename_i b hb; simp [State.bareBatch, (State.batchOf_some hb).1, OpenBatch.bare]
  · rfl

@[simp] theorem State.endSession_bareBatch (s : State) (e : SessionState) (a : AbortReason) (m f : Nat) :
    (s.endSession e a m f).bareBatch = s.bareBatch := by
  unfold State.endSession
  dsimp only
  split
  · rfl
  · simp only [State.raise_bareBatch]
    split
    · simp only [State.offerResult_bareBatch]; split <;> simp <;> rfl
    · split <;> simp <;> rfl

@[simp] theorem State.testSession_bareBatch (s : State) (v : Bool) : (s.testSession v).bareBatch = s.bareBatch := by
  unfold State.testSession
  dsimp only
  split
  · split
    · simp; rfl
    · split
      · simp; rfl
      · rfl
  · split
    · simp
    · rfl

@[simp] theorem State.recordPass_bareBatch (s : State) (y : PassRecord) : (s.recordPass y).bareBatch = s.bareBatch := by
  simp only [State.recordPass, State.testSession_bareBatch]; rfl

@[simp] theorem State.awaitDet1_bareBatch (s : State) : s.awaitDet1.bareBatch = s.bareBatch :=
  State.bareBatch_congr (by simp)

@[simp] theorem State.pulseInWaitStop_bareBatch (s : State) (r : Run) (stamp : Tick) :
    (s.pulseInWaitStop r stamp).bareBatch = s.bareBatch := by
  unfold State.pulseInWaitStop
  dsimp only
  split
  · split
    · simp
    · rfl
  · split
    · rfl
    · split
      · rfl
      · simp

@[simp] theorem State.proverCycle_bareBatch (s : State) (r : Run) (c : CycleClass) (d : Option Direction) (stamp : Tick) :
    (s.proverCycle r c d stamp).bareBatch = s.bareBatch := by
  unfold State.proverCycle
  dsimp only
  split
  · split
    · split
      · exact State.bareBatch_congr (by simp [State.setPass])
      · rfl
    · split
      · simp; rfl
      · rfl
    · rfl
  · rfl

/-- An abort leaves the open batch whole: no result is reported (R124). -/
@[simp] theorem State.abortSession_batch (s : State) (a : AbortReason) : (s.abortSession a).batch = s.batch := by
  have ended (u : State) : (u.endSession .resultAborted a 0 0).batch = u.batch := by
    unfold State.endSession
    dsimp only
    split <;> simp
  unfold State.abortSession
  dsimp only
  split <;> simp [ended]

/-- An abort posts nothing (R124, R125). -/
@[simp] theorem State.abortSession_control (s : State) (a : AbortReason) : (s.abortSession a).control = s.control := by
  have ended (u : State) : (u.endSession .resultAborted a 0 0).control = u.control := by
    unfold State.endSession
    dsimp only
    split <;> simp
  unfold State.abortSession
  dsimp only
  split <;> simp [ended]

@[simp] theorem State.detectorEvent_bareBatch (s : State) (d : Detector) (tick : Tick) :
    (s.detectorEvent d tick).bareBatch = s.bareBatch := by
  have began (u : State) : (u.beginPass tick).bareBatch = u.bareBatch := rfl
  unfold State.detectorEvent
  dsimp only
  split
  case h_5 | h_6 => split <;> simp [began]
  all_goals rfl

/-! ### Commands that leave the figures of the measurement -/

/-- The channels, the totalizers, the open batch but for its flags, the ring and the store are as they were. -/
structure State.SameFigures (s t : State) : Prop where
  channels   : t.channels = s.channels
  totalizers : t.totalizers = s.totalizers
  batch      : t.bareBatch = s.bareBatch
  ring       : t.history.ring = s.history.ring
  store      : t.store = s.store

section
variable {s t u : State}

theorem State.SameFigures.refl (s : State) : s.SameFigures s := ⟨rfl, rfl, rfl, rfl, rfl⟩

theorem State.SameFigures.trans (h : s.SameFigures t) (k : t.SameFigures u) : s.SameFigures u :=
  ⟨k.channels.trans h.channels, k.totalizers.trans h.totalizers, k.batch.trans h.batch, k.ring.trans h.ring,
    k.store.trans h.store⟩

theorem State.SameFigures.respond (h : s.SameFigures t) (p : Port) (echo : Byte) (a : Answer) :
    s.SameFigures (t.respond p echo a) := h.trans ⟨rfl, rfl, rfl, rfl, rfl⟩

end

/-- A request keeps what every response keeps and its own rule keeps (R169). -/
theorem takeRequest_induction {I : State → Prop} {p : Port} {row : CatalogueRow} {args : List Byte}
    {body : State → State × Answer} {s : State} (hs : I s) (hb : I (body s).1)
    (respond : ∀ t p echo a, I t → I (t.respond p echo a)) : I (takeRequest p row args body s) := by
  rcases takeRequest_cases p row args body s with ⟨-, h⟩ | ⟨-, -, h⟩ | ⟨-, -, -, h⟩ | ⟨-, -, -, h⟩ <;> rw [h]
  · exact respond _ _ _ _ hs
  · exact respond _ _ _ _ hs
  · exact respond _ _ _ _ hs
  · exact respond _ _ _ _ hb

theorem takeRequest_sameFigures {p : Port} {row : CatalogueRow} {args : List Byte} {body : State → State × Answer}
    {s : State} (h : s.SameFigures (body s).1) : s.SameFigures (takeRequest p row args body s) :=
  takeRequest_induction (I := s.SameFigures) (.refl s) h fun _ _ _ _ k => k.respond _ _ _

end Sys2Proof.Machine
end

section
/-! PROOFS. The commands that leave every figure of the measurement as it was, each with the reason. -/

namespace Sys2Proof.Machine

/-- Whether a command may change a channel, a totalizer, the open batch beside its flags, the ring or the store. -/
def touchesFigures : Instr → Bool
  | .reset | .restoreComplete | .edgeEvent .. | .integrityBlockEnd .. | .windowExpiry .. | .periodicCheckpoint
  | .jobComplete | .powerFailWarning | .powerFailClear | .runEnable .. | .runEnableOff .. | .setCutoff ..
  | .setIntegrityLimit .. | .batchOpen .. | .batchClose .. | .concur .. => true
  | _ => false

section
variable {s t : State}

theorem State.SameFigures.of_frame (hc : t.channels = s.channels) (ht : t.totalizers = s.totalizers)
    (hb : t.batch = s.batch) (hh : t.history = s.history) (hs : t.store = s.store) : s.SameFigures t :=
  ⟨hc, ht, State.bareBatch_congr hb, by rw [hh], hs⟩

/-! ### The sampler, the clock, the ports -/

theorem execPulseEnd_sameFigures (e : execPulseEnd s = .next t) : s.SameFigures t := by
  unfold execPulseEnd at e
  split at e <;> cases e <;> exact .of_frame rfl rfl rfl rfl rfl

theorem execGapEnd_sameFigures (e : execGapEnd s = .next t) : s.SameFigures t := by
  unfold execGapEnd at e
  split at e
  · split at e <;> cases e <;> exact .of_frame (by simp) (by simp) (by simp) (by simp) (by simp)
  · cases e; exact .refl s

theorem execRcvhiChange_sameFigures {level : Bool} (e : execRcvhiChange level s = .next t) : s.SameFigures t := by
  unfold execRcvhiChange at e
  dsimp only at e
  split at e <;> cases e <;> exact .of_frame (by simp) (by simp) (by simp) (by simp) (by simp)

theorem State.samplerHold_sameFigures (s : State) (on : Nat) : s.SameFigures (s.samplerHold on).1 := by
  unfold State.samplerHold
  split <;> exact .of_frame rfl rfl rfl rfl rfl

theorem State.samplerOutput_sameFigures (s : State) (x y : Nat) : s.SameFigures (s.samplerOutput x y).1 := by
  unfold State.samplerOutput
  split <;> exact .of_frame rfl rfl rfl rfl rfl

theorem State.receiverSwap_sameFigures (s : State) : s.SameFigures s.receiverSwap.1 := by
  unfold State.receiverSwap
  split
  · exact .refl s
  · exact .of_frame (by simp) (by simp) (by simp) (by simp) (by simp)

theorem execTransactionBegin_sameFigures {p : Port} (e : execTransactionBegin p s = .next t) : s.SameFigures t := by
  unfold execTransactionBegin at e
  dsimp only at e
  split at e <;> cases e <;> exact .of_frame rfl rfl rfl rfl rfl

theorem execSckEdge_sameFigures {p : Port} {edge : SckEdge} (e : execSckEdge p edge s = .next t) : s.SameFigures t := by
  unfold execSckEdge at e
  dsimp only at e
  split at e <;> cases e <;> exact .of_frame rfl rfl rfl rfl rfl

theorem State.clearEvents_sameFigures (s : State) (p : Port) (mask : Nat) : s.SameFigures (s.clearEvents p mask).1 := by
  unfold State.clearEvents
  split <;> exact .of_frame rfl rfl rfl rfl rfl

theorem State.setLevel_sameFigures (s : State) (p : Port) (n l : Nat) : s.SameFigures (s.setLevel p n l).1 := by
  unfold State.setLevel
  split <;> exact .of_frame rfl rfl rfl rfl rfl

/-! ### Reads -/

theorem State.readRun_fst (s : State) (n part : Nat) : (s.readRun n part).1 = s := by
  unfold State.readRun
  split
  · rfl
  · split <;> rfl

theorem State.readTotals_fst (s : State) (n scale : Nat) : (s.readTotals n scale).1 = s := by
  unfold State.readTotals; split <;> rfl

theorem State.readCurve_fst (s : State) (n : Nat) : (s.readCurve n).1 = s := by
  unfold State.readCurve; split <;> rfl

theorem State.readBatch_fst (s : State) (part : Nat) : (s.readBatch part).1 = s := by
  unfold State.readBatch
  split
  · rfl
  · split
    · rfl
    · split <;> rfl

theorem State.readQueue_fst (s : State) (index : Nat) : (s.readQueue index).1 = s := by
  unfold State.readQueue; split <;> rfl

theorem State.readProving_fst (s : State) (sel : Nat) : (s.readProving sel).1 = s := by
  unfold State.readProving
  split
  · rfl
  · split <;> rfl

theorem State.readPass_fst (s : State) (index : Nat) : (s.readPass index).1 = s := by
  unfold State.readPass; split <;> rfl

theorem State.readProposal_fst (s : State) (id : Nat) : (s.readProposal id).1 = s := by
  unfold State.readProposal
  split
  · rfl
  · split <;> rfl

/-- A request that only reads leaves the figures. -/
theorem State.SameFigures.of_read {x : State × Answer} (h : x.1 = s) : s.SameFigures x.1 := h ▸ .refl s

/-! ### The queue of plans, the cursors -/

theorem State.planAdd_sameFigures (s : State) (args : List Byte) : s.SameFigures (s.planAdd args).1 := by
  unfold State.planAdd
  split
  · exact .refl s
  · split
    · exact .refl s
    · split <;> exact .of_frame rfl rfl rfl rfl rfl

theorem State.planRemove_sameFigures (s : State) (parcel : Nat) : s.SameFigures (s.planRemove parcel).1 := by
  unfold State.planRemove
  split
  · exact .refl s
  · split <;> exact .of_frame rfl rfl rfl rfl rfl

theorem State.readRecord_sameFigures (s : State) (p : Port) (x y z : Nat) : s.SameFigures (s.readRecord p x y z).1 := by
  unfold State.readRecord
  split
  · exact .refl s
  · dsimp only
    split
    · exact .refl s
    · split <;> exact ⟨rfl, rfl, rfl, rfl, rfl⟩

theorem State.findParcel_sameFigures (s : State) (p : Port) (x y z : Nat) : s.SameFigures (s.findParcel p x y z).1 := by
  unfold State.findParcel
  split
  · exact .refl s
  · dsimp only
    split
    · exact .refl s
    · dsimp only
      split <;> exact ⟨rfl, rfl, rfl, rfl, rfl⟩

theorem State.moveCursor_sameFigures (s : State) (p : Port) (v : Nat) : s.SameFigures (s.moveCursor p v).1 := by
  unfold State.moveCursor
  dsimp only
  split <;> exact ⟨rfl, rfl, rfl, rfl, rfl⟩

/-! ### Proving -/

theorem State.abortSession_sameFigures (s : State) (a : AbortReason) : s.SameFigures (s.abortSession a) :=
  .of_frame (by simp) (by simp) (by simp) (by simp) (by simp)

theorem execNoDetector_sameFigures (e : execNoDetector s = .next t) : s.SameFigures t := by
  unfold execNoDetector at e
  dsimp only at e
  split at e <;> cases e
  · exact s.abortSession_sameFigures _
  · exact .refl s

theorem execPassTimeout_sameFigures {tD1 : Tick} (e : execPassTimeout tD1 s = .next t) : s.SameFigures t := by
  unfold execPassTimeout at e
  dsimp only at e
  split at e <;> cases e
  · exact ⟨by simp, by simp, by simp, by simp, by simp⟩
  · exact .refl s

theorem State.setDetector_sameFigures (s : State) (d : Detector) (x : DetectorInput) :
    s.SameFigures (s.setDetector d x) := by
  cases d <;> exact .of_frame rfl rfl rfl rfl rfl

theorem State.detectorEvent_sameFigures (s : State) (d : Detector) (tick : Tick) :
    s.SameFigures (s.detectorEvent d tick) := ⟨by simp, by simp, by simp, by simp, by simp⟩

theorem execDetectorEvent_sameFigures {d : Detector} {tick : Tick} (e : execDetectorEvent d tick s = .next t) :
    s.SameFigures t := by
  have pins (l : Lines) : s.SameFigures (s.setLines l) := .of_frame rfl rfl rfl rfl rfl
  unfold execDetectorEvent at e
  dsimp only at e
  split at e <;> cases e
  · exact (pins _).trans (State.setDetector_sameFigures _ _ _)
  · exact ((pins _).trans (State.setDetector_sameFigures _ _ _)).trans (State.detectorEvent_sameFigures _ _ _)

theorem State.proveStart_sameFigures (s : State) (n p m l post : Nat) :
    s.SameFigures (s.proveStart n p m l post).1 := by
  unfold State.proveStart
  split
  · exact .refl s
  · split
    · exact .refl s
    · split
      · exact .refl s
      · split <;> exact .of_frame rfl rfl rfl rfl rfl

theorem State.proveAbort_sameFigures (s : State) : s.SameFigures s.proveAbort.1 := by
  unfold State.proveAbort
  split
  · exact s.abortSession_sameFigures _
  · exact .refl s

theorem State.offerResult_sameFigures (s : State) (r : Run) (x : ProvingResult) :
    s.SameFigures (s.offerResult r x).1 := .of_frame (by simp) (by simp) (by simp) (by simp) (by simp)

theorem State.provePost_sameFigures (s : State) (n : Nat) : s.SameFigures (s.provePost n).1 := by
  unfold State.provePost
  split
  · exact .refl s
  · rename_i r _
    split
    · exact .refl s
    · rename_i x _
      split
      · exact .refl s
      · have offered := s.offerResult_sameFigures r x
        split
        · exact .refl s
        · exact .refl s
        · rename_i h; rwa [h] at offered

/-! ### The proposal table -/

theorem State.postProposal_sameFigures {c : Change} {o : Originator} {d : Bool} {id slot : Nat}
    (h : s.postProposal c o d = some (t, id, slot)) : s.SameFigures t := by
  obtain ⟨-, -, c, rfl, -⟩ := State.postProposal_some h
  exact .of_frame rfl rfl rfl rfl rfl

theorem State.propose_sameFigures (s : State) (p : Port) (args : List Byte) : s.SameFigures (s.propose p args).1 := by
  unfold State.propose
  split
  · exact .refl s
  · split
    · exact .refl s
    · rename_i h; exact State.postProposal_sameFigures h

theorem State.reject_sameFigures (s : State) (p : Port) (id : Nat) : s.SameFigures (s.reject p id).1 := by
  unfold State.reject
  split <;> exact .of_frame rfl rfl rfl rfl rfl

theorem State.withdraw_sameFigures (s : State) (p : Port) (id : Nat) : s.SameFigures (s.withdraw p id).1 := by
  unfold State.withdraw
  split
  · exact .refl s
  · split
    · exact .refl s
    · split <;> exact .of_frame rfl rfl rfl rfl rfl

theorem execProposalExpiry_sameFigures (e : execProposalExpiry s = .next t) : s.SameFigures t := by
  cases e; exact .of_frame (by simp) (by simp) (by simp) (by simp) (by simp)

/-! ### All of them -/

/-- Every command outside `touchesFigures` leaves the figures of the measurement. -/
theorem exec_sameFigures {i : Instr} (hi : touchesFigures i = false) (e : exec i s = .next t) : s.SameFigures t := by
  cases i
  case reset | restoreComplete | edgeEvent | integrityBlockEnd | windowExpiry | periodicCheckpoint | jobComplete
    | powerFailWarning | powerFailClear | runEnable | runEnableOff | setCutoff | setIntegrityLimit | batchOpen | batchClose
    | concur => cases hi
  case pulseEnd => exact execPulseEnd_sameFigures e
  case gapEnd => exact execGapEnd_sameFigures e
  case rcvhiChange => exact execRcvhiChange_sameFigures e
  case oneSecondEvent => cases e; exact .of_frame rfl rfl rfl rfl rfl
  case proposalExpiry => exact execProposalExpiry_sameFigures e
  case noDetector => exact execNoDetector_sameFigures e
  case detectorEvent => exact execDetectorEvent_sameFigures e
  case passTimeout => exact execPassTimeout_sameFigures e
  case frameError => cases e; exact (State.SameFigures.refl s).respond _ _ _
  case unknownRequest => cases e; exact (State.SameFigures.refl s).respond _ _ _
  case nop => cases e; exact takeRequest_sameFigures (.refl s)
  case identify => cases e; exact takeRequest_sameFigures (.refl s)
  case readTime => cases e; exact takeRequest_sameFigures (.refl s)
  case readEvents => cases e; exact takeRequest_sameFigures (.refl s)
  case topEvent => cases e; exact takeRequest_sameFigures (.refl s)
  case clearEvents => cases e; exact takeRequest_sameFigures (s.clearEvents_sameFigures _ _)
  case setLevel => cases e; exact takeRequest_sameFigures (s.setLevel_sameFigures _ _ _)
  case setThreshold => cases e; exact takeRequest_sameFigures (.of_frame rfl rfl rfl rfl rfl)
  case readRun => cases e; exact takeRequest_sameFigures (.of_read (s.readRun_fst _ _))
  case readTotals => cases e; exact takeRequest_sameFigures (.of_read (s.readTotals_fst _ _))
  case readCurve => cases e; exact takeRequest_sameFigures (.of_read (s.readCurve_fst _))
  case readBatch => cases e; exact takeRequest_sameFigures (.of_read (s.readBatch_fst _))
  case readQueue => cases e; exact takeRequest_sameFigures (.of_read (s.readQueue_fst _))
  case planAdd => cases e; exact takeRequest_sameFigures (s.planAdd_sameFigures _)
  case planRemove => cases e; exact takeRequest_sameFigures (s.planRemove_sameFigures _)
  case planClear => cases e; exact takeRequest_sameFigures (.of_frame rfl rfl rfl rfl rfl)
  case readRecord => cases e; exact takeRequest_sameFigures (s.readRecord_sameFigures _ _ _ _)
  case findParcel => cases e; exact takeRequest_sameFigures (s.findParcel_sameFigures _ _ _ _)
  case setCursor => cases e; exact takeRequest_sameFigures (s.moveCursor_sameFigures _ _)
  case readProving => cases e; exact takeRequest_sameFigures (.of_read (s.readProving_fst _))
  case readPass => cases e; exact takeRequest_sameFigures (.of_read (s.readPass_fst _))
  case proveStart => cases e; exact takeRequest_sameFigures (s.proveStart_sameFigures _ _ _ _ _)
  case proveAbort => cases e; exact takeRequest_sameFigures s.proveAbort_sameFigures
  case provePost => cases e; exact takeRequest_sameFigures (s.provePost_sameFigures _)
  case readProposal => cases e; exact takeRequest_sameFigures (.of_read (s.readProposal_fst _))
  case propose => cases e; exact takeRequest_sameFigures (s.propose_sameFigures _ _)
  case reject => cases e; exact takeRequest_sameFigures (s.reject_sameFigures _ _)
  case withdraw => cases e; exact takeRequest_sameFigures (s.withdraw_sameFigures _ _)
  case readSampler => cases e; exact takeRequest_sameFigures (.refl s)
  case samplerHold => cases e; exact takeRequest_sameFigures (s.samplerHold_sameFigures _)
  case samplerOutput => cases e; exact takeRequest_sameFigures (s.samplerOutput_sameFigures _ _)
  case receiverSwap => cases e; exact takeRequest_sameFigures s.receiverSwap_sameFigures
  case setTime => cases e; exact takeRequest_sameFigures (.of_frame rfl rfl rfl rfl rfl)
  case transactionBegin => exact execTransactionBegin_sameFigures e
  case sckEdge => exact execSckEdge_sameFigures e

end

end Sys2Proof.Machine
end

section
/-! PROOFS. What the operations of the pulse front end and of the restore do to the channels (R12 to R24), and that every step
keeps the channels within their ranges. -/

namespace Sys2Proof.Machine

section
variable {s t : State}

/-! ### What the operations make of the channels -/

@[simp] theorem State.setRunState_channels (r : Run) (x : RunState) (s : State) :
    (s.setRunState r x).channels = s.channels.set r { s.channels.get r with runState := x } := by
  obtain ⟨same, e⟩ | ⟨-, -, -, e⟩ | ⟨-, -, e⟩ := s.setRunState_cases r x <;> rw [e]
  · rw [← same, PerRun.set_get]
  · simp
  · simp

@[simp] theorem State.endBlock_channels (r : Run) (n : Nat) (s : State) :
    (s.endBlock r n).channels = s.channels.set r ((s.channels.get r).endBlock n) := by
  simp [State.endBlock]

/-- The block of a channel after one more cycle (R12). -/
def Channel.advance (c : Channel) (isError : Bool) : Channel :=
  if 1000 ≤ c.blockCycles + 1 then c.endBlock (c.blockErrors + isError.toNat)
  else { c with blockCycles := c.blockCycles + 1, blockErrors := c.blockErrors + isError.toNat }

@[simp] theorem State.advanceBlock_channels (r : Run) (isError : Bool) (s : State) :
    (s.advanceBlock r isError).channels = s.channels.set r ((s.channels.get r).advance isError) := by
  unfold State.advanceBlock Channel.advance
  dsimp only
  split <;> simp

/-- A channel after a cycle of a class, under the state in force (R9, R12, R22, R23). -/
def Channel.afterCycle (c : Channel) (restoring : Bool) (cls : CycleClass) : Channel :=
  let w := cycleCounts cls (countedDirection cls c.direction)
  let d := { c with direction := nextDirection cls c.direction }
  if restoring then d.holdCycle w
  else if c.runState = .offline then d.countOffline w.pulses
  else (d.countCycle w).advance cls.isError

@[simp] theorem State.countCycle_channels (r : Run) (cls : CycleClass) (stamp : Tick) (s : State) :
    (s.countCycle r cls stamp).channels =
      s.channels.set r ((s.channels.get r).afterCycle s.isRestoring cls) := by
  unfold State.countCycle Channel.afterCycle
  dsimp only
  split
  · simp
  · split <;> simp

@[simp] theorem State.closeWindow_channels (r : Run) (s : State) :
    (s.closeWindow r).channels = s.channels.set r { (s.channels.get r).takeWindow with
      overspeed := decide (25000 < (s.channels.get r).takeWindow.freq)
      runState := (s.channels.get r).takeWindow.evaluated } := by
  simp [State.closeWindow, Channel.evaluated]

/-! ### What the operations keep of a channel's ranges -/

theorem pushHistory_length (h : List Nat) (n : Nat) : (pushHistory h n).length ≤ 10 := by
  simp [pushHistory]; omega

theorem satAdd_le (largest a b : Nat) : satAdd largest a b ≤ largest := Nat.min_le_right _ _

theorem FaultCounts.satAdd_atMost (n : Nat) (x y : FaultCounts) : (x.satAdd n y).atMost n :=
  ⟨satAdd_le .., satAdd_le .., satAdd_le .., satAdd_le .., satAdd_le ..⟩

theorem Channel.legal.endBlock {c : Channel} (h : c.legal) (n : Nat) : (c.endBlock n).legal :=
  ⟨Nat.zero_le _, Nat.le_refl _, h.2.2⟩

theorem Channel.legal.advance {c : Channel} (h : c.legal) (isError : Bool) : (c.advance isError).legal := by
  unfold Channel.advance
  split
  · exact h.endBlock _
  · obtain ⟨cycles, errors, rest⟩ := h
    have := isError.toNat_le
    exact ⟨by dsimp only; omega, by dsimp only; omega, rest⟩

theorem Channel.legal.holdCycle {c : Channel} (h : c.legal) (w : WindowCounts) : (c.holdCycle w).legal := h

theorem Channel.legal.countCycle {c : Channel} (h : c.legal) (w : WindowCounts) : (c.countCycle w).legal := by
  obtain ⟨cycles, errors, history, freq, limit, low, high, -, pulses⟩ := h
  exact ⟨cycles, errors, history, freq, limit, low, high, FaultCounts.satAdd_atMost .., pulses⟩

theorem Channel.legal.countOffline {c : Channel} (h : c.legal) (n : Nat) : (c.countOffline n).legal := by
  obtain ⟨cycles, errors, history, freq, limit, low, high, counts, -⟩ := h
  exact ⟨cycles, errors, history, freq, limit, low, high, counts, satAdd_le ..⟩

/-- The direction memory is no figure with a range. -/
theorem Channel.legal.turned {c : Channel} (h : c.legal) (d : Direction) : ({ c with direction := d } : Channel).legal := h

theorem Channel.legal.afterCycle {c : Channel} (h : c.legal) (restoring : Bool) (cls : CycleClass) :
    (c.afterCycle restoring cls).legal := by
  unfold Channel.afterCycle
  dsimp only
  split
  · exact (h.turned _).holdCycle _
  · split
    · exact (h.turned _).countOffline _
    · exact ((h.turned _).countCycle _).advance _

/-- A window's count enters the history, and f is computed afresh (R15). -/
theorem Channel.legal.takeWindow {c : Channel} (h : c.legal) : c.takeWindow.legal := by
  obtain ⟨cycles, errors, -, -, rest⟩ := h
  exact ⟨cycles, errors, pushHistory_length _ _, rfl, rest⟩

theorem Channel.legal.carryWindow {c : Channel} (h : c.legal) : c.carryWindow.legal := by
  obtain ⟨cycles, errors, -, -, rest⟩ := h
  exact ⟨cycles, errors, pushHistory_length _ _, rfl, rest⟩

theorem Channel.legal.enabled {c : Channel} (h : c.legal) : c.enabled.legal := by
  obtain ⟨-, -, -, -, rest⟩ := h
  exact ⟨Nat.zero_le _, Nat.le_refl _, Nat.zero_le _, rfl, rest⟩

theorem Channel.legal.disabled {c : Channel} (h : c.legal) : c.disabled.legal := by
  obtain ⟨cycles, errors, -, -, rest⟩ := h
  exact ⟨cycles, errors, Nat.zero_le _, rfl, rest⟩

theorem clamp_range {low high : Nat} (x : Nat) (h : low ≤ high) : low ≤ clamp low high x ∧ clamp low high x ≤ high := by
  rw [clamp_eq x h]; omega

theorem Channel.legal.setCutoff {c : Channel} (h : c.legal) (hz : Nat) :
    ({ c with cutoff := clamp 1 1000 hz } : Channel).legal := by
  obtain ⟨cycles, errors, history, freq, limit, -, -, rest⟩ := h
  have range := clamp_range hz (show 1 ≤ 1000 by decide)
  exact ⟨cycles, errors, history, freq, limit, range.1, range.2, rest⟩

theorem Channel.legal.setLimit {c : Channel} (h : c.legal) (n : Nat) :
    ({ c with limit := clamp 0 255 n } : Channel).legal := by
  obtain ⟨cycles, errors, history, freq, -, rest⟩ := h
  exact ⟨cycles, errors, history, freq, (clamp_range n (Nat.zero_le 255)).2, rest⟩

theorem Channel.legal.settleEnabled {c : Channel} {k : RunCheckpoint} (h : c.legal) (hk : k.channelLegal) :
    (c.settleEnabled k).legal := by
  obtain ⟨-, -, history, freq, -⟩ := h
  obtain ⟨limit, low, high, -, pulses⟩ := hk
  exact ⟨Nat.zero_le _, Nat.le_refl _, history, freq, limit, low, high, FaultCounts.satAdd_atMost .., pulses⟩

theorem Channel.settleDisabled_legal (c : Channel) {k : RunCheckpoint} (hk : k.channelLegal) :
    (c.settleDisabled k).legal := by
  obtain ⟨limit, low, high, counts, -⟩ := hk
  exact ⟨Nat.zero_le _, Nat.le_refl _, Nat.zero_le _, rfl, limit, low, high, counts, satAdd_le ..⟩

theorem Channel.reset_legal (deadline : Tick) : (Channel.reset deadline).legal := by
  refine ⟨Nat.zero_le _, Nat.le_refl _, Nat.zero_le _, rfl, ?_⟩
  simp [Channel.reset, FaultCounts.atMost, FaultCounts.zero]

/-! ### The restore: what is found, and what the channels become (R24, R190) -/

theorem Copies.newest_mem {α : Type} {c : Copies α} {m : Marked α} (h : c.newest = some m) :
    c.first = some m ∨ c.second = some m := by
  obtain ⟨a, b⟩ := c
  cases a <;> cases b
  · cases h
  · exact .inr h
  · exact .inl h
  · simp only [Copies.newest] at h
    split at h
    · exact .inr h
    · exact .inl h

/-- A checkpoint that the restore finds is one that the store holds (R190 step 3). -/
theorem Store.Retains.found_checkpoint {P : CheckpointArea → Prop} {Q : BatchRecord → Prop} {x : Store}
    (h : x.Retains P Q) {a : CheckpointArea} (ha : x.found.checkpoint = some a) : P a := by
  obtain ⟨m, hm, rfl⟩ := Option.map_eq_some_iff.1 ha
  rcases Copies.newest_mem hm with hm | hm
  · exact h.first m hm
  · exact h.second m hm

theorem mem_insertRecord {r q : BatchRecord} {l : List BatchRecord} : q ∈ insertRecord r l ↔ q = r ∨ q ∈ l := by
  induction l with
  | nil => simp [insertRecord]
  | cons x l ih =>
    simp only [insertRecord]
    split
    · simp
    · simp only [List.mem_cons, ih]; tauto

/-- The records that the restore finds are those of the slots (R97). -/
theorem mem_sortedRecords {slots : List (Option BatchRecord)} {q : BatchRecord} :
    q ∈ sortedRecords slots ↔ some q ∈ slots := by
  have gathered (l : List BatchRecord) : q ∈ l.foldr insertRecord [] ↔ q ∈ l := by
    induction l with
    | nil => rfl
    | cons r l ih => simp [mem_insertRecord, ih]
  simp [sortedRecords, gathered]

/-- A run's part of a checkpoint that the restore takes: of the one found, or the values without one (R24). -/
theorem Found.run_induction {I : RunCheckpoint → Prop} {f : Found} {r : Run} (h0 : I .absent)
    (h : ∀ a, f.checkpoint = some a → I (a.runs.get r)) : I (f.run r) := by
  unfold Found.run
  cases hc : f.checkpoint with
  | none => exact h0
  | some a => exact h a hc

/-- The channel that a restore leaves (R24). -/
def Channel.settled (c : Channel) (f : Found) (r : Run) : Channel :=
  if f.enables r then { c.settleEnabled (f.run r) with runState := .standby } else c.settleDisabled (f.run r)

@[simp] theorem State.settleChannel_channels (f : Found) (s : State) (r : Run) :
    (State.settleChannel f s r).channels = s.channels.set r ((s.channels.get r).settled f r) := by
  unfold State.settleChannel Channel.settled
  dsimp only
  split <;> simp

/-- Settling a channel changes channels and ports alone. -/
theorem State.settleChannel_frame (f : Found) (s : State) (r : Run) : State.settleChannel f s r =
    { s with channels := (State.settleChannel f s r).channels, ports := (State.settleChannel f s r).ports } := by
  unfold State.settleChannel
  dsimp only
  split <;> rw [State.raiseIf_frame] <;> rfl

/-- The state once every channel has settled (R24, R190). -/
def State.settleAll (s : State) : State :=
  allRuns.foldl (State.settleChannel s.store.found) (s.takeRestored s.store.found)

theorem State.settleAll_channels (s : State) :
    s.settleAll.channels = .ofFn fun r => (s.channels.get r).settled s.store.found r := by
  apply PerRun.ext_get
  intro r
  have untouched : (s.takeRestored s.store.found).channels = s.channels := rfl
  cases r <;> simp [State.settleAll, allRuns, untouched]

theorem State.settleAll_frame (s : State) : s.settleAll =
    { s.takeRestored s.store.found with channels := s.settleAll.channels, ports := s.settleAll.ports } := by
  have settled (f : Found) (l : List Run) (u : State) : l.foldl (State.settleChannel f) u =
      { u with
        channels := (l.foldl (State.settleChannel f) u).channels, ports := (l.foldl (State.settleChannel f) u).ports } := by
    induction l generalizing u with
    | nil => rfl
    | cons r l ih =>
      rw [List.foldl_cons, ih]
      rw [State.settleChannel_frame]
  exact settled _ _ _

theorem Found.announce_frame (f : Found) (s : State) : f.announce s = { s with ports := (f.announce s).ports } := by
  unfold Found.announce
  dsimp only
  have first : (if f.parameters.isNone then s.raiseRetention .parametersLost else s) = { s with
      ports := (if f.parameters.isNone then s.raiseRetention .parametersLost else s).ports } := by split <;> rfl
  split
  · exact first
  · split <;> rw [first] <;> rfl

/-- The state at which the restore's own CHECKPOINT is requested (R190). -/
def State.announced (s : State) : State := s.store.found.announce s.settleAll.evaluateFull

/-- The last steps of a restore (R188, R190). -/
theorem State.completeRestore_eq (s : State) : s.completeRestore =
    let u := if s.store.found.checkpoint.isNone then s.announced.requestCheckpoint else s.announced
    if u.store.pfailActive then u.actOnPowerFail else u := rfl

theorem State.announced_channels (s : State) :
    s.announced.channels = .ofFn fun r => (s.channels.get r).settled s.store.found r := by
  rw [State.announced, Found.announce_frame]
  simp [State.settleAll_channels]

/-- Beside the channels, the sampler's full indication and the ports, a restored state is what the blocks took (R190). -/
theorem State.announced_frame (s : State) : s.announced = { s.takeRestored s.store.found with
    channels := s.announced.channels, sampler := s.announced.sampler, ports := s.announced.ports } := by
  have framed : s.settleAll.evaluateFull = { s.settleAll with
      sampler := s.settleAll.evaluateFull.sampler, ports := s.settleAll.evaluateFull.ports } := by
    rw [State.evaluateFull_eq, State.raiseIf_frame]
  rw [State.announced, Found.announce_frame, framed, State.settleAll_frame]

/-- What a store holds is held after its restore, if the checkpoint taken then is fit (R97, R190). -/
theorem State.Retains.completeRestore {P : CheckpointArea → Prop} {Q : BatchRecord → Prop} (h : s.Retains P Q)
    (hc : P s.announced.captureCheckpoint) : s.completeRestore.Retains P Q := by
  have announced : s.announced.Retains P Q := by
    rw [State.announced_frame]
    refine ⟨{ h.store with }, fun q hq => ?_⟩
    obtain ⟨e, he, rfl⟩ := List.mem_map.1 hq
    obtain ⟨q, kept, rfl⟩ := List.mem_map.1 he
    exact h.store.slots q (mem_sortedRecords.1 (List.mem_of_mem_drop kept))
  have captured (u : State) : u.requestCheckpoint.captureCheckpoint = u.captureCheckpoint := by
    apply State.captureCheckpoint_congr <;> simp
  rw [State.completeRestore_eq]
  dsimp only
  split
  · split
    · exact (announced.requestCheckpoint hc).actOnPowerFail (by rwa [captured])
    · exact announced.requestCheckpoint hc
  · split
    · exact announced.actOnPowerFail hc
    · exact announced

@[simp] theorem State.completeRestore_channels (s : State) : s.completeRestore.channels = s.announced.channels := by
  rw [State.completeRestore_eq]
  dsimp only
  split <;> split <;> simp

/-! ### Every step keeps the ranges -/

/-- Every checkpoint is fit to restore channels from, whatever the records hold. -/
def State.retainsChannels (s : State) : Prop := s.Retains (fun a => ∀ r, (a.runs.get r).channelLegal) fun _ => True

theorem State.channelsLegal_iff : s.channelsLegal ↔ (∀ r, (s.channels.get r).legal) ∧ s.retainsChannels := by
  simp [State.channelsLegal, State.retainsChannels, State.retains_iff, State.everyRecord]

/-- Legal channels make a checkpoint that is fit to restore from. -/
theorem State.captureCheckpoint_channelLegal (h : ∀ r, (s.channels.get r).legal) (r : Run) :
    (s.captureCheckpoint.runs.get r).channelLegal := by
  obtain ⟨-, -, -, -, limit, low, high, counts, pulses⟩ := h r
  simp only [State.captureCheckpoint, PerRun.get_ofFn]
  exact ⟨limit, low, high, counts, pulses⟩

theorem channels_legal_set {v : PerRun Channel} (h : ∀ r, (v.get r).legal) {r : Run} {c : Channel} (hc : c.legal)
    (q : Run) : ((v.set r c).get q).legal := by
  rw [PerRun.get_set]; split
  · exact hc
  · exact h q

/-- A change of one channel that leaves the ring and the store. -/
theorem State.channelsLegal.set (h : s.channelsLegal) {r : Run} {c : Channel} (hc : c.legal)
    (ht : t.channels = s.channels.set r c) (hs : t.store = s.store) (hr : t.history.records = s.history.records) :
    t.channelsLegal := by
  obtain ⟨legal, retains⟩ := State.channelsLegal_iff.1 h
  exact State.channelsLegal_iff.2 ⟨by rw [ht]; exact channels_legal_set legal hc, retains.of_eq hs hr⟩

/-- A change of the store and the ring that leaves the channels. -/
theorem State.channelsLegal.of_channels_eq (h : s.channelsLegal) (ht : t.channels = s.channels)
    (hr : t.retainsChannels) : t.channelsLegal :=
  State.channelsLegal_iff.2 ⟨ht ▸ (State.channelsLegal_iff.1 h).1, hr⟩

theorem State.channelsLegal.sameFigures (h : s.channelsLegal) (e : s.SameFigures t) : t.channelsLegal :=
  h.of_channels_eq e.channels ((State.channelsLegal_iff.1 h).2.of_eq e.store (by rw [History.records, e.ring]; rfl))

theorem State.channelsLegal.respond (h : s.channelsLegal) (p : Port) (echo : Byte) (a : Answer) :
    (s.respond p echo a).channelsLegal := h

/-- Whatever a hand-off closes, legal channels are what a checkpoint takes. -/
theorem State.channelsLegal.closesInto (h : s.channelsLegal) :
    s.closesInto (fun a => ∀ r, (a.runs.get r).channelLegal) fun _ => True := fun t ht _ =>
  ⟨fun _ => State.captureCheckpoint_channelLegal (by rw [ht]; exact (State.channelsLegal_iff.1 h).1), fun _ _ _ => trivial⟩

theorem State.channelsLegal.computeWindow (h : s.channelsLegal) (r : Run) (f : Nat) (w : WindowCounts) :
    (s.computeWindow r f w).channelsLegal := by
  have totals : (s.afterTotals r f w.pulses).channelsLegal :=
    h.of_channels_eq (by simp [State.afterTotals])
      ((State.channelsLegal_iff.1 h).2.of_eq (by simp [State.afterTotals]) (by simp [State.afterTotals]))
  exact h.of_channels_eq (by simp) ((State.channelsLegal_iff.1 h).2.computeWindow totals.closesInto)

theorem State.channelsLegal.setRunState (h : s.channelsLegal) (r : Run) (x : RunState) :
    (s.setRunState r x).channelsLegal :=
  have legal : (s.channels.get r).legal := (State.channelsLegal_iff.1 h).1 r
  h.set (r := r) (c := { s.channels.get r with runState := x }) legal (by simp) (by simp) (by simp)

theorem State.channelsLegal.setChannel (h : s.channelsLegal) (r : Run) {c : Channel} (hc : c.legal) :
    (s.setChannel r c).channelsLegal := h.set hc rfl rfl rfl

/-! ### The commands that touch a channel or the store -/

theorem State.channelsLegal.channel (h : s.channelsLegal) (r : Run) : (s.channels.get r).legal :=
  (State.channelsLegal_iff.1 h).1 r

theorem State.channelsLegal.captured (h : s.channelsLegal) (r : Run) : (s.captureCheckpoint.runs.get r).channelLegal :=
  State.captureCheckpoint_channelLegal h.channel r

theorem State.reset_channelsLegal : State.reset.channelsLegal := by
  refine State.channelsLegal_iff.2 ⟨fun r => by cases r <;> exact Channel.reset_legal _, ?_⟩
  exact ⟨⟨by simp [State.reset, Store.reset], by simp [State.reset, Store.reset], by simp [State.reset, Store.reset],
    fun _ _ => trivial, by simp [State.reset, Store.reset]⟩, fun _ _ => trivial⟩

/-- A reset keeps the marked copies, and has no write in progress (R184, R191). -/
theorem Store.Retains.restart {P : CheckpointArea → Prop} {Q : BatchRecord → Prop} {x : Store} (h : x.Retains P Q) :
    x.restart.Retains P Q :=
  { first := h.first, second := h.second, slots := h.slots
    writing := fun _ hw => absurd hw.symm (Option.some_ne_none _), queue := fun _ hj => absurd hj List.not_mem_nil }

theorem execReset_channelsLegal (h : s.channelsLegal) (e : execReset s = .next t) : t.channelsLegal := by
  cases e
  exact State.channelsLegal_iff.2
    ⟨State.reset_channelsLegal.channel, (State.channelsLegal_iff.1 h).2.store.restart, fun _ _ => trivial⟩

theorem execRestoreComplete_channelsLegal (h : s.channelsLegal) (e : execRestoreComplete s = .next t) :
    t.channelsLegal := by
  unfold execRestoreComplete at e
  split at e <;> cases e
  · obtain ⟨legal, retains⟩ := State.channelsLegal_iff.1 h
    have settled (r : Run) : (s.announced.channels.get r).legal := by
      have checkpoint : (s.store.found.run r).channelLegal := Found.run_induction
        (I := RunCheckpoint.channelLegal) (by simp [RunCheckpoint.absent, RunCheckpoint.channelLegal,
          FaultCounts.atMost, FaultCounts.zero]) fun a ha => retains.store.found_checkpoint ha r
      rw [State.announced_channels, PerRun.get_ofFn, Channel.settled]
      split
      · exact (legal r).settleEnabled checkpoint
      · exact Channel.settleDisabled_legal _ checkpoint
    exact State.channelsLegal_iff.2 ⟨by simpa using settled,
      retains.completeRestore (State.captureCheckpoint_channelLegal settled)⟩
  · exact h

theorem execEdgeEvent_channelsLegal {r : Run} {a b : Bool} {tick : Tick} (h : s.channelsLegal)
    (e : execEdgeEvent r a b tick s = .next t) : t.channelsLegal := by
  have walked (l : Lines) (p : Pair) (x : Tracking) :
      ((s.setLines l).setChannel r { s.channels.get r with pair := p, tracking := x }).channelsLegal :=
    State.channelsLegal.setChannel (s := s.setLines l) h r (h.channel r)
  unfold execEdgeEvent at e
  dsimp only at e
  split at e
  · cases e; exact h
  · split at e <;> cases e
    · exact walked _ _ _
    · exact (walked _ _ _).set (((walked _ _ _).channel r).afterCycle _ _) (State.countCycle_channels ..) (by simp)
        (by simp)

theorem execIntegrityBlockEnd_channelsLegal {r : Run} {x : Bool} (h : s.channelsLegal)
    (e : execIntegrityBlockEnd r x s = .next t) : t.channelsLegal := by
  unfold execIntegrityBlockEnd at e
  dsimp only at e
  split at e <;> cases e
  · exact h.set ((h.channel r).endBlock _) (State.endBlock_channels ..) (by simp) (by simp)
  · exact h

theorem State.channelsLegal.closeWindow (h : s.channelsLegal) (r : Run) : (s.closeWindow r).channelsLegal := by
  have taken := h.setChannel r (c := { (s.channels.get r).takeWindow with
    overspeed := decide (25000 < (s.channels.get r).takeWindow.freq) }) (h.channel r).takeWindow
  exact (taken.setRunState r _).computeWindow r _ _

theorem execWindowExpiry_channelsLegal {r : Run} (h : s.channelsLegal) (e : execWindowExpiry r s = .next t) :
    t.channelsLegal := by
  have moved (x : Tick) : ({ s.channels.get r with deadline := x } : Channel).legal := h.channel r
  unfold execWindowExpiry at e
  dsimp only at e
  split at e
  · cases e; exact h.setChannel r (moved _).carryWindow
  · split at e <;> cases e
    · exact h.setChannel r (moved _)
    · exact (h.setChannel r (moved _)).closeWindow r

theorem State.channelsLegal.enableRun (h : s.channelsLegal) (r : Run) : (s.enableRun r).1.channelsLegal := by
  unfold State.enableRun
  dsimp only
  split
  · exact h
  · split
    · exact h
    · exact (h.setChannel r (h.channel r).enabled).setRunState r _

theorem State.channelsLegal.disableRun (h : s.channelsLegal) (r : Run) : (s.disableRun r).1.channelsLegal := by
  unfold State.disableRun
  dsimp only
  split
  · exact h
  · have closed := ((h.setChannel r (h.channel r).takeWindow).computeWindow r (s.channels.get r).takeWindow.freq
      (s.channels.get r).handedWindow).setRunState r .offline
    exact closed.setChannel r (closed.channel r).disabled

theorem State.channelsLegal.runEnable (h : s.channelsLegal) (n on : Nat) : (s.runEnable n on).1.channelsLegal := by
  unfold State.runEnable
  split
  · exact h
  · split
    · exact h.disableRun _
    · exact h.enableRun _
    · exact h

theorem State.channelsLegal.setCutoff (h : s.channelsLegal) (n hz : Nat) : (s.setCutoff n hz).1.channelsLegal := by
  unfold State.setCutoff
  split
  · exact h
  · exact h.setChannel _ ((h.channel _).setCutoff hz)

theorem State.channelsLegal.setIntegrityLimit (h : s.channelsLegal) (n limit : Nat) :
    (s.setIntegrityLimit n limit).1.channelsLegal := by
  unfold State.setIntegrityLimit
  split
  · exact h
  · exact h.setChannel _ ((h.channel _).setLimit limit)

theorem State.channelsLegal.batchOpen (h : s.channelsLegal) : s.batchOpen.1.channelsLegal := by
  unfold State.batchOpen
  split
  · exact h
  · split
    · exact h
    · split
      · exact h
      · exact h.of_channels_eq (by simp) ((State.channelsLegal_iff.1 h).2.of_eq (by simp) (by simp))

theorem State.channelsLegal.batchClose (h : s.channelsLegal) : s.batchClose.1.channelsLegal := by
  unfold State.batchClose
  split
  · exact h
  · exact h.of_channels_eq (by simp) ((State.channelsLegal_iff.1 h).2.closeBatch_of_closesInto h.closesInto)


end

end Sys2Proof.Machine
end

section
/-! PROOFS. Concurrence at the measurement (R139 to R143), and the settled statement on the ranges of the channels. -/

namespace Sys2Proof.Machine

section
variable {s t : State} {P : CheckpointArea → Prop} {Q : BatchRecord → Prop}

/-! ### An applied change (R140, R141) -/

@[simp] theorem State.applyChange_channels (c : Change) (s : State) : (s.applyChange c).1.channels = s.channels := by
  cases c with
  | kFactor r kx => simp only [State.applyChange, State.ownKFactor]; split <;> simp
  | mfPoint r f m => simp only [State.applyChange, State.ownCurve]; split <;> simp
  | mfPointDelete r f => simp only [State.applyChange, State.ownCurve]; split <;> simp
  | proverVolume bv => simp [State.applyChange, State.ownProverVolume]
  | samplerSetup g size cap => simp [State.applyChange]

@[simp] theorem State.applyChange_history (c : Change) (s : State) : (s.applyChange c).1.history = s.history := by
  cases c with
  | kFactor r kx => simp only [State.applyChange, State.ownKFactor]; split <;> simp
  | mfPoint r f m => simp only [State.applyChange, State.ownCurve]; split <;> simp
  | mfPointDelete r f => simp only [State.applyChange, State.ownCurve]; split <;> simp
  | proverVolume bv => simp [State.applyChange, State.ownProverVolume]
  | samplerSetup g size cap => simp [State.applyChange]

@[simp] theorem State.applyChange_store (c : Change) (s : State) : (s.applyChange c).1.store = s.store := by
  cases c with
  | kFactor r kx => simp only [State.applyChange, State.ownKFactor]; split <;> simp
  | mfPoint r f m => simp only [State.applyChange, State.ownCurve]; split <;> simp
  | mfPointDelete r f => simp only [State.applyChange, State.ownCurve]; split <;> simp
  | proverVolume bv => simp [State.applyChange, State.ownProverVolume]
  | samplerSetup g size cap => simp [State.applyChange]

/-- What an application does beside its owner's change: the books of change control, the PARAMETERS request and PROPOSAL
(R139, R141, R143). -/
theorem State.applyProposal_cases (slot : Nat) (x : Proposal) (s : State) :
    let u := (s.applyChange x.change).1
    (∃ c, s.applyProposal slot x = (u.setControl c).raise .proposal) ∨
    ∃ c d n, s.applyProposal slot x =
      State.raiseTimes .proposal n (((u.setControl c).requestParameters).setControl d) := by
  simp only [State.applyProposal]
  split
  · exact .inl ⟨_, rfl⟩
  · exact .inr ⟨_, _, _, rfl⟩

/-- The same in fields: an application leaves what its owner's change left, but for change control, ports and store. -/
theorem State.applyProposal_fields (slot : Nat) (x : Proposal) (s : State) :
    (s.applyProposal slot x).channels = s.channels ∧
      (s.applyProposal slot x).totalizers = (s.applyChange x.change).1.totalizers ∧
      (s.applyProposal slot x).batch = (s.applyChange x.change).1.batch := by
  obtain ⟨c, e⟩ | ⟨c, d, n, e⟩ := s.applyProposal_cases slot x <;> rw [e] <;> simp

theorem State.Retains.applyProposal {slot : Nat} {x : Proposal} (h : s.Retains P Q)
    (hc : ∀ t : State, t.channels = s.channels → t.totalizers = (s.applyChange x.change).1.totalizers →
      t.batch = (s.applyChange x.change).1.batch → P t.captureCheckpoint) :
    (s.applyProposal slot x).Retains P Q := by
  have owned (c : ChangeControl) : ((s.applyChange x.change).1.setControl c).Retains P Q :=
    h.of_eq (by simp) (by simp)
  obtain ⟨c, e⟩ | ⟨c, d, n, e⟩ := s.applyProposal_cases slot x <;> rw [e]
  · exact (owned c).of_eq rfl rfl
  · exact ((owned c).requestParameters (hc _ (by simp) (by simp) (by simp))).of_eq (by simp) (by simp)

/-- The three ways CONCUR ends (R137): refused, one more verdict given, or the proposal applied. -/
theorem State.concur_cases (p : Port) (id : Nat) (s : State) :
    (s.concur p id).1 = s ∨ ∃ slot x, s.checkVerdict p id = .ok (slot, x) ∧
      ((s.concur p id).1 = s.putProposal slot (x.setVerdict .concur p) ∨
        (s.concur p id).1 = (s.putProposal slot (x.setVerdict .concur p)).applyProposal slot (x.setVerdict .concur p)) := by
  unfold State.concur
  split
  · exact .inl rfl
  · rename_i slot x h
    refine .inr ⟨slot, x, h, ?_⟩
    dsimp only
    split
    · exact .inr rfl
    · exact .inl rfl

theorem State.channelsLegal.concur (h : s.channelsLegal) (p : Port) (id : Nat) : (s.concur p id).1.channelsLegal := by
  obtain e | ⟨slot, x, -, e | e⟩ := s.concur_cases p id <;> rw [e]
  · exact h
  · exact h
  · refine h.of_channels_eq ((State.applyProposal_fields ..).1.trans rfl) ?_
    have put := (State.channelsLegal_iff.1 h).2.of_eq (t := s.putProposal slot (x.setVerdict .concur p)) rfl rfl
    exact put.applyProposal fun t ht _ _ =>
      State.captureCheckpoint_channelLegal (by rw [ht]; exact h.channel)

/-! ### Every step -/

/-- Accepted first levels leave what a channel's ranges speak of (R5). -/
theorem Channel.legal.firstLevels {c : Channel} (h : c.legal) (l : Lines) (r : Run) : (c.firstLevels l r).legal := by
  unfold Channel.firstLevels
  split <;> exact h

theorem State.channelsLegal.tickClock (h : s.channelsLegal) : s.tickClock.channelsLegal := by
  obtain ⟨legal, retains⟩ := State.channelsLegal_iff.1 h
  unfold State.tickClock
  split
  · refine State.channelsLegal_iff.2 ⟨fun r => ?_, retains.of_eq rfl rfl⟩
    simp only [State.followLines, PerRun.get_ofFn]
    exact (legal r).firstLevels _ _
  · exact h

theorem State.channelsLegal.exec {i : Instr} (h : s.channelsLegal) (e : exec i s = .next t) : t.channelsLegal := by
  have retains := (State.channelsLegal_iff.1 h).2
  have request {p : Port} {row : CatalogueRow} {args : List Byte} {body : State → State × Answer}
      (hb : (body s).1.channelsLegal) : (takeRequest p row args body s).channelsLegal :=
    takeRequest_induction h hb fun _ _ _ _ k => k.respond _ _ _
  by_cases hi : touchesFigures i = false
  · exact h.sameFigures (exec_sameFigures hi e)
  · cases i <;> try exact absurd rfl hi
    case reset => exact execReset_channelsLegal h e
    case restoreComplete => exact execRestoreComplete_channelsLegal h e
    case edgeEvent => exact execEdgeEvent_channelsLegal h e
    case integrityBlockEnd => exact execIntegrityBlockEnd_channelsLegal h e
    case windowExpiry => exact execWindowExpiry_channelsLegal h e
    case periodicCheckpoint =>
      refine h.of_channels_eq ?_ (retains.periodicCheckpoint h.captured e)
      simp only [Machine.exec, execPeriodicCheckpoint] at e
      split at e <;> cases e <;> simp
    case jobComplete =>
      refine h.of_channels_eq ?_ (retains.jobComplete h.captured e)
      simp only [Machine.exec, execJobComplete] at e
      split at e <;> cases e <;> simp
    case powerFailWarning =>
      refine h.of_channels_eq ?_ (retains.powerFailWarning h.captured e)
      simp only [Machine.exec, execPowerFailWarning] at e
      split at e <;> cases e <;> simp
    case powerFailClear =>
      refine h.of_channels_eq ?_ (retains.powerFailClear h.captured e)
      simp only [Machine.exec, execPowerFailClear] at e
      split at e
      · split at e <;> cases e <;> simp
      · cases e; rfl
    case runEnable => cases e; exact request (h.runEnable _ _)
    case runEnableOff => cases e; exact request (h.runEnable _ _)
    case setCutoff => cases e; exact request (h.setCutoff _ _)
    case setIntegrityLimit => cases e; exact request (h.setIntegrityLimit _ _)
    case batchOpen => cases e; exact request h.batchOpen
    case batchClose => cases e; exact request h.batchClose
    case concur => cases e; exact request (h.concur _ _)

/-- A step is a tick, or the front command on the state without it (R1, R168). -/
theorem step_induction {I : State → Prop} (tick : I s.tickClock)
    (command : ∀ i l, exec i { s with pending := l } = .next t → I t) (e : step s = .next t) : I t := by
  unfold step at e
  split at e
  · cases e; exact tick
  · exact command _ _ e

/-- Settles O7: each command keeps the channels, and what the store may bring back to them, within their ranges. -/
theorem stepKeepsChannelsInRange : Obligations.StepKeepsChannelsInRange := fun s _ h e =>
  step_induction h.tickClock (fun _ l => State.channelsLegal.exec (s := { s with pending := l }) h) e

end

end Sys2Proof.Machine
end

section
/-! PROOFS. Totals, remainders and accumulators: what each operation of the totalizer and of the batch controller keeps of their
ranges (R30 to R33, R41, R66). -/

namespace Sys2Proof.Machine

/-! ### Accumulators (R37 to R41) -/

theorem Accumulators.zero_legal : Accumulators.zero.legal :=
  ⟨⟨Nat.succ_pos _, Nat.succ_pos _, Nat.succ_pos _⟩, Nat.zero_le _, Nat.zero_le _, Nat.zero_le _, Nat.zero_le _,
    Nat.zero_le _⟩

theorem Triple.satAdd_below (x y : Triple) : (x.satAdd y).below (max32 + 1) :=
  ⟨Nat.lt_succ_of_le (satAdd_le ..), Nat.lt_succ_of_le (satAdd_le ..), Nat.lt_succ_of_le (satAdd_le ..)⟩

theorem Accumulators.add_legal (x y : Accumulators) : (x.add y).legal :=
  ⟨Triple.satAdd_below .., FaultCounts.satAdd_atMost ..⟩

/-! ### A totalizer -/

theorem wrapTotal_lt (total increment : Nat) : wrapTotal total increment < totalModulus :=
  Nat.mod_lt _ (by simp [totalModulus])

theorem rollCount_lt {rollover : Nat} (h : rollover < max8 + 1) (total increment : Nat) :
    rollCount rollover total increment < max8 + 1 := by
  unfold rollCount
  split
  · exact Nat.lt_succ_of_le (satAdd_le ..)
  · exact h

/-- What a division leaves of a remainder. -/
theorem sub_div_mul (n d : Nat) : n - n / d * d = n % d := by rw [Nat.mod_eq_sub, Nat.mul_comm]

/-- The fields of a totalizer after a hand-off (R28 to R33). -/
theorem Totalizer.handed_eq (x : Totalizer) (mf : Nat) (status : CurveStatus) (n : Nat) :
    let ri := x.indicatedRemainder + n * 1000000
    let rg := x.grossRemainder + n * 1000000 * mf
    let dI := ri / x.kx
    let dG := rg / (x.kx * 1000000)
    x.handed mf status n = { x with
      lastMf := some mf, curveStatus := status, curveChanged := false
      indicatedRemainder := ri % x.kx, grossRemainder := rg % (x.kx * 1000000)
      total := ⟨wrapTotal x.total.pulses n, wrapTotal x.total.indicated dI, wrapTotal x.total.gross dG⟩
      rollover := ⟨rollCount x.rollover.pulses x.total.pulses n, rollCount x.rollover.indicated x.total.indicated dI,
        rollCount x.rollover.gross x.total.gross dG⟩ } := by
  simp [Totalizer.handed, Totalizer.convert, Totalizer.takeLookup, Totalizer.addTotals, sub_div_mul]

theorem Totalizer.legal.handed {x : Totalizer} (h : x.legal) (hk : x.kx ≠ 0) (mf : Nat) (status : CurveStatus) (n : Nat) :
    (x.handed mf status n).legal := by
  obtain ⟨-, ⟨pulses, indicated, gross⟩, -, unbatched⟩ := h
  rw [Totalizer.handed_eq]
  have kx : 0 < x.kx := Nat.pos_of_ne_zero hk
  exact ⟨⟨wrapTotal_lt .., wrapTotal_lt .., wrapTotal_lt ..⟩,
    ⟨rollCount_lt pulses .., rollCount_lt indicated .., rollCount_lt gross ..⟩,
    ⟨fun none => absurd none hk, fun _ => ⟨Nat.mod_lt _ kx, Nat.mod_lt _ (Nat.mul_pos kx (by decide))⟩⟩, unbatched⟩

theorem Totalizer.legal.emptyUnbatched {x : Totalizer} (h : x.legal) : x.emptyUnbatched.legal :=
  ⟨h.1, h.2.1, h.2.2.1, Accumulators.zero_legal⟩

/-- New unbatched accumulators within their sizes. -/
theorem Totalizer.legal.setUnbatched {x : Totalizer} (h : x.legal) {y : Accumulators} (hy : y.legal) (b : Bool) :
    ({ x with unbatched := y, unbatchedSaturated := b } : Totalizer).legal := ⟨h.1, h.2.1, h.2.2.1, hy⟩

/-- A new Kx comes with empty remainders (R43). -/
theorem Totalizer.legal.setKx {x : Totalizer} (h : x.legal) {kx : Nat} (hk : 0 < kx) :
    ({ x with kx := kx, indicatedRemainder := 0, grossRemainder := 0 } : Totalizer).legal :=
  ⟨h.1, h.2.1, ⟨fun _ => ⟨rfl, rfl⟩, fun _ => ⟨hk, Nat.mul_pos hk (by decide)⟩⟩, h.2.2.2⟩

theorem Totalizer.reset_legal : Totalizer.reset.legal := by
  refine ⟨⟨?_, ?_, ?_⟩, ⟨?_, ?_, ?_⟩, ⟨fun _ => ⟨rfl, rfl⟩, fun h => absurd rfl h⟩, Accumulators.zero_legal⟩ <;>
    simp [Totalizer.reset, Triple.zero, totalModulus]

/-! ### The open batch (R66) -/

theorem OpenBatch.bare_figuresLegal {b : OpenBatch} : b.bare.figuresLegal ↔ b.figuresLegal := Iff.rfl

/-- The sum over the runs after one run's gross rose (R66). -/
theorem grossSum_set (v : PerRun BatchAccumulators) (r : Run) (x : BatchAccumulators)
    (h : (v.get r).main.volume.gross ≤ x.main.volume.gross) :
    (allRuns.map fun q => ((v.set r x).get q).main.volume.gross).sum =
      (allRuns.map fun q => (v.get q).main.volume.gross).sum +
        (x.main.volume.gross - (v.get r).main.volume.gross) := by
  cases r <;> simp only [allRuns, PerRun.get, PerRun.set, List.map_cons, List.map_nil, List.sum_cons, List.sum_nil]
    at h ⊢ <;> omega

/-- A window of a run of the run set keeps the figures of the batch (R41, R66, R70). -/
theorem OpenBatch.figuresLegal.addWindow {b : OpenBatch} (h : b.figuresLegal) {r : Run} (w : WindowFigures)
    (hr : inRunSet b.plan.runSet r = true) : (b.addWindow r w).figuresLegal := by
  obtain ⟨sizes, outside, sum⟩ := h
  have grows : (b.acc.get r).main.volume.gross ≤ ((b.acc.get r).add w).main.volume.gross := by
    have low := (sizes r).1.1.2.2
    simp only [BatchAccumulators.add, Accumulators.add, Triple.satAdd, satAdd]
    omega
  refine ⟨fun q => ?_, fun q hq => ?_, ?_⟩
  · simp only [OpenBatch.addWindow, PerRun.get_set]
    split
    · exact ⟨Accumulators.add_legal .., satAdd_le .., satAdd_le ..⟩
    · exact sizes q
  · have other : q ≠ r := by rintro rfl; simp [OpenBatch.addWindow, hr] at hq
    simpa [OpenBatch.addWindow, other] using outside q hq
  · simp only [OpenBatch.addWindow, OpenBatch.grossSum, grossSum_set _ _ _ grows, sum]

theorem OpenBatch.figuresLegal.markPreTarget {b : OpenBatch} (h : b.figuresLegal) : b.markPreTarget.figuresLegal := by
  unfold OpenBatch.markPreTarget
  split <;> exact h

theorem State.newBatch_figuresLegal (s : State) (plan : Plan) (index remaining : Nat) :
    (s.newBatch plan index remaining).figuresLegal := by
  refine ⟨fun r => ?_, fun r _ => by simp [State.newBatch], ?_⟩
  · simp only [State.newBatch, PerRun.get_all]
    exact ⟨Accumulators.zero_legal, Nat.zero_le _, Nat.zero_le _⟩
  · simp [State.newBatch, OpenBatch.grossSum, allRuns, BatchAccumulators.zero, Accumulators.zero, Triple.zero]

/-! ### The invariant, part by part -/

/-- A record's closing totals are below 10^12 (R33). -/
def BatchRecord.closingsLegal (x : BatchRecord) : Prop := ∀ r, ((x.runs.get r).closing).below totalModulus

/-- The parts of `State.totalsLegal`, with what the store and the ring hold in one. -/
structure State.TotalsKept (s : State) : Prop where
  totalizers : ∀ r, (s.totalizers.get r).legal
  enabled    : ∀ r, (s.channels.get r).runState ≠ .offline → (s.totalizers.get r).kx ≠ 0
  batch      : ∀ b, s.batch = some b → b.figuresLegal
  retains    : s.Retains CheckpointArea.totalsLegal BatchRecord.closingsLegal

section
variable {s t : State}

theorem State.totalsLegal_iff : s.totalsLegal ↔ s.TotalsKept := by
  constructor
  · rintro ⟨h1, h2, h3, h4, h5⟩
    exact ⟨h1, h2, h3, State.retains_iff.2 ⟨h4, h5⟩⟩
  · rintro ⟨h1, h2, h3, h4⟩
    obtain ⟨h5, h6⟩ := State.retains_iff.1 h4
    exact ⟨h1, h2, h3, h5, h6⟩

theorem State.captureRun_totalsLegal (h : ∀ r, (s.totalizers.get r).legal) (r : Run) : (s.captureRun r).totalsLegal :=
  h r

/-- Legal figures make a checkpoint that is fit to restore from. -/
theorem State.captureCheckpoint_totalsLegal (h : ∀ r, (s.totalizers.get r).legal)
    (hb : ∀ b, s.batch = some b → b.figuresLegal) : s.captureCheckpoint.totalsLegal :=
  ⟨fun r => by simpa [State.captureCheckpoint] using State.captureRun_totalsLegal h r, hb⟩

theorem State.TotalsKept.captured (h : s.TotalsKept) : s.captureCheckpoint.totalsLegal :=
  State.captureCheckpoint_totalsLegal h.totalizers h.batch

/-- The open batch's figures do not depend on its flags. -/
theorem figuresLegal_of_bareBatch (h : ∀ b, s.batch = some b → b.figuresLegal) (e : t.bareBatch = s.bareBatch) :
    ∀ b, t.batch = some b → b.figuresLegal := by
  intro b hb
  have : s.batch.map OpenBatch.bare = some b.bare := by rw [← State.bareBatch, ← e]; simp [State.bareBatch, hb]
  obtain ⟨b', hb', same⟩ := Option.map_eq_some_iff.1 this
  rw [← OpenBatch.bare_figuresLegal, ← same]
  exact h b' hb'

/-- The figures as they were, whatever else of a channel than its run state changed. -/
theorem State.TotalsKept.of_eq (h : s.TotalsKept) (ht : t.totalizers = s.totalizers)
    (hc : ∀ r, (t.channels.get r).runState = (s.channels.get r).runState) (hb : t.bareBatch = s.bareBatch)
    (hs : t.store = s.store) (hr : t.history.records = s.history.records) : t.TotalsKept where
  totalizers := by rw [ht]; exact h.totalizers
  enabled r := by rw [ht, hc]; exact h.enabled r
  batch := figuresLegal_of_bareBatch h.batch hb
  retains := h.retains.of_eq hs hr

theorem State.TotalsKept.sameFigures (h : s.TotalsKept) (e : s.SameFigures t) : t.TotalsKept :=
  h.of_eq e.totalizers (fun r => by rw [e.channels]) e.batch e.store (by rw [History.records, e.ring]; rfl)

/-- A change of the store and the ring that leaves the figures. -/
theorem State.TotalsKept.of_retains (h : s.TotalsKept) (ht : t.totalizers = s.totalizers)
    (hc : t.channels = s.channels) (hb : t.batch = s.batch)
    (hr : t.Retains CheckpointArea.totalsLegal BatchRecord.closingsLegal) : t.TotalsKept where
  totalizers := by rw [ht]; exact h.totalizers
  enabled r := by rw [ht, hc]; exact h.enabled r
  batch := by rw [hb]; exact h.batch
  retains := hr

/-- A totalizer within its ranges, with its Kx set if it was. -/
theorem State.TotalsKept.setTotalizer (h : s.TotalsKept) {r : Run} {x : Totalizer} (hx : x.legal)
    (hk : (s.totalizers.get r).kx ≠ 0 → x.kx ≠ 0) : (s.setTotalizer r x).TotalsKept where
  totalizers q := by
    rw [State.setTotalizer_totalizers, PerRun.get_set]
    split
    · exact hx
    · exact h.totalizers q
  enabled q hq := by
    rw [State.setTotalizer_totalizers, PerRun.get_set]
    split
    · rename_i e; subst e; exact hk (h.enabled q hq)
    · exact h.enabled q hq
  batch := h.batch
  retains := h.retains.of_eq rfl rfl

theorem State.TotalsKept.setBatch (h : s.TotalsKept) {b : OpenBatch} (hb : b.figuresLegal) :
    (s.setBatch (some b)).TotalsKept :=
  { h with batch := fun _ hc => Option.some.inj hc ▸ hb, retains := h.retains.of_eq rfl rfl }

/-- A channel changed; if it is enabled then, its run's Kx is set. -/
theorem State.TotalsKept.setChannel (h : s.TotalsKept) {r : Run} {c : Channel}
    (hc : c.runState ≠ .offline → (s.totalizers.get r).kx ≠ 0) : (s.setChannel r c).TotalsKept where
  totalizers := h.totalizers
  enabled q := by
    rw [State.setChannel_channels, PerRun.get_set]
    split
    · rename_i e; subst e; exact hc
    · exact h.enabled q
  batch := h.batch
  retains := h.retains.of_eq rfl rfl

/-! ### Closing and opening a batch -/

/-- Legal totals are what a record's closing snapshots take (R77). -/
theorem State.assembleRecord_closingsLegal (h : ∀ r, (s.totalizers.get r).legal) (b : OpenBatch) (cause : CloseCause)
    (overshoot : Nat) : (s.assembleRecord b cause overshoot).closingsLegal := fun r => by
  simpa [State.assembleRecord, State.assembleRun] using (h r).1

theorem State.TotalsKept.closesInto (h : s.TotalsKept) :
    s.closesInto CheckpointArea.totalsLegal BatchRecord.closingsLegal := by
  intro t _ ht
  have legal : ∀ r, (t.totalizers.get r).legal := by rw [ht]; exact h.totalizers
  refine ⟨fun closed => State.captureCheckpoint_totalsLegal legal fun b hb => ?_,
    State.assembleRecord_closingsLegal legal⟩
  rw [closed] at hb; cases hb

@[simp] theorem State.closeBatch_batch (s : State) (cause : CloseCause) (overshoot : Nat) (b : OpenBatch) :
    (s.closeBatch cause overshoot b).batch = none := by
  simp [State.closeBatch]

theorem State.TotalsKept.closeBatch (h : s.TotalsKept) (cause : CloseCause) (overshoot : Nat) (b : OpenBatch) :
    (s.closeBatch cause overshoot b).TotalsKept where
  totalizers := by simpa using h.totalizers
  enabled := by simpa using h.enabled
  batch _ hc := by simp at hc
  retains := h.retains.closeBatch_of_closesInto h.closesInto

theorem State.TotalsKept.openBatch (h : s.TotalsKept) (plan : Plan) (index remaining : Nat) :
    (s.openBatch plan index remaining).TotalsKept where
  totalizers r := by simpa [State.openBatch] using (h.totalizers r).emptyUnbatched
  enabled r := by simpa [State.openBatch, Totalizer.emptyUnbatched] using h.enabled r
  batch b hb := by
    simp only [State.openBatch, State.raise_batch, Option.some.injEq] at hb
    exact hb ▸ s.newBatch_figuresLegal plan index remaining
  retains := h.retains.of_eq (by simp) (by simp)

theorem State.TotalsKept.openFromQueue (h : s.TotalsKept) (plan : Plan) (rest : List Plan) :
    (s.openFromQueue plan rest).TotalsKept :=
  State.TotalsKept.openBatch (s := s.setQueue rest) (h.of_eq rfl (fun _ => rfl) rfl rfl rfl) _ _ _

theorem State.TotalsKept.continueAfter (h : s.TotalsKept) (b : OpenBatch) : (s.continueAfter b).TotalsKept := by
  unfold State.continueAfter
  split
  · exact h
  · split
    · exact h
    · split
      · exact h
      · exact h.openFromQueue _ _
    · split
      · exact h.openBatch _ _ _
      · exact h

/-! ### A window's hand-off -/

theorem State.TotalsKept.testTargets (h : s.TotalsKept) {b : OpenBatch} (hb : b.figuresLegal) :
    (s.testTargets b).TotalsKept := by
  have tested : (s.afterPreTarget b).TotalsKept :=
    (h.setBatch hb.markPreTarget).of_eq (by simp [State.afterPreTarget]) (fun _ => by simp [State.afterPreTarget])
      (State.bareBatch_congr (by simp [State.afterPreTarget])) (by simp [State.afterPreTarget])
      (by simp [State.afterPreTarget])
  obtain ⟨-, e⟩ | ⟨-, e⟩ := s.testTargets_cases b <;> rw [e]
  · exact (tested.closeBatch _ _ _).continueAfter _
  · exact tested

theorem State.TotalsKept.routeWindow (h : s.TotalsKept) (r : Run) (w : WindowFigures) :
    (s.routeWindow r w).TotalsKept := by
  unfold State.routeWindow
  split
  · rename_i b hb
    obtain ⟨opened, member⟩ := State.batchOf_some hb
    have added := (h.batch b opened).addWindow w member
    exact ((h.setBatch added).of_eq (by simp) (fun _ => by simp) (State.bareBatch_congr (by simp)) (by simp)
      (by simp)).testTargets added
  · exact h.setTotalizer ((h.totalizers r).setUnbatched (Accumulators.add_legal ..) _) id

theorem State.TotalsKept.computeWindow (h : s.TotalsKept) {r : Run} (hk : (s.totalizers.get r).kx ≠ 0) (f : Nat)
    (w : WindowCounts) : (s.computeWindow r f w).TotalsKept := by
  rw [State.computeWindow_eq]
  refine State.TotalsKept.routeWindow (State.TotalsKept.of_eq (h.setTotalizer ((h.totalizers r).handed hk
    (lookupCurve (s.curves.get r) f).1 (lookupCurve (s.curves.get r) f).2 w.pulses) (by
      rw [Totalizer.handed_eq]; exact id)) ?_ ?_ ?_ ?_ ?_) _ _ <;>
    simp [State.afterTotals, State.bareBatch]

/-! ### The pulse front end -/

/-- A change of run state leaves the open batch (R17, R120). -/
@[simp] theorem State.setRunState_batch (r : Run) (x : RunState) (s : State) : (s.setRunState r x).batch = s.batch := by
  obtain ⟨-, e⟩ | ⟨-, -, -, e⟩ | ⟨-, -, e⟩ := s.setRunState_cases r x <;> rw [e] <;> simp

theorem State.TotalsKept.setRunState (h : s.TotalsKept) {r : Run} {x : RunState}
    (hx : x ≠ .offline → (s.totalizers.get r).kx ≠ 0) : (s.setRunState r x).TotalsKept :=
  (h.setChannel (c := { s.channels.get r with runState := x }) hx).of_eq (by simp) (fun _ => by simp)
    (State.bareBatch_congr (by simp)) (by simp) (by simp)

@[simp] theorem Channel.afterCycle_runState (c : Channel) (restoring : Bool) (cls : CycleClass) :
    (c.afterCycle restoring cls).runState = c.runState := by
  unfold Channel.afterCycle Channel.advance
  dsimp only
  split
  · rfl
  · split
    · rfl
    · split <;> rfl

/-- A cycle's count changes of the open batch its flags alone. -/
@[simp] theorem State.countCycle_bareBatch (s : State) (r : Run) (cls : CycleClass) (stamp : Tick) :
    (s.countCycle r cls stamp).bareBatch = s.bareBatch := by
  unfold State.countCycle
  dsimp only
  split
  · rfl
  · split
    · exact State.bareBatch_congr (by simp)
    · exact (State.proverCycle_bareBatch ..).trans (State.bareBatch_congr (by simp))

theorem execEdgeEvent_totalsKept {r : Run} {a b : Bool} {tick : Tick} (h : s.TotalsKept)
    (e : execEdgeEvent r a b tick s = .next t) : t.TotalsKept := by
  have walked (l : Lines) (p : Pair) (x : Tracking) :
      ((s.setLines l).setChannel r { s.channels.get r with pair := p, tracking := x }).TotalsKept :=
    State.TotalsKept.setChannel (s := s.setLines l) (h.of_eq rfl (fun _ => rfl) rfl rfl rfl) (h.enabled r)
  unfold execEdgeEvent at e
  dsimp only at e
  split at e
  · cases e; exact h
  · split at e <;> cases e
    · exact walked _ _ _
    · refine (walked _ _ _).of_eq (State.countCycle_totalizers ..) (fun q => ?_) (State.countCycle_bareBatch ..)
        (State.countCycle_store ..) (by rw [State.countCycle_history])
      rw [State.countCycle_channels, PerRun.get_set]
      split
      · rename_i same; subst same; simp
      · rfl

theorem execIntegrityBlockEnd_totalsKept {r : Run} {x : Bool} (h : s.TotalsKept)
    (e : execIntegrityBlockEnd r x s = .next t) : t.TotalsKept := by
  unfold execIntegrityBlockEnd at e
  dsimp only at e
  split at e <;> cases e
  · exact (h.setChannel (c := (s.channels.get r).endBlock ((s.channels.get r).blockErrors + x.toNat)) (h.enabled r)).of_eq
      (by simp) (fun _ => by simp) (State.bareBatch_congr (by simp)) (by simp) (by simp)
  · exact h

theorem State.TotalsKept.closeWindow (h : s.TotalsKept) {r : Run} (hk : (s.totalizers.get r).kx ≠ 0) :
    (s.closeWindow r).TotalsKept :=
  have taken := h.setChannel (r := r) (c := { (s.channels.get r).takeWindow with
    overspeed := decide (25000 < (s.channels.get r).takeWindow.freq) }) fun _ => hk
  (taken.setRunState fun _ => hk).computeWindow (by simpa using hk) _ _

theorem execWindowExpiry_totalsKept {r : Run} (h : s.TotalsKept) (e : execWindowExpiry r s = .next t) :
    t.TotalsKept := by
  have moved (x : Tick) : (s.setChannel r { s.channels.get r with deadline := x }).TotalsKept :=
    h.setChannel (h.enabled r)
  have carried (x : Tick) : (s.setChannel r { s.channels.get r with deadline := x }.carryWindow).TotalsKept :=
    h.setChannel (h.enabled r)
  unfold execWindowExpiry at e
  dsimp only at e
  split at e
  · cases e; exact carried _
  · split at e
    · cases e; exact moved _
    · rename_i on; cases e; exact (moved _).closeWindow (h.enabled r on)

theorem State.TotalsKept.enableRun (h : s.TotalsKept) (r : Run) : (s.enableRun r).1.TotalsKept := by
  unfold State.enableRun
  dsimp only
  split
  · exact h
  · split
    · exact h
    · rename_i set
      exact (h.setChannel fun _ => set).setRunState fun _ => set

theorem State.TotalsKept.disableRun (h : s.TotalsKept) (r : Run) : (s.disableRun r).1.TotalsKept := by
  unfold State.disableRun
  dsimp only
  split
  · exact h
  · rename_i on
    have taken := h.setChannel (c := (s.channels.get r).takeWindow) (h.enabled r)
    have off := State.TotalsKept.setRunState (r := r) (x := .offline)
      (taken.computeWindow (h.enabled r on) (s.channels.get r).takeWindow.freq (s.channels.get r).handedWindow)
      fun hx => absurd rfl hx
    exact off.setChannel (off.enabled r)

theorem State.TotalsKept.runEnable (h : s.TotalsKept) (n on : Nat) : (s.runEnable n on).1.TotalsKept := by
  unfold State.runEnable
  split
  · exact h
  · split
    · exact h.disableRun _
    · exact h.enableRun _
    · exact h

theorem State.TotalsKept.setCutoff (h : s.TotalsKept) (n hz : Nat) : (s.setCutoff n hz).1.TotalsKept := by
  unfold State.setCutoff
  split
  · exact h
  · exact h.setChannel (h.enabled _)

theorem State.TotalsKept.setIntegrityLimit (h : s.TotalsKept) (n limit : Nat) :
    (s.setIntegrityLimit n limit).1.TotalsKept := by
  unfold State.setIntegrityLimit
  split
  · exact h
  · exact h.setChannel (h.enabled _)

theorem State.TotalsKept.batchOpen (h : s.TotalsKept) : s.batchOpen.1.TotalsKept := by
  unfold State.batchOpen
  split
  · exact h
  · split
    · exact h
    · split
      · exact h
      · exact h.openFromQueue _ _

theorem State.TotalsKept.batchClose (h : s.TotalsKept) : s.batchClose.1.TotalsKept := by
  unfold State.batchClose
  split
  · exact h
  · exact h.closeBatch _ _ _

end

end Sys2Proof.Machine
end

section
/-! PROOFS. Totals through a restore and a custody change, and the settled statement on their ranges. -/

namespace Sys2Proof.Machine

section
variable {s t : State}

/-! ### The restore (R34, R82, R190) -/

theorem RunCheckpoint.absent_totalsLegal : RunCheckpoint.absent.totalsLegal :=
  Totalizer.reset_legal

/-- The totals that a restore takes are below 10^12, wherever it takes them from (R33, R34). -/
theorem Store.Retains.found_total {x : Store}
    (h : x.Retains CheckpointArea.totalsLegal BatchRecord.closingsLegal) (r : Run) :
    (x.found.total r).below totalModulus := by
  unfold Found.total
  split
  · rename_i a ha; exact ((h.found_checkpoint ha).1 r).1
  · cases hn : x.found.newest with
    | none => exact Totalizer.reset_legal.1
    | some q => exact h.slots q (mem_sortedRecords.1 (List.mem_of_getLast? hn)) r

/-- Remainders are restored under the Kx they were computed under, and are 0 under another (R34). -/
theorem Store.Retains.found_totalizer {x : Store}
    (h : x.Retains CheckpointArea.totalsLegal BatchRecord.closingsLegal) (r : Run) : (x.found.totalizer r).legal := by
  obtain ⟨-, rollover, ⟨-, set⟩, unbatched⟩ : (x.found.run r).totalsLegal :=
    Found.run_induction (I := RunCheckpoint.totalsLegal) RunCheckpoint.absent_totalsLegal
      fun a ha => (h.found_checkpoint ha).1 r
  refine ⟨h.found_total r, rollover, ?_, unbatched⟩
  by_cases same : x.found.kx r ≠ 0 ∧ x.found.kx r = (x.found.run r).kx
  · simp only [Found.totalizer, decide_eq_true same, if_true]
    exact ⟨fun zero => absurd zero same.1, fun _ => same.2 ▸ set (same.2 ▸ same.1)⟩
  · simp only [Found.totalizer, decide_eq_false same]
    exact ⟨fun _ => ⟨rfl, rfl⟩, fun kx => ⟨Nat.pos_of_ne_zero kx, Nat.mul_pos (Nat.pos_of_ne_zero kx) (by decide)⟩⟩

theorem Store.Retains.found_batch {x : Store}
    (h : x.Retains CheckpointArea.totalsLegal BatchRecord.closingsLegal) {b : OpenBatch} (hb : x.found.batch = some b) :
    b.figuresLegal := by
  obtain ⟨a, ha, hb⟩ := Option.bind_eq_some_iff.1 hb
  split at hb
  · obtain ⟨b', hb', rfl⟩ := Option.map_eq_some_iff.1 hb
    exact (h.found_checkpoint ha).2 b' hb'
  · cases hb

theorem State.announced_totalizers (s : State) : s.announced.totalizers = .ofFn s.store.found.totalizer := by
  rw [State.announced_frame]; rfl

theorem State.announced_batch (s : State) : s.announced.batch = s.store.found.batch := by
  rw [State.announced_frame]; rfl

/-- A run is enabled by a restore only with its Kx set (R24). -/
theorem Channel.settled_enabled (c : Channel) (f : Found) (r : Run) (h : (c.settled f r).runState ≠ .offline) :
    f.kx r ≠ 0 := by
  unfold Channel.settled at h
  split at h
  · rename_i enables
    simp only [Found.enables, Bool.and_eq_true, bne_iff_ne] at enables
    exact enables.2
  · exact absurd rfl h

theorem State.TotalsKept.announced (h : s.TotalsKept) :
    (∀ r, (s.announced.totalizers.get r).legal) ∧ ∀ b, s.announced.batch = some b → b.figuresLegal := by
  rw [State.announced_totalizers, State.announced_batch]
  exact ⟨fun r => by rw [PerRun.get_ofFn]; exact h.retains.store.found_totalizer r,
    fun b hb => h.retains.store.found_batch hb⟩

theorem execRestoreComplete_totalsKept (h : s.TotalsKept) (e : execRestoreComplete s = .next t) : t.TotalsKept := by
  unfold execRestoreComplete at e
  split at e <;> cases e
  · obtain ⟨legal, batch⟩ := h.announced
    have totalizers : s.completeRestore.totalizers = s.announced.totalizers := by
      rw [State.completeRestore_eq]; dsimp only; split <;> split <;> simp
    have open_batch : s.completeRestore.batch = s.announced.batch := by
      rw [State.completeRestore_eq]; dsimp only; split <;> split <;> simp
    refine ⟨totalizers ▸ legal, fun r hr => ?_, open_batch ▸ batch,
      h.retains.completeRestore (State.captureCheckpoint_totalsLegal legal batch)⟩
    rw [totalizers, State.announced_totalizers, PerRun.get_ofFn]
    rw [State.completeRestore_channels, State.announced_channels, PerRun.get_ofFn] at hr
    exact Channel.settled_enabled _ _ r hr
  · exact h

theorem execReset_totalsKept (h : s.TotalsKept) (e : execReset s = .next t) : t.TotalsKept := by
  cases e
  refine ⟨fun r => ?_, fun r hr => ?_, fun b hb => ?_, h.retains.store.restart, fun r hr => ?_⟩
  · simp only [State.reset, PerRun.get_all]; exact Totalizer.reset_legal
  · cases r <;> exact absurd rfl hr
  · exact absurd hb.symm (Option.some_ne_none b)
  · exact absurd hr List.not_mem_nil

/-! ### A custody change (R43, R51) -/

theorem State.TotalsKept.applyKFactor (h : s.TotalsKept) (r : Run) {kx : Nat} (hk : 0 < kx) :
    (s.applyKFactor r kx).TotalsKept := by
  have changed := h.setTotalizer (r := r) ((h.totalizers r).setKx hk) fun _ => Nat.ne_of_gt hk
  unfold State.applyKFactor
  dsimp only
  split
  · rename_i b hb; exact changed.setBatch (h.batch b (State.batchOf_some hb).1)
  · exact changed

theorem State.TotalsKept.markCurveChanged (h : s.TotalsKept) (r : Run) : (s.markCurveChanged r).TotalsKept :=
  h.setTotalizer (x := { s.totalizers.get r with curveChanged := true }) (h.totalizers r) id

theorem State.TotalsKept.ownCurve (h : s.TotalsKept) (r : Run) (x : Except FailureReason (List CurvePoint)) :
    (s.ownCurve r x).1.TotalsKept := by
  unfold State.ownCurve
  split
  · rename_i points
    exact State.TotalsKept.markCurveChanged (s := s.setCurve r points) (h.of_eq rfl (fun _ => rfl) rfl rfl rfl) r
  · exact h

theorem State.TotalsKept.applyChange (h : s.TotalsKept) {c : Change} (hc : c.legal) : (s.applyChange c).1.TotalsKept := by
  cases c with
  | kFactor r kx =>
    have owned := h.applyKFactor r (Nat.lt_of_lt_of_le (by decide : 0 < 1000) hc.1)
    simp only [State.applyChange, State.ownKFactor]
    split
    · exact owned.sameFigures (State.abortSession_sameFigures _ _)
    · exact owned
  | mfPoint r f m => exact h.ownCurve r _
  | mfPointDelete r f => exact h.ownCurve r _
  | proverVolume bv =>
    exact State.TotalsKept.sameFigures (s := s.setProver { s.prover with baseVolume := bv })
      (h.of_eq rfl (fun _ => rfl) rfl rfl rfl) (State.abortSession_sameFigures _ _)
  | samplerSetup g size cap =>
    exact h.of_eq (by simp [State.applyChange]) (fun _ => by simp) (State.bareBatch_congr (by simp [State.applyChange]))
      (by simp) (by simp)

theorem State.TotalsKept.applyProposal (h : s.TotalsKept) {x : Proposal} (hx : x.change.legal) (slot : Nat) :
    (s.applyProposal slot x).TotalsKept := by
  have changed := h.applyChange hx
  obtain ⟨channels, totalizers, batch⟩ := s.applyProposal_fields slot x
  refine ⟨totalizers ▸ changed.totalizers, fun r => ?_, batch ▸ changed.batch, h.retains.applyProposal
    fun t _ ht hb => State.captureCheckpoint_totalsLegal (by rw [ht]; exact changed.totalizers)
      (by rw [hb]; exact changed.batch)⟩
  rw [channels, totalizers, ← State.applyChange_channels x.change s]
  exact changed.enabled r

/-- A verdict is given on a proposal that the table holds (R137). -/
theorem State.checkVerdict_mem {p : Port} {id slot : Nat} {x : Proposal}
    (h : s.checkVerdict p id = .ok (slot, x)) : some x ∈ s.control.slots := by
  have found : s.control.find id = some (slot, x) := by
    unfold State.checkVerdict at h
    split at h
    · cases h
    · rename_i h'
      split at h
      · cases h
      · split at h
        · cases h
        · cases h; exact h'
  obtain ⟨y, hy, e⟩ := List.exists_of_findSome?_eq_some found
  obtain ⟨q, hq, e⟩ := Option.bind_eq_some_iff.1 e
  split at e
  · cases e
    rw [← hq]
    exact List.fst_mem_of_mem_zipIdx hy
  · cases e

@[simp] theorem Proposal.setVerdict_change (x : Proposal) (v : Verdict) (p : Port) :
    (x.setVerdict v p).change = x.change := by cases p <;> rfl

theorem State.TotalsKept.concur (h : s.TotalsKept) (legal : ∀ p, some p ∈ s.control.slots → p.change.legal) (p : Port)
    (id : Nat) : (s.concur p id).1.TotalsKept := by
  have put (slot : Nat) (x : Proposal) : (s.putProposal slot x).TotalsKept :=
    h.of_eq rfl (fun _ => rfl) rfl rfl rfl
  obtain e | ⟨slot, x, checked, e | e⟩ := s.concur_cases p id <;> rw [e]
  · exact h
  · exact put _ _
  · exact (put _ _).applyProposal (by simpa using legal x (State.checkVerdict_mem checked)) _

/-! ### Every step -/

theorem State.TotalsKept.tickClock (h : s.TotalsKept) : s.tickClock.TotalsKept := by
  unfold State.tickClock
  split
  · refine h.of_eq rfl (fun r => ?_) rfl rfl rfl
    simp only [State.followLines, PerRun.get_ofFn, Channel.firstLevels]
    split <;> rfl
  · exact h.of_eq rfl (fun _ => rfl) rfl rfl rfl

theorem State.TotalsKept.exec {i : Instr} (h : s.TotalsKept) (legal : ∀ p, some p ∈ s.control.slots → p.change.legal)
    (e : exec i s = .next t) : t.TotalsKept := by
  have request {p : Port} {row : CatalogueRow} {args : List Byte} {body : State → State × Answer}
      (hb : (body s).1.TotalsKept) : (takeRequest p row args body s).TotalsKept :=
    takeRequest_induction h hb fun _ _ _ _ k => k.of_eq rfl (fun _ => rfl) rfl rfl rfl
  by_cases hi : touchesFigures i = false
  · exact h.sameFigures (exec_sameFigures hi e)
  · cases i <;> try exact absurd rfl hi
    case reset => exact execReset_totalsKept h e
    case restoreComplete => exact execRestoreComplete_totalsKept h e
    case edgeEvent => exact execEdgeEvent_totalsKept h e
    case integrityBlockEnd => exact execIntegrityBlockEnd_totalsKept h e
    case windowExpiry => exact execWindowExpiry_totalsKept h e
    case periodicCheckpoint =>
      have retains := h.retains.periodicCheckpoint h.captured e
      simp only [Machine.exec, execPeriodicCheckpoint] at e
      split at e <;> cases e <;> exact h.of_retains (by simp) (by simp) (by simp) retains
    case jobComplete =>
      have retains := h.retains.jobComplete h.captured e
      simp only [Machine.exec, execJobComplete] at e
      split at e <;> cases e <;> exact h.of_retains (by simp) (by simp) (by simp) retains
    case powerFailWarning =>
      have retains := h.retains.powerFailWarning h.captured e
      simp only [Machine.exec, execPowerFailWarning] at e
      split at e <;> cases e <;> exact h.of_retains (by simp) (by simp) (by simp) retains
    case powerFailClear =>
      have retains := h.retains.powerFailClear h.captured e
      simp only [Machine.exec, execPowerFailClear] at e
      split at e
      · split at e <;> cases e <;> exact h.of_retains (by simp) (by simp) (by simp) retains
      · cases e; exact h
    case runEnable => cases e; exact request (h.runEnable _ _)
    case runEnableOff => cases e; exact request (h.runEnable _ _)
    case setCutoff => cases e; exact request (h.setCutoff _ _)
    case setIntegrityLimit => cases e; exact request (h.setIntegrityLimit _ _)
    case batchOpen => cases e; exact request h.batchOpen
    case batchClose => cases e; exact request h.batchClose
    case concur => cases e; exact request (h.concur legal _ _)

/-- Settles O8: each command keeps totals, remainders and accumulators within their ranges; a new Kx is one that PROPOSE
checked. -/
theorem stepKeepsTotalsInRange : Obligations.StepKeepsTotalsInRange := by
  intro s t custody totals e
  obtain ⟨-, -, proposals, -⟩ := custody
  have kept := State.totalsLegal_iff.1 totals
  have queued (l : List Instr) : ({ s with pending := l } : State).TotalsKept :=
    kept.of_eq rfl (fun _ => rfl) rfl rfl rfl
  exact State.totalsLegal_iff.2 (step_induction kept.tickClock (fun _ l => (queued l).exec proposals) e)

end

end Sys2Proof.Machine
end

section
/-! PROOFS. Reset values, the clocks, the classification of cycles, the run settings and the refusals of run numbers. -/

namespace Sys2Proof.Machine

/-! ### Reset (R190, R191) -/

theorem State.reset_atReset : State.reset.atReset := by
  refine ⟨⟨rfl, rfl, rfl, rfl, rfl⟩, ⟨rfl, rfl, rfl, rfl⟩, fun r => ?_, ⟨rfl, rfl, rfl, rfl⟩, ⟨rfl, rfl, rfl, rfl, rfl⟩,
    fun p => ?_, ⟨rfl, rfl, rfl, rfl, rfl, rfl⟩⟩
  · cases r <;> exact ⟨rfl, rfl, rfl, rfl, rfl, rfl, rfl, rfl, rfl, rfl, rfl, rfl, rfl⟩
  · have entries (c : EventClass) : ClassMap.reset.get c = if c = .restarted then ⟨true, 1, 7⟩ else ⟨false, 0, 4⟩ := by
      cases c <;> rfl
    cases p <;> exact ⟨rfl, rfl, rfl, rfl, entries, rfl, rfl, rfl, rfl⟩

/-- Settles O3: RESET is the state after reset but for the pins, the free index, the queue and what the store keeps, of which
`State.atReset` says nothing. -/
theorem resetPutsEveryBlockAtItsResetValues : Obligations.ResetPutsEveryBlockAtItsResetValues :=
  ⟨State.reset_atReset, fun _ => ⟨_, rfl, State.reset_atReset, rfl, rfl, rfl⟩⟩

/-! ### Argument bytes (R164, R166) -/

/-- The argument byte that comes first. -/
@[simp] theorem argument_first (b : Byte) (l : List Byte) : argument (b :: l) 0 1 = b.toNat := by
  simp [argument, numberOf_one]

theorem runOfNumber_runByte (r : Run) : runOfNumber (runByte r).toNat = some r := by cases r <;> rfl

/-- No run has a number outside 1 to 4 (00_scope.md, Conventions). -/
theorem runOfNumber_eq_none {n : Byte} (h : n = 0 ∨ 4 < n.toNat) : runOfNumber n.toNat = none := by
  rcases h with rfl | h
  · rfl
  · obtain ⟨k, hk⟩ := Nat.exists_eq_add_of_lt h
    rw [hk, show 4 + k + 1 = k + 5 by omega]
    rfl

/-- A request that passes the checks of R169 ends as its own rule says. -/
theorem takeRequest_eq {p : Port} {row : CatalogueRow} {args : List Byte} {body : State → State × Answer} {s t : State}
    {a : Answer} (h1 : s.isRestoring = false) (h2 : row.ports.has p = true) (h3 : row.length = some args.length)
    (hb : body s = (t, a)) : takeRequest p row args body s = t.respond p row.code a := by
  rw [takeRequest_decided p row args body s h1 h2 (.inr h3), hb]

/-! ### Clocks (R3, R4, R175) -/

theorem flagsByte_single (b : Bool) : flagsByte [b] = [bitByte b] := by cases b <;> rfl

theorem tickField_eq (t : Tick) : tickField t = bytesOf 6 t.toNat := field_eq t.isLt

theorem secondsField_eq (t : Seconds) : secondsField t = bytesOf 4 t.toNat := field_eq t.isLt

/-- The fifteen bytes of READ_TIME (R175). -/
theorem State.timeFields_eq (s : State) : s.timeFields =
    bytesOf 6 s.tick.toNat ++ bytesOf 4 s.uptime.toNat ++
      bytesOf 4 (if s.stationSet then s.stationTime.toNat else 0) ++ [bitByte s.stationSet] := by
  simp only [State.timeFields, tickField_eq, secondsField_eq, flagsByte_single]
  split <;> rfl

/-- Settles O22: the one-second event by definition, SET_TIME with its four bytes read as one number, READ_TIME field by
field. -/
theorem clocksAdvanceAndAreRead : Obligations.ClocksAdvanceAndAreRead := by
  intro s
  refine ⟨rfl, fun a b c d h => ?_, fun p h => ?_⟩
  · have bytes : BitVec.ofNat 32 (argument [a, b, c, d] 0 4) = a ++ b ++ c ++ d := by
      rw [show argument [a, b, c, d] 0 4 = numberOf [a, b, c, d] from rfl, numberOf_four]
      exact (BitVec.ofNat_toNat 32 (a ++ b ++ c ++ d)).trans (BitVec.setWidth_eq _)
    exact congrArg Host.Outcome.next (takeRequest_eq h rfl rfl (by rw [bytes]; rfl))
  · rw [← State.timeFields_eq]
    exact congrArg Host.Outcome.next (takeRequest_eq h rfl rfl rfl)

/-! ### Classification (R7) -/

/-- A cycle with a double step is COINCIDENT; another is classified by its path alone (R7). -/
theorem classify_double (path : List Pair) : classify path true = .coincident := rfl

/-- Settles O26: the table of R7, row by row; the five paths it names are different lists. -/
theorem cyclesAreClassifiedByPath : Obligations.CyclesAreClassifiedByPath := by
  intro path double memory
  refine ⟨?_, ?_, ?_, ?_, ?_, rfl, rfl, rfl, rfl, rfl, rfl, ?_, fun counted => ⟨rfl, rfl, rfl, rfl⟩⟩
  case refine_6 => cases classify path double <;> decide
  all_goals
    cases double
    · unfold classify
      simp only [Bool.false_eq_true, if_false]
      split_ifs with forward reverse missingB missingA <;> simp_all
    · simp [classify_double]

/-! ### An integrity block's end (R12, R13) -/

/-- Settles O30: the event ends the block with the errors counted and its own. -/
theorem integrityBlockEndJudgesTheBlock : Obligations.IntegrityBlockEndJudgesTheBlock := by
  intro r isError s c degraded enabled full
  have errors : isError.toNat = if isError then 1 else 0 := by cases isError <;> rfl
  simp only [exec, execIntegrityBlockEnd]
  rw [if_pos ⟨enabled, full⟩]
  simp only [State.endBlock, Channel.endBlock, errors]
  rfl

/-! ### Run settings (R14, R19, R20) -/

theorem State.enableRun_of_enabled {s : State} {r : Run} (h : (s.channels.get r).runState ≠ .offline) :
    s.enableRun r = (s, .okWith []) := by
  simp [State.enableRun, h]

theorem State.enableRun_of_unset {s : State} {r : Run} (h : (s.channels.get r).runState = .offline)
    (hk : (s.totalizers.get r).kx = 0) : s.enableRun r = (s, .refuse .wrongState) := by
  simp [State.enableRun, h, hk, refused]

theorem State.setChannel_setChannel (s : State) (r : Run) (x y : Channel) :
    (s.setChannel r x).setChannel r y = s.setChannel r y := by simp [State.setChannel]

/-- An enable sets the channel up and raises RUN_STATE; no session holds an OFFLINE run as FLOWING (R20). -/
theorem State.enableRun_of_set {s : State} {r : Run} (h : (s.channels.get r).runState = .offline)
    (hk : (s.totalizers.get r).kx ≠ 0) : s.enableRun r =
      (State.raise .runState (s.setChannel r { (s.channels.get r).enabled with runState := .standby }), .okWith []) := by
  have off : (s.channels.get r).enabled.runState = .offline := h
  simp [State.enableRun, State.setRunState, State.setChannel_setChannel, h, hk, off]

theorem State.runEnable_on (s : State) (r : Run) :
    s.runEnable (argument [runByte r, 1] 0 1) (argument [runByte r, 1] 1 1) = s.enableRun r := by
  rw [argument_first, show argument [runByte r, 1] 1 1 = 1 from rfl]
  simp [State.runEnable, runOfNumber_runByte]

/-- Settles O36: each request passes the checks of R169, and its own rule decides. -/
theorem runSettingsAndEnable : Obligations.RunSettingsAndEnable := by
  intro r s h c
  have enable {t : State} {a : Answer} (e : s.enableRun r = (t, a)) :
      exec (.runEnable .sup [runByte r, 1]) s = .next (t.respond .sup 0x18 a) :=
    congrArg Host.Outcome.next (takeRequest_eq h rfl rfl ((s.runEnable_on r).trans e))
  refine ⟨fun hi lo => ⟨?_, ?_⟩, fun off unset => enable (State.enableRun_of_unset off unset),
    fun off set => enable (State.enableRun_of_set off set), fun on => enable (State.enableRun_of_enabled on),
    fun on high => ?_⟩
  · refine congrArg Host.Outcome.next (takeRequest_eq h rfl rfl ?_)
    simp only [State.setCutoff, argument_first, runOfNumber_runByte]
    rw [clamp_eq _ (by decide), show argument [runByte r, hi, lo] 1 2 = numberOf [hi, lo] from rfl, numberOf_two]
    rfl
  · refine congrArg Host.Outcome.next (takeRequest_eq h rfl rfl ?_)
    simp only [State.setIntegrityLimit, argument_first, runOfNumber_runByte]
    rw [clamp_eq _ (by decide), show argument [runByte r, hi, lo] 1 2 = numberOf [hi, lo] from rfl, numberOf_two,
      Nat.zero_max]
    rfl
  · refine congrArg Host.Outcome.next (takeRequest_eq h rfl rfl ?_)
    rw [show argument [runByte r, on] 1 1 = on.toNat from numberOf_one on]
    obtain ⟨k, hk⟩ := Nat.exists_eq_add_of_lt high
    simp only [State.runEnable, argument_first, runOfNumber_runByte, hk, show 1 + k + 1 = k + 2 by omega]
    rfl

/-- Settles O38: each request passes the checks of R169, and its own rule finds no run of the number. -/
theorem runNumbersOutsideOneToFourAreRefused : Obligations.RunNumbersOutsideOneToFourAreRefused := by
  intro n x y z a b p s h outside
  have none := runOfNumber_eq_none outside
  have refuses {p : Port} {row : CatalogueRow} {args : List Byte} {body : State → State × Answer}
      (h2 : row.ports.has p = true) (h3 : row.length = some args.length) (hb : body s = refused .badArgument s) :
      Host.Outcome.next (φ := Fault) (ρ := Refusal) (takeRequest p row args body s) =
        .next (s.respond p row.code ⟨.badArgument, []⟩) := congrArg _ (takeRequest_eq h h2 h3 hb)
  refine ⟨refuses rfl rfl ?_, refuses rfl rfl ?_, refuses rfl rfl ?_, refuses rfl rfl ?_, refuses rfl rfl ?_,
    refuses rfl rfl ?_, refuses rfl rfl ?_, refuses rfl rfl ?_, refuses rfl rfl ?_⟩
  · simp only [State.setCutoff, argument_first, none]
  · simp only [State.setIntegrityLimit, argument_first, none]
  · simp only [State.runEnable, argument_first, none]
  · simp only [State.runEnable, none]
  · simp only [State.readTotals, argument_first, none]
  · simp only [State.readRun, argument_first, none]
  · simp only [State.readCurve, argument_first, none]
  · simp only [State.proveStart, argument_first, none]
  · simp only [State.provePost, argument_first, none]

end Sys2Proof.Machine
end

section
/-! PROOFS. Edge events: the walk of the line pair, and what a cycle that ends is counted as (R5 to R13, R22, R23). -/

namespace Sys2Proof.Machine

section
variable {s : State} {r : Run}

/-! ### The pins (R5; log entry 6) -/

/-- An edge event moves its own run's pins alone. -/
theorem Lines.setPulses_other (l : Lines) (was now : Pair) {q : Run} (h : q ≠ r) :
    (l.setPulses r was now).plsA.get q = l.plsA.get q ∧ (l.setPulses r was now).plsB.get q = l.plsB.get q := by
  simp [Lines.setPulses, h]

/-- A line that the report leaves at its level, or that was last observed at the new one, stays as it was observed (R5). -/
theorem Line.report_kept {l : Line} {was now : Bool} (settled : l.settled = true) (h : now = was ∨ l.seen = some now) :
    l.report was now = l := if_pos ⟨settled, h⟩

theorem Lines.setPulses_kept (l : Lines) (was now : Pair) :
    ((l.plsA.get r).settled = true → now.a = was.a ∨ (l.plsA.get r).seen = some now.a →
      (l.setPulses r was now).plsA.get r = l.plsA.get r) ∧
    ((l.plsB.get r).settled = true → now.b = was.b ∨ (l.plsB.get r).seen = some now.b →
      (l.setPulses r was now).plsB.get r = l.plsB.get r) :=
  ⟨fun settled h => (PerRun.get_set_self ..).trans (Line.report_kept settled h),
    fun settled h => (PerRun.get_set_self ..).trans (Line.report_kept settled h)⟩

/-! ### The walk (R5, R6) -/

/-- The state after an edge event's pair and tracking are taken, before a cycle is counted (R5). -/
def State.walked (s : State) (r : Run) (new : Pair) (tracking : Tracking) : State :=
  (s.setLines (s.lines.setPulses r (s.channels.get r).pair new)).setChannel r
    { s.channels.get r with pair := new, tracking := tracking }

/-- An edge event that ends no cycle takes the pair and moves the walk on (R5, R6). -/
theorem execEdgeEvent_walk {a b : Bool} {tick : Tick} {x : Tracking} (h : (⟨a, b⟩ : Pair) ≠ (s.channels.get r).pair)
    (hx : (s.channels.get r).tracking.edge ⟨a, b⟩
      ((a != (s.channels.get r).pair.a) && (b != (s.channels.get r).pair.b)) tick = (x, none)) :
    execEdgeEvent r a b tick s = .next (s.walked r ⟨a, b⟩ x) := by
  simp only [execEdgeEvent, if_neg h, hx]
  rfl

/-- Settles O27: each place of the walk has its own next place (`Tracking.edge`), and the pins follow the report. -/
theorem edgeEventsWalkTheLinePair : Obligations.EdgeEventsWalkTheLinePair := by
  intro r a b tick s c new double walk moves
  have walks {x : Tracking} (hx : c.tracking.edge new double tick = (x, none)) : walk x := by
    refine ⟨_, execEdgeEvent_walk moves hx, rfl, fun q hq => Lines.setPulses_other _ _ _ hq, ?_, ?_⟩
    · exact (s.lines.setPulses_kept c.pair new).1
    · exact (s.lines.setPulses_kept c.pair new).2
  refine ⟨fun outside away => walks ?_, fun stamp path d cycle away => walks ?_, fun waits => walks ?_⟩
  · simp only [outside, Tracking.edge, if_neg away]
  · simp only [cycle, Tracking.edge, if_neg away]
  · simp only [waits, Tracking.edge]

/-! ### A cycle counted while the run is enabled (R8, R9, R12, R13) -/

/-- The block after one more cycle, field by field (R12). -/
theorem Channel.advance_eq (c : Channel) (isError : Bool) : c.advance isError = { c with
    degraded := if 1000 ≤ c.blockCycles + 1 then decide (c.limit < c.blockErrors + isError.toNat) else c.degraded
    blockCycles := if 1000 ≤ c.blockCycles + 1 then 0 else c.blockCycles + 1
    blockErrors := if 1000 ≤ c.blockCycles + 1 then 0 else c.blockErrors + isError.toNat } := by
  unfold Channel.advance
  split <;> rfl

/-- The block moves on, and INTEGRITY is raised if the status changes (R12). -/
theorem State.advanceBlock_eq (s : State) (r : Run) (isError : Bool) :
    s.advanceBlock r isError =
      State.raiseIf (((s.channels.get r).advance isError).degraded != (s.channels.get r).degraded) .integrity
        (s.setChannel r ((s.channels.get r).advance isError)) := by
  unfold State.advanceBlock Channel.advance
  dsimp only
  split
  · rfl
  · simp only [bne_self_eq_false]; rfl

/-- A cycle of a run that no session holds is nothing to the prover (R11). -/
theorem State.proverCycle_of_free (h : s.prover.session.holds r = false) (cls : CycleClass) (d : Option Direction)
    (stamp : Tick) : s.proverCycle r cls d stamp = s := by
  simp [State.proverCycle, h]

/-- The first reverse pulse of a window (R9). -/
theorem cycleCounts_reverse (cls : CycleClass) (counted : Option Direction) :
    decide (0 < (cycleCounts cls counted).faults.reverse) = (counted == some .reverse) := by
  simp only [cycleCounts, cycleFaults]
  split
  · rename_i h; subst h; rfl
  · rename_i h; simpa using h

/-- A cycle of an enabled run that no session holds: the channel counts it, REVERSE and INTEGRITY are raised as due. -/
theorem State.countCycle_enabled (on : s.enabled r) (free : s.prover.session.holds r = false) (cls : CycleClass)
    (stamp : Tick) :
    let c := s.channels.get r
    let d := c.afterCycle false cls
    s.countCycle r cls stamp = State.raiseIf (d.degraded != c.degraded) .integrity
      (State.raiseIf (countedDirection cls c.direction == some .reverse && c.window.faults.reverse == 0) .reverse
        (s.setChannel r d)) := by
  intro c d
  obtain ⟨ready, enabled⟩ := on
  have held (u : State) (hu : u.prover = s.prover) : u.prover.session.holds r = false := by rw [hu]; exact free
  unfold State.countCycle
  simp only [ready, enabled, if_false, Bool.false_eq_true]
  rw [State.proverCycle_of_free (held _ (by simp)), State.advanceBlock_eq, State.raiseIf_setChannel, cycleCounts_reverse]
  simp only [State.raiseIf_channels, State.setChannel_channels, PerRun.get_set_self, State.setChannel_setChannel]
  simp only [d, c, Channel.afterCycle, enabled, if_false, Bool.false_eq_true]
  rfl

/-- The channel of an enabled run after a cycle (R8, R9, R12). -/
theorem Channel.afterCycle_enabled {c : Channel} (on : c.runState ≠ .offline) (cls : CycleClass) :
    let counted := countedDirection cls c.direction
    let ends := 1000 ≤ c.blockCycles + 1
    let errors := c.blockErrors + cls.isError.toNat
    c.afterCycle false cls = { c with
      direction := nextDirection cls c.direction
      window := c.window.add (cycleCounts cls counted)
      cumulative := c.cumulative.satAdd max32 (cycleFaults cls counted)
      degraded := if ends then decide (c.limit < errors) else c.degraded
      blockCycles := if ends then 0 else c.blockCycles + 1
      blockErrors := if ends then 0 else errors } := by
  simp only [Channel.afterCycle, Bool.false_eq_true, if_false, on, Channel.advance_eq]
  rfl

theorem Bool.toNat_eq_ite (b : Bool) : b.toNat = if b then 1 else 0 := by cases b <;> rfl

/-- Settles O28: the walk returns to 00, and the enabled run counts the cycle. -/
theorem enabledRunsCountCycles : Obligations.EnabledRunsCountCycles := by
  intro r tick stamp path d s c cls counted cycles errors reverse ends degraded on free away cycle
  have channel := Channel.afterCycle_enabled (c := { c with pair := .zero, tracking := .outside }) on.2 cls
  rw [Bool.toNat_eq_ite] at channel
  have counts := State.countCycle_enabled (s := s.walked r .zero .outside) (r := r)
    ⟨on.1, by simpa [State.walked] using on.2⟩ free cls stamp
  have taken : (s.walked r .zero .outside).channels.get r = { c with pair := .zero, tracking := .outside } := by
    simp [State.walked, c]
  refine ⟨_, execEdgeEvent_return r tick stamp path d s away cycle, ?_, fun q hq => ?_⟩
  · rw [State.countCycle_lines]
    refine counts.trans ?_
    rw [taken, channel]
    have backward : (reverse = true) = (counted = some .reverse) := by simp [reverse]
    simp only [degraded, ends, errors, cycles, decide_eq_true_eq, backward, State.walked, State.setChannel_setChannel]
    rfl
  · rw [State.countCycle_lines]; exact Lines.setPulses_other _ _ _ hq

/-! ### Cycles and windows apart: OFFLINE and RESTORING (R15, R22, R23) -/

/-- A cycle of an OFFLINE run goes to the offline-pulse counter, and the first one raises OFFLINE_PULSES (R22). -/
theorem State.countCycle_offline (ready : s.isRestoring = false) (off : (s.channels.get r).runState = .offline)
    (cls : CycleClass) (stamp : Tick) :
    let c := s.channels.get r
    let forward := countedDirection cls c.direction == some .forward
    s.countCycle r cls stamp = State.raiseIf (forward && !c.offlineSeen) .offlinePulses (s.setChannel r { c with
      direction := nextDirection cls c.direction
      offlinePulses := min (c.offlinePulses + (if forward then 1 else 0)) 4294967295
      offlineSeen := c.offlineSeen || forward }) := by
  intro c forward
  have pulses : (cycleCounts cls (countedDirection cls c.direction)).pulses = if forward then 1 else 0 := by
    simp [cycleCounts, forward]
  have some_pulse : decide (0 < (if forward then 1 else 0)) = forward := by cases forward <;> rfl
  unfold State.countCycle
  dsimp only
  rw [if_neg (by simp [ready]), if_pos off, pulses, some_pulse]
  simp only [Channel.countOffline, some_pulse]
  rfl

/-- During RESTORING a cycle is held in its channel (R23). -/
theorem State.countCycle_restoring (restoring : s.isRestoring = true) (cls : CycleClass) (stamp : Tick) :
    let c := s.channels.get r
    s.countCycle r cls stamp = s.setChannel r
      (Channel.holdCycle { c with direction := nextDirection cls c.direction }
        (cycleCounts cls (countedDirection cls c.direction))) := by
  intro c
  unfold State.countCycle
  simp only [restoring, if_true]
  rfl

/-- A history that took a count is not empty, and f is its mean rate (R15). -/
theorem estimateFreq_pushHistory (h : List Nat) (n : Nat) :
    estimateFreq (pushHistory h n) = roundDiv ((pushHistory h n).sum * 10) (pushHistory h n).length := by
  have filled : pushHistory h n ≠ [] := by
    intro none
    have := congrArg List.length none
    simp [pushHistory] at this
    omega
  rw [estimateFreq, if_neg filled]

theorem execWindowExpiry_offline (ready : s.isRestoring = false) (off : (s.channels.get r).runState = .offline) :
    execWindowExpiry r s = .next (s.setChannel r
      { s.channels.get r with deadline := (s.channels.get r).deadline + 1000000 }) := by
  simp only [execWindowExpiry, ready, off, Bool.false_eq_true, if_false, if_true]

theorem execWindowExpiry_restoring (restoring : s.isRestoring = true) :
    execWindowExpiry r s = .next (s.setChannel r
      (Channel.carryWindow { s.channels.get r with deadline := (s.channels.get r).deadline + 1000000 })) := by
  simp only [execWindowExpiry, restoring, if_true]

/-- Settles O29: the cycle that ends and the window that expires, each under OFFLINE and under RESTORING. -/
theorem offlineAndRestoringRunsCountApart : Obligations.OfflineAndRestoringRunsCountApart := by
  refine ⟨?_, fun r s => ⟨execWindowExpiry_offline, fun restoring => ?_⟩⟩
  · intro r tick stamp path d s c cls counted forward c1 away cycle
    have taken : (s.walked r .zero .outside).channels.get r = { c with pair := .zero, tracking := .outside } := by
      simp [State.walked, c]
    have backward : (forward = true) = (counted = some .forward) := by simp [forward]
    refine ⟨_, execEdgeEvent_return r tick stamp path d s away cycle, fun ready off => ?_, fun q hq => ?_,
      fun restoring => ?_⟩
    · rw [State.countCycle_lines]
      refine (State.countCycle_offline (s := s.walked r .zero .outside) ready (by rw [taken]; exact off) cls stamp).trans ?_
      rw [taken]
      simp only [State.walked, State.setChannel_setChannel]
      rfl
    · rw [State.countCycle_lines]; exact Lines.setPulses_other _ _ _ hq
    · rw [State.countCycle_lines]
      refine (State.countCycle_restoring (s := s.walked r .zero .outside) restoring cls stamp).trans ?_
      rw [taken]
      simp only [State.walked, State.setChannel_setChannel, backward]
      rfl
  · refine (execWindowExpiry_restoring restoring).trans ?_
    have freq : closingFreq s r = estimateFreq (pushHistory (s.channels.get r).history (s.channels.get r).window.pulses) :=
      (estimateFreq_pushHistory _ _).symm
    simp only [freq]
    rfl

end

end Sys2Proof.Machine
end

section
/-! PROOFS. Which event classes an operation may raise, and that no flag is taken back (R177); what a window's hand-off leaves in
the totalizers (R25 to R33); and the two completions of an enabled run's window: the close at its expiry (R15 to R18). -/

namespace Sys2Proof.Machine

/-! ### What an operation raises (R177) -/

/-- Every port's entries of the classes outside `classes` are as they were, and no flag of any class was taken back. -/
structure State.Raises (classes : List EventClass) (s t : State) : Prop where
  others : ∀ p c, c ∉ classes → (t.ports.get p).events.get c = (s.ports.get p).events.get c
  flags  : ∀ p c, ((s.ports.get p).events.get c).flag = true → ((t.ports.get p).events.get c).flag = true

/-- What a window computation and what follows it may raise. -/
def windowClasses : List EventClass :=
  [.curveRange, .sampler, .preTarget, .batchClosed, .batchOpened, .retention, .recordLost]

section
variable {C : List EventClass} {s t u : State}

theorem State.Raises.of_events (h : ∀ p, (t.ports.get p).events = (s.ports.get p).events) : s.Raises C t :=
  ⟨fun p _ _ => by rw [h p], fun p _ k => by rw [h p]; exact k⟩

theorem State.Raises.of_ports (h : t.ports = s.ports) : s.Raises C t := .of_events fun p => by rw [h]

theorem State.Raises.refl (s : State) : s.Raises C s := .of_ports rfl

theorem State.Raises.trans (h : s.Raises C t) (k : t.Raises C u) : s.Raises C u :=
  ⟨fun p c hc => (k.others p c hc).trans (h.others p c hc), fun p c hc => k.flags p c (h.flags p c hc)⟩

/-- An operation's effect on the ports does not depend on what else the state before it holds. -/
theorem State.Raises.from_ports (h : s.Raises C t) (e : s.ports = u.ports) : u.Raises C t :=
  State.Raises.trans (.of_ports e) h

theorem State.Raises.to_ports (h : s.Raises C t) (e : u.ports = t.ports) : s.Raises C u :=
  h.trans (.of_ports e)

theorem State.raises_raise {c : EventClass} (hc : c ∈ C) (s : State) : s.Raises C (s.raise c) where
  others p d hd := by
    have ne : d ≠ c := by rintro rfl; exact hd hc
    rw [State.raise_get, PortState.occur_get_ne _ ne]
  flags p d hd := by rw [State.raise_get]; exact PortState.occur_flag _ _ _ hd

theorem State.raises_raiseIf {c : EventClass} (hc : c ∈ C) (b : Bool) (s : State) : s.Raises C (s.raiseIf b c) := by
  cases b
  · exact .refl s
  · exact s.raises_raise hc

theorem State.raises_raiseFor {c : EventClass} (hc : c ∈ C) (p : Port) (s : State) : s.Raises C (s.raiseFor p c) where
  others q d hd := by
    have ne : d ≠ c := by rintro rfl; exact hd hc
    simp only [State.raiseFor, State.setPort_ports, PerPort.get_set]
    split
    · rename_i e; rw [PortState.occur_get_ne _ ne, e]
    · rfl
  flags q d hd := by
    simp only [State.raiseFor, State.setPort_ports, PerPort.get_set]
    split
    · rename_i e; exact PortState.occur_flag _ _ _ (e ▸ hd)
    · exact hd

theorem State.raises_raiseRetention (hc : .retention ∈ C) (x : RetentionCause) (s : State) :
    s.Raises C (s.raiseRetention x) where
  others p d hd := by
    have ne : d ≠ .retention := by rintro rfl; exact hd hc
    rw [State.raiseRetention_get, PortState.occurRetention, PortState.occur_get_ne _ ne]
  flags p d hd := by
    rw [State.raiseRetention_get, PortState.occurRetention]
    exact PortState.occur_flag _ _ _ hd

theorem State.raises_raiseRetentionTimes (hc : .retention ∈ C) (x : RetentionCause) (n : Nat) (s : State) :
    s.Raises C (s.raiseRetentionTimes x n) := by
  induction n generalizing s with
  | zero => exact .refl s
  | succ n ih => exact (s.raises_raiseRetention hc x).trans (ih _)

/-! #### The write queue -/

theorem State.raises_beginJob (hc : .retention ∈ C) (s : State) : s.Raises C s.beginJob := by
  unfold State.beginJob
  dsimp only
  split
  case h_4 =>
    split
    · exact (State.raises_raiseRetentionTimes hc _ _ _).from_ports rfl
    · exact .of_ports rfl
  all_goals exact .of_ports rfl

theorem State.raises_joinQueue (hc : .retention ∈ C) (j : Job) (s : State) : s.Raises C (s.joinQueue j) := by
  unfold State.joinQueue
  dsimp only
  split
  · exact (State.raises_beginJob hc _).from_ports rfl
  · exact .of_ports rfl

theorem State.raises_requestRecord (hc : .retention ∈ C) (r : BatchRecord) (s : State) :
    s.Raises C (s.requestRecord r) := by
  unfold State.requestRecord
  split
  · exact s.raises_joinQueue hc _
  · exact (State.raises_raiseRetention hc _ _).from_ports rfl

theorem State.raises_requestCheckpoint (hc : .retention ∈ C) (s : State) : s.Raises C s.requestCheckpoint := by
  unfold State.requestCheckpoint
  split
  · exact .refl s
  · split
    · exact s.raises_joinQueue hc _
    · exact .of_ports rfl

/-! #### The ring, the batch and the sampler -/

theorem State.raises_appendRecord (hc : .recordLost ∈ C) (r : BatchRecord) (s : State) :
    s.Raises C (s.appendRecord r) := by
  have dropped (oldest : Nat) (u : State) (p : Port) : u.Raises C (State.dropFor oldest u p) := by
    unfold State.dropFor
    split
    · exact (State.raises_raiseFor hc p _).from_ports rfl
    · exact .refl u
  have full : s.Raises C s.dropOldest := by
    unfold State.dropOldest
    split
    · exact (((dropped _ _ _).trans (dropped _ _ _)).trans (dropped _ _ _)).from_ports rfl
    · exact .refl s
  exact full.to_ports rfl

theorem State.raises_closeBatch (cause : CloseCause) (overshoot : Nat) (b : OpenBatch) (s : State) :
    s.Raises windowClasses (s.closeBatch cause overshoot b) := by
  rw [State.closeBatch_eq]
  have appended : s.Raises windowClasses (s.afterAppend (s.assembleRecord b cause overshoot)) :=
    (s.raises_appendRecord (by decide) (s.assembleRecord b cause overshoot)).to_ports rfl
  exact ((appended.trans (State.raises_requestRecord (by decide) _ _)).trans
    (State.raises_requestCheckpoint (by decide) _)).trans (State.raises_raise (by decide) _)

theorem State.raises_openBatch (plan : Plan) (index remaining : Nat) (s : State) :
    s.Raises windowClasses (s.openBatch plan index remaining) :=
  (State.raises_raise (by decide) _).from_ports rfl

theorem State.raises_continueAfter (b : OpenBatch) (s : State) : s.Raises windowClasses (s.continueAfter b) := by
  unfold State.continueAfter
  split
  · exact .refl s
  · split
    · exact .refl s
    · split
      · exact .refl s
      · exact (State.raises_openBatch _ _ _ _).from_ports rfl
    · split
      · exact State.raises_openBatch _ _ _ s
      · exact .refl s

theorem State.raises_evaluateFull (s : State) : s.Raises windowClasses s.evaluateFull := by
  unfold State.evaluateFull
  dsimp only
  exact (State.raises_raiseIf (by decide) _ _).from_ports rfl

theorem State.raises_disposeGrab (s : State) : s.Raises windowClasses s.disposeGrab := by
  unfold State.disposeGrab
  dsimp only
  split
  · exact (State.raises_raise (by decide) _).from_ports rfl
  · split
    · exact (State.raises_raise (by decide) _).from_ports rfl
    · split
      · exact (State.raises_evaluateFull _).from_ports rfl
      · split
        · exact (State.raises_evaluateFull _).from_ports rfl
        · exact (State.raises_raise (by decide) _).from_ports rfl

theorem State.raises_dueGrabs (interval n : Nat) (s : State) : s.Raises windowClasses (s.dueGrabs interval n) := by
  induction n generalizing s with
  | zero => exact .refl s
  | succ n ih =>
    unfold State.dueGrabs
    split
    · refine State.Raises.trans ?_ (ih _)
      unfold State.dueGrab
      dsimp only
      split
      · exact (State.raises_disposeGrab _).from_ports rfl
      · exact .of_ports rfl
    · exact .refl s

theorem State.raises_sampleVolume (dG : Nat) (s : State) : s.Raises windowClasses (s.sampleVolume dG) := by
  unfold State.sampleVolume
  split
  · exact .refl s
  · split
    · exact (State.raises_dueGrabs _ _ _).from_ports rfl
    · exact .refl s

theorem State.raises_testTargets (b : OpenBatch) (s : State) : s.Raises windowClasses (s.testTargets b) := by
  have tested : s.Raises windowClasses (s.afterPreTarget b) := (State.raises_raiseIf (by decide) _ _).from_ports rfl
  obtain ⟨-, e⟩ | ⟨-, e⟩ := s.testTargets_cases b <;> rw [e]
  · exact (tested.trans (State.raises_closeBatch _ _ _ _)).trans (State.raises_continueAfter _ _)
  · exact tested

theorem State.raises_routeWindow (r : Run) (w : WindowFigures) (s : State) :
    s.Raises windowClasses (s.routeWindow r w) := by
  unfold State.routeWindow State.batchWindow
  split
  · rename_i b _
    have sampled : s.Raises windowClasses ((s.setBatch (some (b.addWindow r w))).sampleVolume w.gross) :=
      (State.raises_sampleVolume _ _).from_ports (State.setBatch_ports _ _)
    exact sampled.trans (State.raises_testTargets _ _)
  · exact .of_ports (by simp)

theorem State.raises_computeWindow (r : Run) (f : Nat) (w : WindowCounts) (s : State) :
    s.Raises windowClasses (s.computeWindow r f w) := by
  rw [State.computeWindow_eq]
  have totalled : s.Raises windowClasses (s.afterTotals r f w.pulses) :=
    (State.raises_raiseIf (by decide) _ _).from_ports (State.setTotalizer_ports _ _ _)
  exact totalled.trans (State.raises_routeWindow _ _ _)

/-- The hand-off raises CURVE_RANGE when the curve status changes (R28). -/
theorem State.computeWindow_curveRange {r : Run} {f : Nat} {s : State} (w : WindowCounts)
    (h : (lookupCurve (s.curves.get r) f).2 ≠ (s.totalizers.get r).curveStatus) (p : Port) :
    (((s.computeWindow r f w).ports.get p).events.get .curveRange).flag = true := by
  rw [State.computeWindow_eq]
  refine (State.raises_routeWindow _ _ _).flags p _ ?_
  simp [State.afterTotals, State.raiseIf, h]

/-! #### Sessions and run states -/

/-- An abort raises PROVING, and nothing else (R124). -/
theorem State.raises_abortSession (a : AbortReason) (s : State) : s.Raises [.proving] (s.abortSession a) := by
  have ended (u : State) : u.Raises [.proving] (u.endSession .resultAborted a 0 0) := by
    unfold State.endSession
    dsimp only
    split
    · exact (State.raises_raise (by decide) _).from_ports rfl
    · exact (State.raises_raise (by decide) _).from_ports (by simp)
  unfold State.abortSession
  dsimp only
  split
  · exact ended s
  iterate 2 exact (ended _).from_ports rfl
  · exact .refl s

/-- A change of run state raises RUN_STATE (R17). -/
theorem State.setRunState_flag {r : Run} {x : RunState} {s : State} (h : (s.channels.get r).runState ≠ x) (p : Port) :
    (((s.setRunState r x).ports.get p).events.get .runState).flag = true := by
  have raised : (((State.raise .runState (s.setChannel r { s.channels.get r with runState := x })).ports.get p).events.get
      .runState).flag = true := by simp
  obtain ⟨same, -⟩ | ⟨-, -, -, e⟩ | ⟨-, -, e⟩ := s.setRunState_cases r x
  · exact absurd same h
  · rw [e]; exact (State.raises_abortSession _ _).flags p _ raised
  · rw [e]; exact raised

theorem State.raises_setRunState (r : Run) (x : RunState) (s : State) :
    s.Raises [.runState, .proving] (s.setRunState r x) := by
  have raised := (State.raises_raise (C := [.runState, .proving]) (c := .runState) (by decide)
    (s.setChannel r { s.channels.get r with runState := x })).from_ports (u := s) rfl
  obtain ⟨-, e⟩ | ⟨-, -, -, e⟩ | ⟨-, -, e⟩ := s.setRunState_cases r x <;> rw [e]
  · exact .refl s
  · have aborted := State.raises_abortSession .runStopped
      (State.raise .runState (s.setChannel r { s.channels.get r with runState := x }))
    exact raised.trans ⟨fun p c hc => aborted.others p c (by simp_all), aborted.flags⟩
  · exact raised

end

end Sys2Proof.Machine
end

section
/-! PROOFS. The totalizer's side of a window close (R25 to R33), and what the close of an enabled run's window does to its channel
and to the session that holds the run (R15 to R18, R120 to R124). -/

namespace Sys2Proof.Machine

section
variable {s t : State} {r : Run}

/-! ### What a window close leaves -/

/-- The clocks, the curves, change control, the prover's choice of a free slot and the waiting commands are as they were. -/
structure State.SameSetting (s t : State) : Prop where
  tick        : t.tick = s.tick
  nextSecond  : t.nextSecond = s.nextSecond
  uptime      : t.uptime = s.uptime
  stationTime : t.stationTime = s.stationTime
  stationSet  : t.stationSet = s.stationSet
  curves      : t.curves = s.curves
  control     : t.control = s.control
  freeIndex   : t.freeIndex = s.freeIndex
  pending     : t.pending = s.pending

theorem State.SameSetting.trans {u : State} (h : s.SameSetting t) (k : t.SameSetting u) : s.SameSetting u :=
  ⟨k.tick.trans h.tick, k.nextSecond.trans h.nextSecond, k.uptime.trans h.uptime, k.stationTime.trans h.stationTime,
    k.stationSet.trans h.stationSet, k.curves.trans h.curves, k.control.trans h.control, k.freeIndex.trans h.freeIndex,
    k.pending.trans h.pending⟩

theorem State.SameSetting.frame (h : s.SameSetting t) :
    t = { s with
      lines := t.lines, channels := t.channels, totalizers := t.totalizers, queue := t.queue, batch := t.batch,
      batchSeq := t.batchSeq, history := t.history, prover := t.prover, sampler := t.sampler, ports := t.ports,
      store := t.store } := by
  obtain ⟨tick, nextSecond, uptime, stationTime, stationSet, curves, control, freeIndex, pending⟩ := h
  cases t
  simp only at tick nextSecond uptime stationTime stationSet curves control freeIndex pending
  subst tick nextSecond uptime stationTime stationSet curves control freeIndex pending
  rfl

theorem State.setRunState_sameSetting (r : Run) (x : RunState) (s : State) : s.SameSetting (s.setRunState r x) := by
  have control : (s.setRunState r x).control = s.control := by
    obtain ⟨-, e⟩ | ⟨-, -, -, e⟩ | ⟨-, -, e⟩ := s.setRunState_cases r x <;> rw [e] <;> simp
  exact ⟨by simp, by simp, by simp, by simp, by simp, by simp, control, by simp, by simp⟩

theorem State.computeWindow_sameSetting (r : Run) (f : Nat) (w : WindowCounts) (s : State) :
    s.SameSetting (s.computeWindow r f w) :=
  ⟨by simp, by simp, by simp, by simp, by simp, by simp, by simp, by simp, by simp⟩

theorem State.setChannel_sameSetting (r : Run) (c : Channel) (s : State) : s.SameSetting (s.setChannel r c) :=
  ⟨rfl, rfl, rfl, rfl, rfl, rfl, rfl, rfl, rfl⟩

/-! ### A hand-off leaves the totalizers but for their unbatched accumulators as the conversion left them -/

@[simp] theorem Totalizer.emptyUnbatched_emptyUnbatched (x : Totalizer) :
    x.emptyUnbatched.emptyUnbatched = x.emptyUnbatched := rfl

/-- Totalizers that agree but for their unbatched accumulators. -/
theorem Totalizer.eq_of_emptyUnbatched {x y : Totalizer} (h : x.emptyUnbatched = y.emptyUnbatched) :
    x = { y with unbatched := x.unbatched, unbatchedSaturated := x.unbatchedSaturated } := by
  cases x; cases y
  simp only [Totalizer.emptyUnbatched, Totalizer.mk.injEq] at h ⊢
  simp [h]

@[simp] theorem State.openBatch_emptyUnbatched (s : State) (plan : Plan) (index remaining : Nat) (q : Run) :
    ((s.openBatch plan index remaining).totalizers.get q).emptyUnbatched = (s.totalizers.get q).emptyUnbatched := by
  simp [State.openBatch]

@[simp] theorem State.continueAfter_emptyUnbatched (s : State) (b : OpenBatch) (q : Run) :
    ((s.continueAfter b).totalizers.get q).emptyUnbatched = (s.totalizers.get q).emptyUnbatched := by
  unfold State.continueAfter
  split
  · rfl
  · split
    · rfl
    · split
      · rfl
      · exact State.openBatch_emptyUnbatched ..
    · split
      · exact State.openBatch_emptyUnbatched ..
      · rfl

@[simp] theorem State.testTargets_emptyUnbatched (s : State) (b : OpenBatch) (q : Run) :
    ((s.testTargets b).totalizers.get q).emptyUnbatched = (s.totalizers.get q).emptyUnbatched := by
  obtain ⟨-, e⟩ | ⟨-, e⟩ := s.testTargets_cases b <;> rw [e] <;> simp [State.afterPreTarget]

@[simp] theorem State.routeWindow_emptyUnbatched (s : State) (w : WindowFigures) (q : Run) :
    ((s.routeWindow r w).totalizers.get q).emptyUnbatched = (s.totalizers.get q).emptyUnbatched := by
  unfold State.routeWindow State.batchWindow
  split
  · simp
  · simp only [State.unbatchedWindow, State.setTotalizer_totalizers, PerRun.get_set]
    split
    · rename_i e; subst e; rfl
    · rfl

theorem State.computeWindow_emptyUnbatched (s : State) (f : Nat) (w : WindowCounts) (q : Run) :
    ((s.computeWindow r f w).totalizers.get q).emptyUnbatched =
      ((s.totalizers.set r ((s.totalizers.get r).handed (lookupCurve (s.curves.get r) f).1
        (lookupCurve (s.curves.get r) f).2 w.pulses)).get q).emptyUnbatched := by
  simp [State.computeWindow_eq, State.afterTotals]

/-- A window computation makes the hand-off's mark on the totalizers (R25 to R33). -/
theorem State.computeWindow_handOff (s : State) (r : Run) (f : Nat) (w : WindowCounts) :
    handOff s (s.computeWindow r f w) r f w.pulses := by
  have own := s.computeWindow_emptyUnbatched (r := r) f w r
  rw [PerRun.get_set_self, Totalizer.handed_eq] at own
  replace own := Totalizer.eq_of_emptyUnbatched own
  refine ⟨?_, ?_, ?_, ?_, ?_, ?_, ?_, ?_, fun q hq => ?_⟩
  case refine_9 =>
    have other := Totalizer.eq_of_emptyUnbatched (s.computeWindow_emptyUnbatched (r := r) f w q)
    rwa [PerRun.get_set_ne _ _ hq] at other
  all_goals rw [own]
  all_goals rfl

/-- The mark of a hand-off is on the totalizers and the curves alone. -/
theorem handOff.congr {s' t' : State} {f n : Nat} (h : handOff s t r f n) (hs : s'.totalizers = s.totalizers)
    (hc : s'.curves = s.curves) (ht : t'.totalizers = t.totalizers) : handOff s' t' r f n := by
  unfold handOff
  rw [hs, hc, ht]
  exact h

/-! ### The close at an expiry (R15 to R18) -/

/-- The frequency that a close computes is the one of the history with N entered. -/
theorem closingFreq_eq (r : Run) (s : State) : closingFreq s r = (s.channels.get r).takeWindow.freq :=
  (estimateFreq_pushHistory _ _).symm

/-- The channel at the evaluation of its run state, with its next deadline (R2, R15 steps 1 to 4). -/
def Channel.closed (c : Channel) (deadline : Tick) : Channel :=
  { c.takeWindow with deadline := deadline, overspeed := decide (25000 < c.takeWindow.freq) }

/-- The run state that a close of the run's window gives (R17). -/
def closingState (s : State) (r : Run) : RunState :=
  if closingFreq s r < (s.channels.get r).cutoff then .standby else .flowing

/-- The state between the evaluation of the run state and the hand-off, with the run's next deadline (R2, R15). -/
def State.evaluatedRun (r : Run) (deadline : Tick) (s : State) : State :=
  (s.setChannel r ((s.channels.get r).closed deadline)).setRunState r (closingState s r)

section
variable (s r) (x : Tick)

@[simp] theorem State.evaluatedRun_totalizers : (s.evaluatedRun r x).totalizers = s.totalizers := by
  simp [State.evaluatedRun]

@[simp] theorem State.evaluatedRun_curves : (s.evaluatedRun r x).curves = s.curves := by simp [State.evaluatedRun]

theorem State.evaluatedRun_channels :
    (s.evaluatedRun r x).channels = s.channels.set r { s.channels.get r with
      deadline := x
      history := pushHistory (s.channels.get r).history (s.channels.get r).window.pulses
      freq := closingFreq s r
      window := .zero
      carried := .zero
      overspeed := decide (25000 < closingFreq s r)
      runState := closingState s r } := by
  simp only [State.evaluatedRun, State.setRunState_channels, State.setChannel_channels, PerRun.get_set_self,
    PerRun.set_set, closingFreq_eq]
  rfl

/-- RUN_STATE is raised exactly on a change of run state (R17). -/
theorem State.evaluatedRun_runState (p : Port) :
    (closingState s r ≠ (s.channels.get r).runState →
      (((s.evaluatedRun r x).ports.get p).events.get .runState).flag = true) ∧
    (closingState s r = (s.channels.get r).runState → (s.evaluatedRun r x).ports = s.ports) := by
  have unset : ((s.setChannel r ((s.channels.get r).closed x)).channels.get r).runState = (s.channels.get r).runState := by
    rw [State.setChannel_channels, PerRun.get_set_self]
    rfl
  refine ⟨fun changed => State.setRunState_flag (unset ▸ changed.symm) p, fun same => ?_⟩
  rw [State.evaluatedRun, State.setRunState, if_pos (unset.trans same.symm), State.setChannel_ports]

end

/-- A close of an enabled run's window evaluates the run state, then hands over (R15). -/
theorem execWindowExpiry_enabled (ready : s.isRestoring = false) (on : (s.channels.get r).runState ≠ .offline) :
    execWindowExpiry r s = .next ((s.evaluatedRun r ((s.channels.get r).deadline + 1000000)).computeWindow r
      (closingFreq s r) (s.channels.get r).handedWindow) := by
  have closes (x : Tick) : (s.setChannel r { s.channels.get r with deadline := x }).closeWindow r =
      (s.evaluatedRun r x).computeWindow r (closingFreq s r) (s.channels.get r).handedWindow := by
    simp only [State.closeWindow, State.setChannel_channels, PerRun.get_set_self, State.setChannel_setChannel,
      State.evaluatedRun, closingState, closingFreq_eq]
    rfl
  have restart : ¬ s.isRestoring = true := by simp [ready]
  simp only [execWindowExpiry]
  rw [if_neg restart, if_neg on, closes]

/-- Settles O31: the close is the channel's own update, the run state's evaluation and the window computation, each with its
mark on what it changes. -/
theorem windowCloseOfEnabledRun : Obligations.WindowCloseOfEnabledRun := by
  intro r s c f state enabled _
  obtain ⟨ready, on⟩ := enabled
  refine ⟨_, execWindowExpiry_enabled ready on, ?_⟩
  generalize c.deadline + 1000000 = x
  have raised := State.raises_computeWindow r f c.handedWindow (s.evaluatedRun r x)
  obtain evaluated := s.evaluatedRun_runState r x
  refine ⟨(State.computeWindow_channels ..).trans (s.evaluatedRun_channels r x), ?_, fun changed p => ?_,
    fun same p => ?_, fun moved p => ?_, ?_⟩
  · exact (State.computeWindow_handOff _ r f c.handedWindow).congr (s.evaluatedRun_totalizers r x).symm
      (s.evaluatedRun_curves r x).symm rfl
  · exact raised.flags p _ ((evaluated p).1 changed)
  · rw [raised.others p _ (by decide), (evaluated p).2 same]
  · refine State.computeWindow_curveRange _ ?_ p
    rw [s.evaluatedRun_totalizers, s.evaluatedRun_curves]
    exact moved
  · have setting := ((s.setChannel_sameSetting r (c.closed x)).trans (State.setRunState_sameSetting r state _)).trans
      (State.computeWindow_sameSetting r f c.handedWindow _)
    have lines : ((s.evaluatedRun r x).computeWindow r f c.handedWindow).lines = s.lines := by simp [State.evaluatedRun]
    refine setting.frame.trans ?_
    rw [← lines]
    rfl

/-! ### The abort of the session that holds a run (R119 to R124) -/

/-- An active session once aborted: a pass in progress has joined the list as ABORTED (R123, R124). -/
def Session.aborted (x : Session) : Session :=
  if x.state = .waitDet1 then { x with state := .resultAborted }
  else { x with state := .resultAborted, passes := x.passes ++ [x.partialRecord .aborted], pass := .clear }

/-- The prover once the session that holds run `r` is aborted. -/
def State.proverAborted (s : State) (r : Run) (a : AbortReason) : Prover :=
  { s.prover with
    session := s.prover.session.aborted
    results := s.prover.results.set r (some (s.newResult .resultAborted a 0 0)) }

theorem State.endSession_aborted (a : AbortReason) (held : s.prover.session.run = some r) :
    (s.endSession .resultAborted a 0 0).prover = { s.prover with
      session := { s.prover.session with state := .resultAborted }
      results := s.prover.results.set r (some (s.newResult .resultAborted a 0 0)) } := by
  simp only [State.endSession, held]
  rfl

theorem State.abortSession_of_holds (a : AbortReason) (held : s.prover.session.holds r = true) :
    (s.abortSession a).prover = s.proverAborted r a := by
  obtain ⟨active, run⟩ : s.prover.session.state.isActive = true ∧ s.prover.session.run = some r := by
    simpa [Session.holds] using held
  have inPass (h : s.prover.session.state ≠ .waitDet1) : State.prover (State.endSession .resultAborted a 0 0
      (s.setSession { s.prover.session with
        passes := s.prover.session.passes ++ [s.prover.session.partialRecord .aborted], pass := .clear })) =
      s.proverAborted r a := by
    refine (State.endSession_aborted (r := r) a (by exact run)).trans ?_
    rw [State.proverAborted, Session.aborted, if_neg h]
    rfl
  unfold State.abortSession
  dsimp only
  cases e : s.prover.session.state <;> rw [e] at active
  case waitDet1 =>
    rw [State.endSession_aborted a run, State.proverAborted, Session.aborted, if_pos e]
  case inPass | waitStop => exact inPass (by simp [e])
  all_goals cases active

/-- What the abort leaves of the session's passes (R123, R124). -/
theorem Session.aborted_passes (x : Session) :
    (x.state = .waitDet1 → x.aborted.passes = x.passes) ∧
    (x.state ≠ .waitDet1 → x.aborted.passes = x.passes ++ [x.partialRecord .aborted]) := by
  unfold Session.aborted
  split <;> simp_all

@[simp] theorem Session.aborted_state (x : Session) : x.aborted.state = .resultAborted := by
  unfold Session.aborted; split <;> rfl

@[simp] theorem Session.aborted_taken (x : Session) : x.aborted.taken = x.taken := by
  unfold Session.aborted; split <;> rfl

/-- A FLOWING run that stops aborts the session that holds it (R17, R120). -/
theorem State.setRunState_of_holds {x : RunState} (flowing : (s.channels.get r).runState = .flowing) (hx : x ≠ .flowing)
    (held : s.prover.session.holds r = true) : (s.setRunState r x).prover = s.proverAborted r .runStopped := by
  obtain ⟨same, -⟩ | ⟨-, -, -, e⟩ | ⟨-, no, -⟩ := s.setRunState_cases r x
  · exact absurd (same.symm.trans flowing) hx
  · rw [e]
    exact State.abortSession_of_holds _ held
  · exact absurd ⟨flowing, held⟩ no

/-- A session that does not hold the run is left as it is. -/
theorem State.setRunState_of_free (x : RunState) (free : s.prover.session.holds r = false) :
    (s.setRunState r x).prover = s.prover := by
  obtain ⟨-, e⟩ | ⟨-, -, held, -⟩ | ⟨-, -, e⟩ := s.setRunState_cases r x
  · rw [e]
  · exact absurd (held.symm.trans free) (by decide)
  · rw [e]; rfl

/-- The state between the run state's evaluation and the hand-off, when FLOWING ends with a session that holds the run. -/
theorem State.evaluatedRun_prover (flowing : (s.channels.get r).runState = .flowing)
    (held : s.prover.session.holds r = true) (below : closingFreq s r < (s.channels.get r).cutoff) (x : Tick) :
    (s.evaluatedRun r x).prover = s.proverAborted r .runStopped := by
  have standby : closingState s r = .standby := if_pos below
  have kept : ((s.setChannel r ((s.channels.get r).closed x)).channels.get r).runState = .flowing := by
    rw [State.setChannel_channels, PerRun.get_set_self]; exact flowing
  rw [State.evaluatedRun, standby]
  exact State.setRunState_of_holds kept (by decide) held

/-- Settles O32: leaving FLOWING aborts the session, and the hand-off after it leaves the prover. -/
theorem sessionEndsWhenItsRunStops : Obligations.SessionEndsWhenItsRunStops := by
  intro r s ready flowing held below
  have on : (s.channels.get r).runState ≠ .offline := by rw [flowing]; decide
  refine ⟨_, s.newResult .resultAborted .runStopped 0 0, execWindowExpiry_enabled ready on, ?_⟩
  rw [State.computeWindow_prover, State.evaluatedRun_prover flowing held below]
  refine ⟨Session.aborted_state _, Session.aborted_taken _, (Session.aborted_passes _).1, fun h =>
    ⟨_, (Session.aborted_passes _).2 h, rfl, rfl, rfl, rfl, rfl, rfl, rfl⟩, PerRun.get_set_self .., rfl, rfl, rfl, rfl,
    rfl, fun q hq => PerRun.get_set_ne _ _ hq⟩

end

end Sys2Proof.Machine
end

section
/-! PROOFS. The final window of a run that is disabled (R21): where it goes (R36 to R41, R70 to R72), what a batch that it fills to
its target leaves in the ring (R76, R77), and what else the disable changes. -/

namespace Sys2Proof.Machine

section
variable {s t : State} {r : Run} {b : OpenBatch}

/-! ### The records of the ring (R79, R84, R85) -/

@[simp] theorem State.beginJob_records (s : State) : s.beginJob.history.records = s.history.records := by
  unfold State.beginJob
  dsimp only
  split
  case h_4 => split <;> simp
  all_goals simp

@[simp] theorem State.joinQueue_records (j : Job) (s : State) :
    (s.joinQueue j).history.records = s.history.records := by
  unfold State.joinQueue
  dsimp only
  split <;> simp

@[simp] theorem State.requestRecord_records (x : BatchRecord) (s : State) :
    (s.requestRecord x).history.records = s.history.records := by
  unfold State.requestRecord State.loseRecord
  split <;> simp

@[simp] theorem State.requestCheckpoint_records (s : State) :
    s.requestCheckpoint.history.records = s.history.records := by
  unfold State.requestCheckpoint
  split
  · rfl
  · split <;> simp

/-- A close leaves its record as the ring's newest (R79, R84). -/
theorem State.closeBatch_newest (cause : CloseCause) (overshoot : Nat) (b : OpenBatch) (s : State) :
    ∃ e, (s.closeBatch cause overshoot b).history.ring.getLast? = some e ∧
      e.record = s.assembleRecord b cause overshoot := by
  have newest : (s.closeBatch cause overshoot b).history.records.getLast? =
      some (s.assembleRecord b cause overshoot) := by
    rw [State.closeBatch_eq, State.raise_history, State.requestCheckpoint_records, State.requestRecord_records]
    simp [State.afterAppend, History.records, State.appendRecord_history_ring]
  rwa [History.records, List.getLast?_map, Option.map_eq_some_iff] at newest

/-! ### The figures of a closing window (R24, R30, R31, R38, R39) -/

/-- What a close of the run's window hands over. -/
def closingFigures (s : State) (r : Run) : WindowFigures :=
  s.handedFigures r (closingFreq s r) (s.channels.get r).handedWindow

theorem tookWindow_add (s : State) (r : Run) (x : Accumulators) :
    tookWindow s r x (x.add (closingFigures s r).accumulators) :=
  ⟨rfl, rfl, rfl, rfl, rfl, rfl, rfl, rfl⟩

theorem passes_iff_overflowsWindow (s : State) (r : Run) (x : Accumulators) :
    x.passes (closingFigures s r).accumulators = true ↔ overflowsWindow s r x := by
  simp only [Accumulators.passes, Triple.passes, FaultCounts.passes, Bool.or_eq_true, decide_eq_true_eq, or_assoc]
  rfl

/-- Whether the factor moved because the curve was changed (R39). -/
theorem Totalizer.factorMoved_iff (x : Totalizer) (mf : Nat) :
    x.factorMoved mf = true ↔ x.curveChanged = true ∧ ∃ m, x.lastMf = some m ∧ m ≠ mf := by
  cases h : x.lastMf <;> simp [Totalizer.factorMoved, h]

/-! ### A window routed to the open batch, or to the unbatched accumulators (R36) -/

theorem OpenBatch.markPreTarget_eq (b : OpenBatch) : b.markPreTarget = { b with
    flags := { b.flags with preTargetReached := b.flags.preTargetReached || b.meetsPreTarget } } := by
  unfold OpenBatch.markPreTarget
  split <;> simp_all

theorem closingFigures_outside (s : State) (r : Run) : (closingFigures s r).outsideGross =
    if (lookupCurve (s.curves.get r) (closingFreq s r)).2 = .inRange then 0 else closingGross s r := by
  have outside : (closingFigures s r).outside =
      ((lookupCurve (s.curves.get r) (closingFreq s r)).2 != .inRange) := rfl
  rw [WindowFigures.outsideGross, outside]
  by_cases inRange : (lookupCurve (s.curves.get r) (closingFreq s r)).2 = .inRange
  · rw [if_neg (by simp [inRange]), if_pos inRange]
  · rw [if_pos (by simp [inRange]), if_neg inRange]; rfl

theorem closingFigures_moved (s : State) (r : Run) : (closingFigures s r).moved = true ↔
    (s.totalizers.get r).curveChanged = true ∧ ∃ m, (s.totalizers.get r).lastMf = some m ∧
      m ≠ (lookupCurve (s.curves.get r) (closingFreq s r)).1 :=
  Totalizer.factorMoved_iff ..

/-- The open batch with the run's closing window added and its pre-target tested is what R37 to R41 and R70 say. -/
theorem wentIntoBatch_addWindow (s : State) (r : Run) (b : OpenBatch) :
    wentIntoBatch s r b (b.addWindow r (closingFigures s r)).markPreTarget := by
  rw [OpenBatch.markPreTarget_eq]
  have own : (b.addWindow r (closingFigures s r)).acc.get r = (b.acc.get r).add (closingFigures s r) :=
    PerRun.get_set_self ..
  simp only [wentIntoBatch, own, BatchAccumulators.add, closingFigures_outside]
  refine ⟨tookWindow_add s r _, rfl, ?_, fun q hq => PerRun.get_set_ne _ _ hq, rfl, ?_, rfl⟩
  · simp only [closingFigures_moved]
    rfl
  · simp only [OpenBatch.addWindow, BatchAccumulators.passes, Bool.or_eq_true, passes_iff_overflowsWindow,
      closingFigures_outside, decide_eq_true_eq]
    rfl

/-- The run's final window, handed over with its channel's window taken (R21 steps 1 and 2). -/
def State.finalWindow (r : Run) (s : State) : State :=
  (s.setChannel r (s.channels.get r).takeWindow).computeWindow r (closingFreq s r) (s.channels.get r).handedWindow

/-- The state in which the final window is routed: the channel's window is taken, and the totals are advanced. -/
def State.finalTotals (r : Run) (s : State) : State :=
  (s.setChannel r (s.channels.get r).takeWindow).afterTotals r (closingFreq s r) (closingPulses s r)

theorem State.finalWindow_eq (s : State) (r : Run) :
    s.finalWindow r = (s.finalTotals r).routeWindow r (closingFigures s r) := rfl

/-- The totalizer's own figures of the final window; its unbatched accumulators are as they were (R28 to R33). -/
theorem State.finalTotals_totalizers (s : State) (r : Run) :
    (s.finalTotals r).totalizers = s.totalizers.set r ((s.totalizers.get r).handed
      (lookupCurve (s.curves.get r) (closingFreq s r)).1 (lookupCurve (s.curves.get r) (closingFreq s r)).2
      (closingPulses s r)) := by
  simp [State.finalTotals, State.afterTotals]

theorem State.finalTotals_batch (s : State) (r : Run) : (s.finalTotals r).batch = s.batch := by
  simp [State.finalTotals, State.afterTotals]

@[simp] theorem Totalizer.handed_unbatched (x : Totalizer) (mf : Nat) (status : CurveStatus) (n : Nat) :
    (x.handed mf status n).unbatched = x.unbatched := by
  rw [Totalizer.handed_eq]

@[simp] theorem Totalizer.handed_unbatchedSaturated (x : Totalizer) (mf : Nat) (status : CurveStatus) (n : Nat) :
    (x.handed mf status n).unbatchedSaturated = x.unbatchedSaturated := by
  rw [Totalizer.handed_eq]

theorem State.finalTotals_unbatched (s : State) (r q : Run) :
    ((s.finalTotals r).totalizers.get q).unbatched = (s.totalizers.get q).unbatched := by
  rw [State.finalTotals_totalizers, PerRun.get_set]
  split
  · rename_i e; subst e; exact Totalizer.handed_unbatched ..
  · rfl

/-- A run that belongs to no open batch closes into its unbatched accumulators (R36, R40, R41). -/
theorem State.finalWindow_unbatched (free : ∀ b, s.batch = some b → inRunSet b.plan.runSet r = false) :
    wentUnbatched s (s.finalWindow r) r := by
  have none : (s.finalTotals r).batchOf r = none := by
    simpa [State.batchOf, State.finalTotals_batch] using free
  have routed : s.finalWindow r = State.unbatchedWindow r (closingFigures s r) (s.finalTotals r) := by
    rw [State.finalWindow_eq, State.routeWindow, none]
  have own : (s.finalWindow r).totalizers.get r = { (s.finalTotals r).totalizers.get r with
      unbatched := (s.totalizers.get r).unbatched.add (closingFigures s r).accumulators
      unbatchedSaturated := (s.totalizers.get r).unbatchedSaturated ||
        (s.totalizers.get r).unbatched.passes (closingFigures s r).accumulators } := by
    rw [routed, State.unbatchedWindow, State.setTotalizer_totalizers, PerRun.get_set_self, State.finalTotals_totalizers,
      PerRun.get_set_self, Totalizer.handed_unbatched, Totalizer.handed_unbatchedSaturated]
  refine ⟨?_, ?_, fun q hq => ?_, ?_⟩
  · rw [own]; exact tookWindow_add s r _
  · rw [own]; simp only [Bool.or_eq_true, passes_iff_overflowsWindow]
  · rw [routed, State.unbatchedWindow, State.setTotalizer_totalizers, PerRun.get_set_ne _ _ hq,
      State.finalTotals_totalizers, PerRun.get_set_ne _ _ hq]
  · rw [routed]
    refine ⟨?_, ?_, ?_, ?_, ?_, ?_⟩ <;> simp [State.unbatchedWindow, State.finalTotals, State.afterTotals]

/-- The open batch that a run belongs to, with the run's closing window and its pre-target test (R70 steps 1 and 3). -/
def OpenBatch.closing (b : OpenBatch) (s : State) (r : Run) : OpenBatch :=
  (b.addWindow r (closingFigures s r)).markPreTarget

/-- The state in which the target test of the final window is made (R70 step 4). -/
def State.finalTest (b : OpenBatch) (r : Run) (s : State) : State :=
  State.afterPreTarget (b.addWindow r (closingFigures s r))
    (((s.finalTotals r).setBatch (some (b.addWindow r (closingFigures s r)))).sampleVolume (closingGross s r))

theorem State.finalWindow_batched (opened : s.batch = some b) (member : inRunSet b.plan.runSet r = true) :
    ((b.closing s r).meetsTarget = true ∧ s.finalWindow r = ((s.finalTest b r).closeBatch .target
      ((b.closing s r).runningGross - (b.closing s r).plan.target) (b.closing s r)).continueAfter (b.closing s r)) ∨
    ((b.closing s r).meetsTarget = false ∧ s.finalWindow r = s.finalTest b r) := by
  have routed : (s.finalTotals r).batchOf r = some b := by
    simp [State.batchOf, State.finalTotals_batch, opened, member]
  have routes : s.finalWindow r = State.testTargets (b.addWindow r (closingFigures s r))
      (((s.finalTotals r).setBatch (some (b.addWindow r (closingFigures s r)))).sampleVolume (closingGross s r)) := by
    rw [State.finalWindow_eq, State.routeWindow, routed]
    rfl
  rw [routes]
  exact State.testTargets_cases ..

theorem OpenBatch.closing_meetsTarget (b : OpenBatch) (s : State) (r : Run) : (b.closing s r).meetsTarget = true ↔
    b.plan.target ≠ 0 ∧ b.plan.target ≤ b.runningGross + grossTaken s r b := by
  rw [OpenBatch.closing, OpenBatch.markPreTarget_eq, OpenBatch.meetsTarget, decide_eq_true_eq]
  rfl

@[simp] theorem State.finalTest_batch (s : State) (b : OpenBatch) (r : Run) :
    (s.finalTest b r).batch = some (b.closing s r) := by
  simp [State.finalTest, State.afterPreTarget, OpenBatch.closing]

@[simp] theorem State.finalTest_batchSeq (s : State) (b : OpenBatch) (r : Run) :
    (s.finalTest b r).batchSeq = s.batchSeq := by
  simp [State.finalTest, State.afterPreTarget, State.finalTotals, State.afterTotals]

@[simp] theorem State.finalTest_history (s : State) (b : OpenBatch) (r : Run) :
    (s.finalTest b r).history = s.history := by
  simp [State.finalTest, State.afterPreTarget, State.finalTotals, State.afterTotals]

@[simp] theorem State.finalTest_store (s : State) (b : OpenBatch) (r : Run) : (s.finalTest b r).store = s.store := by
  simp [State.finalTest, State.afterPreTarget, State.finalTotals, State.afterTotals]

@[simp] theorem State.finalTest_totalizers (s : State) (b : OpenBatch) (r : Run) :
    (s.finalTest b r).totalizers = (s.finalTotals r).totalizers := by
  simp [State.finalTest, State.afterPreTarget]

/-- Below the target the batch stays open with the window added (R70, R72). -/
theorem State.finalWindow_below (opened : s.batch = some b) (member : inRunSet b.plan.runSet r = true)
    (below : b.plan.target = 0 ∨ b.runningGross + grossTaken s r b < b.plan.target) :
    (s.finalWindow r).batch = some (b.closing s r) ∧ (s.finalWindow r).history = s.history ∧
      (s.finalWindow r).store = s.store ∧
      ∀ q, ((s.finalWindow r).totalizers.get q).unbatched = (s.totalizers.get q).unbatched := by
  obtain ⟨meets, -⟩ | ⟨-, e⟩ := State.finalWindow_batched opened member
  · obtain ⟨set, reached⟩ := (OpenBatch.closing_meetsTarget b s r).1 meets
    omega
  · rw [e]
    exact ⟨by simp, by simp, by simp, fun q => by rw [State.finalTest_totalizers, State.finalTotals_unbatched]⟩

/-- At the target the batch closes: its record is the ring's newest, and BATCH_CLOSED is raised (R72, R76, R77, R79). -/
theorem State.finalWindow_reached (opened : s.batch = some b) (member : inRunSet b.plan.runSet r = true)
    (set : b.plan.target ≠ 0) (reached : b.plan.target ≤ b.runningGross + grossTaken s r b) :
    (∃ e, (s.finalWindow r).history.ring.getLast? = some e ∧ e.record = (s.finalTest b r).assembleRecord
      (b.closing s r) .target ((b.closing s r).runningGross - (b.closing s r).plan.target)) ∧
    ∀ p, (((s.finalWindow r).ports.get p).events.get .batchClosed).flag = true := by
  obtain ⟨-, e⟩ | ⟨below, -⟩ := State.finalWindow_batched opened member
  · rw [e, State.continueAfter_history]
    refine ⟨State.closeBatch_newest .., fun p => (State.raises_continueAfter _ _).flags p _ ?_⟩
    simp [State.closeBatch_eq]
  · rw [(OpenBatch.closing_meetsTarget b s r).2 ⟨set, reached⟩] at below
    cases below

/-- The litres of the final window that the run's batch gross took are in the record (R41, R77). -/
theorem OpenBatch.closing_gross (b : OpenBatch) (s : State) (r : Run)
    (fits : (b.acc.get r).main.volume.gross ≤ 4294967295) :
    ((b.closing s r).acc.get r).main.volume.gross = (b.acc.get r).main.volume.gross + grossTaken s r b := by
  have sum : ((b.closing s r).acc.get r).main.volume.gross =
      min ((b.acc.get r).main.volume.gross + closingGross s r) 4294967295 := by
    rw [OpenBatch.closing, OpenBatch.markPreTarget_eq]
    simp only [OpenBatch.addWindow, PerRun.get_set_self]
    rfl
  rw [sum, grossTaken]
  omega

/-! ### The disable (R21) -/

/-- The state that a disable of an enabled run leaves (R21). -/
def State.disabledRun (r : Run) (s : State) : State :=
  let u := (s.finalWindow r).setRunState r .offline
  u.setChannel r (u.channels.get r).disabled

theorem State.disableRun_of_enabled (on : (s.channels.get r).runState ≠ .offline) :
    s.disableRun r = (s.disabledRun r, .okWith []) := by
  simp only [State.disableRun, if_neg on, ← closingFreq_eq]
  rfl

theorem State.disableRun_of_offline (off : (s.channels.get r).runState = .offline) :
    s.disableRun r = (s, .okWith []) := if_pos off

theorem execRunEnableOff_eq {a : Answer} (ready : s.isRestoring = false) (hb : s.disableRun r = (t, a)) :
    exec (.runEnableOff .sup (runByte r)) s = .next (t.respond .sup 0x18 a) := by
  refine congrArg Host.Outcome.next (takeRequest_eq ready rfl rfl ?_)
  simp only [State.runEnable, runOfNumber_runByte, hb]

@[simp] theorem State.finalWindow_channels (s : State) (r : Run) :
    (s.finalWindow r).channels = s.channels.set r (s.channels.get r).takeWindow := by
  simp [State.finalWindow]

@[simp] theorem State.finalWindow_prover (s : State) (r : Run) : (s.finalWindow r).prover = s.prover := by
  simp [State.finalWindow]

theorem State.finalWindow_handOff (s : State) (r : Run) :
    handOff s (s.finalWindow r) r (closingFreq s r) (closingPulses s r) :=
  (State.computeWindow_handOff (s.setChannel r (s.channels.get r).takeWindow) r (closingFreq s r)
    (s.channels.get r).handedWindow).congr rfl rfl rfl

theorem State.disabledRun_channels (s : State) (r : Run) :
    (s.disabledRun r).channels = s.channels.set r { s.channels.get r with
      window := .zero, carried := .zero, history := [], freq := 0, overspeed := false, offlineSeen := false,
      runState := .offline } := by
  simp only [State.disabledRun, State.setChannel_channels, State.setRunState_channels, State.finalWindow_channels,
    PerRun.get_set_self, PerRun.set_set]
  rfl

/-- What the disable leaves as the final window left it. -/
theorem State.disabledRun_after (s : State) (r : Run) :
    (s.disabledRun r).totalizers = (s.finalWindow r).totalizers ∧ (s.disabledRun r).batch = (s.finalWindow r).batch ∧
    (s.disabledRun r).batchSeq = (s.finalWindow r).batchSeq ∧ (s.disabledRun r).queue = (s.finalWindow r).queue ∧
    (s.disabledRun r).history = (s.finalWindow r).history ∧ (s.disabledRun r).sampler = (s.finalWindow r).sampler ∧
    (s.disabledRun r).store = (s.finalWindow r).store := by
  refine ⟨?_, ?_, ?_, ?_, ?_, ?_, ?_⟩ <;> simp [State.disabledRun]

theorem State.disabledRun_sameSetting (s : State) (r : Run) : s.SameSetting (s.disabledRun r) :=
  (((s.setChannel_sameSetting r _).trans (State.computeWindow_sameSetting r _ _ _)).trans
    (State.setRunState_sameSetting r .offline _)).trans (State.setChannel_sameSetting r _ _)

/-- The session of a FLOWING run ends, and a session that does not hold the run stays (R17, R120). -/
theorem State.disabledRun_prover (s : State) (r : Run) :
    (s.prover.session.holds r = false → (s.disabledRun r).prover = s.prover) ∧
    (s.prover.session.holds r = true → (s.channels.get r).runState = .flowing →
      (s.disabledRun r).prover = s.proverAborted r .runStopped) := by
  have kept : (s.disabledRun r).prover = ((s.finalWindow r).setRunState r .offline).prover := rfl
  rw [kept]
  refine ⟨fun free => ?_, fun held flowing => ?_⟩
  · rw [State.setRunState_of_free _ (by rwa [State.finalWindow_prover]), State.finalWindow_prover]
  · have still : ((s.finalWindow r).channels.get r).runState = .flowing := by
      rw [State.finalWindow_channels, PerRun.get_set_self]; exact flowing
    rw [State.setRunState_of_holds still (by decide) (by rwa [State.finalWindow_prover])]
    simp [State.proverAborted, State.newResult, State.finalWindow]

end

/-- Settles O37: the final window's routing, then the run state and the session it stops. -/
theorem disableClosesThePartialWindow : Obligations.DisableClosesThePartialWindow := by
  intro r s ready c
  refine ⟨fun off => execRunEnableOff_eq ready (State.disableRun_of_offline off), fun on _ => ?_⟩
  obtain ⟨totalizers, batch, batchSeq, queue, history, sampler, store⟩ := s.disabledRun_after r
  obtain ⟨free, held⟩ := s.disabledRun_prover r
  let t := (s.disabledRun r).respond .sup 0x18 ⟨.ok, []⟩
  refine ⟨t, execRunEnableOff_eq ready (State.disableRun_of_enabled on), ?_, s.disabledRun_channels r,
    (s.finalWindow_handOff r).congr rfl rfl totalizers, fun p => ?_, fun outside => ?_, fun b opened member fits =>
    ⟨fun below => ?_, fun set reached _ => ?_⟩, free, fun holds flowing => ?_, ?_⟩
  · rw [State.respond_get_self]
  · rw [State.respond_events]
    have unset : ((s.finalWindow r).channels.get r).runState ≠ .offline := by
      rw [State.finalWindow_channels, PerRun.get_set_self]; exact on
    exact State.setRunState_flag unset p
  · obtain ⟨took, mark, others, b, bs, q, h, sm, st⟩ := State.finalWindow_unbatched outside
    rw [← totalizers] at took mark others
    exact ⟨took, mark, others, batch.trans b, batchSeq.trans bs, queue.trans q, history.trans h, sampler.trans sm,
      store.trans st⟩
  · obtain ⟨still, h, st, unbatched⟩ := State.finalWindow_below opened member below
    exact ⟨_, batch.trans still, wentIntoBatch_addWindow s r b, history.trans h, store.trans st, totalizers ▸ unbatched⟩
  · obtain ⟨⟨e, newest, record⟩, closed⟩ := State.finalWindow_reached opened member set reached
    have flags := (State.raises_setRunState r .offline (s.finalWindow r)).flags
    refine ⟨e, history ▸ newest, ?_, ?_, ?_, ?_, fun p => ?_⟩
    · rw [record]; exact State.finalTest_batchSeq s b r
    · rw [record]; rfl
    · rw [record, OpenBatch.closing, OpenBatch.markPreTarget_eq]; rfl
    · rw [record, ← OpenBatch.closing_gross b s r fits]
      exact congrArg (fun x : RunPart => x.volume.gross) (PerRun.get_ofFn _ _)
    · rw [State.respond_events]; exact flags p _ (closed p)
  · rw [show t.prover = s.proverAborted r .runStopped from held holds flowing]
    exact ⟨Session.aborted_state _, Session.aborted_taken _, (Session.aborted_passes _).1, fun h =>
      ⟨_, (Session.aborted_passes _).2 h, rfl, rfl, rfl⟩, fun q hq => PerRun.get_set_ne _ _ hq, _,
      PerRun.get_set_self .., rfl, rfl, rfl⟩
  · have responded : (s.disabledRun r).SameSetting t := ⟨rfl, rfl, rfl, rfl, rfl, rfl, rfl, rfl, rfl⟩
    exact ((s.disabledRun_sameSetting r).trans responded).frame

end Sys2Proof.Machine
end

section
/-! PROOFS. One tick of REFCLK (R1): which commands join the queue, and what the observation of the pins changes. -/

namespace Sys2Proof.Machine

/-! ### Commands that only the clock puts into the queue -/

/-- The commands of reached deadlines (R2, R3, R113, R154, R186). -/
def ofDeadline : Instr → Bool
  | .windowExpiry _ | .oneSecondEvent | .pulseEnd | .gapEnd | .jobComplete | .passTimeout _ => true
  | _ => false

theorem requestOf_ofDeadline (p : Port) (code : Byte) (args : List Byte) :
    ofDeadline (requestOf p code args) = false := by
  unfold requestOf
  split
  case h_12 => split <;> rfl
  all_goals rfl

/-- A frame carries no command of a deadline (R164). -/
theorem decodeFrame_ofDeadline (p : Port) (bits : List Bool) : ofDeadline (decodeFrame p bits) = false := by
  unfold decodeFrame decodeBytes
  split
  · split
    · dsimp only
      split
      · exact requestOf_ofDeadline ..
      · rfl
    · rfl
  · rfl

theorem mem_allRuns (r : Run) : r ∈ allRuns := by cases r <;> decide

/-! ### The due commands, in any order (log entry 4) -/

section
variable {s : State} {now : Tick}

theorem interleave_flatten_perm (base : Nat) (events : List (List Instr)) :
    (interleave base events []).flatten.Perm events.flatten := by
  have joined := (interleave_perm base events []).flatten
  rwa [List.append_nil, List.flatten_filter_ne_nil] at joined

/-- The commands of one event stay together, whatever the order of the events. -/
theorem infix_interleave_flatten {e : List Instr} {events : List (List Instr)} (base : Nat) (h : e ∈ events)
    (he : e ≠ []) : e <:+: (interleave base events []).flatten := by
  have placed : e ∈ interleave base events [] :=
    (interleave_perm base events []).mem_iff.2 (by simp [h, he])
  obtain ⟨before, after, eq⟩ := List.append_of_mem placed
  exact ⟨before.flatten, after.flatten, by simp [eq]⟩

/-- The edges come first, then the events of the tick itself, each group in an order of its own. -/
theorem dueCommands_perm (s : State) (now : Tick) : ∃ edges clock, s.dueCommands now = edges ++ clock ∧
    edges.Perm (s.edgesDue now).flatten ∧ clock.Perm (s.clockDue now).flatten ∧
    ∀ e ∈ s.clockDue now, e ≠ [] → e <:+: clock :=
  ⟨_, _, rfl, interleave_flatten_perm _ _, interleave_flatten_perm _ _, fun _ h he => infix_interleave_flatten _ h he⟩

theorem edgeDue_ofDeadline (r : Run) : ∀ i ∈ s.edgeDue now r, ofDeadline i = false := by
  unfold State.edgeDue
  dsimp only
  split <;> simp [ofDeadline]

theorem detectorDue_ofDeadline (d : Detector) (l : Line) (x : DetectorInput) :
    ∀ i ∈ detectorDue d l x now, ofDeadline i = false := by
  unfold detectorDue
  split <;> simp [ofDeadline]

theorem restoreDue_ofDeadline : ∀ i ∈ s.restoreDue now, ofDeadline i = false := by
  unfold State.restoreDue
  split <;> simp [ofDeadline]

theorem rcvhiDue_ofDeadline : ∀ i ∈ s.rcvhiDue, ofDeadline i = false := by
  unfold State.rcvhiDue
  dsimp only
  split <;> simp [ofDeadline]

theorem pfailDue_ofDeadline : ∀ i ∈ s.pfailDue, ofDeadline i = false := by
  unfold State.pfailDue
  dsimp only
  split
  · split
    · simp [ofDeadline]
    · split <;> simp [ofDeadline]
  · simp

theorem selectDue_ofDeadline (p : Port) : ∀ i ∈ s.selectDue p, ofDeadline i = false := by
  unfold State.selectDue
  dsimp only
  split
  · split
    · split <;> simp [ofDeadline]
    · split <;> simp [decodeFrame_ofDeadline]
  · simp

/-- A deadline's command joins exactly where a deadline puts it. -/
theorem mem_dueCommands {i : Instr} (h : ofDeadline i = true) : i ∈ s.dueCommands now ↔
    (∃ r, i ∈ s.windowDue now r) ∨ i ∈ s.secondDue now ∨ i ∈ s.grabDue now ∨ i ∈ s.timeoutDue now ∨
      i ∈ s.jobDue now := by
  obtain ⟨edges, clock, eq, perm, perm', -⟩ := dueCommands_perm s now
  have absent {l : List Instr} (hl : ∀ j ∈ l, ofDeadline j = false) : i ∉ l := fun hi =>
    absurd ((hl i hi).symm.trans h) (by decide)
  rw [eq, List.mem_append, perm.mem_iff, perm'.mem_iff]
  simp only [State.edgesDue, State.clockDue, List.flatten_append, List.mem_append, List.mem_flatten, List.mem_map,
    List.mem_cons, List.not_mem_nil, or_false, exists_eq_or_imp, exists_exists_eq_and, mem_allRuns, true_and,
    absent (edgeDue_ofDeadline _), absent (detectorDue_ofDeadline _ _ _), absent restoreDue_ofDeadline,
    absent rcvhiDue_ofDeadline, absent pfailDue_ofDeadline, absent (selectDue_ofDeadline _), exists_false, false_or,
    exists_exists_and_eq_and, exists_eq_left, and_false]

theorem mem_windowDue {i : Instr} {r : Run} :
    i ∈ s.windowDue now r ↔ (s.channels.get r).deadline = now ∧ i = .windowExpiry r := by
  rw [State.windowDue, List.mem_ite_nil_right, List.mem_singleton]

theorem mem_secondDue {i : Instr} : i ∈ s.secondDue now ↔
    s.nextSecond = now ∧ i ∈ [Instr.oneSecondEvent, .proposalExpiry, .noDetector, .periodicCheckpoint] := by
  rw [State.secondDue, List.mem_ite_nil_right]

theorem mem_grabDue {i : Instr} : i ∈ s.grabDue now ↔
    (s.sampler.output = .pulse now ∧ i = .pulseEnd) ∨ (s.sampler.output = .gap now ∧ i = .gapEnd) := by
  unfold State.grabDue
  split <;> simp [*]

theorem mem_timeoutDue {i : Instr} : i ∈ s.timeoutDue now ↔
    ((s.prover.session.state = .inPass ∨ s.prover.session.state = .waitStop) ∧
      s.prover.session.pass.tD1 + 600000000 = now) ∧ i = .passTimeout s.prover.session.pass.tD1 := by
  rw [State.timeoutDue, List.mem_ite_nil_right, List.mem_singleton]

theorem mem_jobDue {i : Instr} :
    i ∈ s.jobDue now ↔ (∃ w, s.store.writing = some w ∧ w.endsAt = now) ∧ i = .jobComplete := by
  unfold State.jobDue
  split <;> simp [*]

/-- Each command of a deadline is due exactly when its tick is reached (R2, R3, R113, R154, R186). -/
theorem deadlines_due (s : State) (now : Tick) :
    (∀ r, .windowExpiry r ∈ s.dueCommands now ↔ (s.channels.get r).deadline = now) ∧
    (.oneSecondEvent ∈ s.dueCommands now ↔ s.nextSecond = now) ∧
    (.pulseEnd ∈ s.dueCommands now ↔ s.sampler.output = .pulse now) ∧
    (.gapEnd ∈ s.dueCommands now ↔ s.sampler.output = .gap now) ∧
    (.jobComplete ∈ s.dueCommands now ↔ ∃ w, s.store.writing = some w ∧ w.endsAt = now) ∧
    ∀ tD1, .passTimeout tD1 ∈ s.dueCommands now ↔ tD1 = s.prover.session.pass.tD1 ∧ tD1 + 600000000 = now ∧
      (s.prover.session.state = .inPass ∨ s.prover.session.state = .waitStop) := by
  refine ⟨fun r => ?_, ?_, ?_, ?_, ?_, fun tD1 => ?_⟩ <;>
    rw [mem_dueCommands rfl] <;>
    simp only [mem_windowDue, mem_secondDue, mem_grabDue, mem_timeoutDue, mem_jobDue]
  case refine_6 =>
    simp only [reduceCtorEq, and_false, exists_false, false_or, or_false, Instr.passTimeout.injEq, List.mem_cons,
      List.not_mem_nil]
    constructor
    · rintro ⟨⟨state, reached⟩, rfl⟩
      exact ⟨rfl, reached, state⟩
    · rintro ⟨rfl, reached, state⟩
      exact ⟨⟨state, reached⟩, rfl⟩
  all_goals simp

/-! ### The events of a tick, as lists -/

/-- A command that is due, or none. -/
def dueIf (due : Bool) (i : Instr) : List Instr := if due then [i] else []

/-- A port's select event of this tick (R163 to R165). -/
theorem selectDue_eq (s : State) (p : Port) : s.selectDue p = match (s.ports.get p).transaction with
    | .idle => dueIf ((s.lines.select.get p).stable && !(s.lines.select.get p).level && (s.ports.get p).selectSeenHigh)
        (.transactionBegin p)
    | .selected bits _ => dueIf ((s.lines.select.get p).stable && (s.lines.select.get p).level)
        (decodeFrame p bits) := by
  unfold State.selectDue dueIf
  dsimp only
  generalize (s.lines.select.get p).stable = stable
  cases stable <;> cases (s.ports.get p).transaction <;> simp

theorem grabDue_eq (s : State) (now : Tick) : s.grabDue now =
    dueIf (decide (s.sampler.output = .pulse now)) .pulseEnd ++ dueIf (decide (s.sampler.output = .gap now)) .gapEnd := by
  unfold State.grabDue dueIf
  cases s.sampler.output <;> simp

theorem pfailDue_eq (s : State) : s.pfailDue =
    dueIf (s.lines.pfail.stable && !s.lines.pfail.level && !s.store.pfailActive) .powerFailWarning ++
      dueIf (s.lines.pfail.stable && s.lines.pfail.level && s.store.pfailActive) .powerFailClear := by
  unfold State.pfailDue dueIf
  dsimp only
  generalize s.lines.pfail.stable = stable
  cases stable <;> cases s.lines.pfail.level <;> cases s.store.pfailActive <;> rfl

theorem jobDue_eq (s : State) (now : Tick) :
    s.jobDue now = dueIf (s.store.writing.any fun w => decide (w.endsAt = now)) .jobComplete := by
  unfold State.jobDue dueIf
  cases s.store.writing <;> simp

/-- The end of the restore is due: free before tick 1 500 000, and due there (R190; log entry 5). -/
def State.restoreEnds (s : State) (now : Tick) : Bool :=
  s.isRestoring && (decide (1500000 ≤ now.toNat) || Config.restoreEndsNow s.freeIndex)

theorem restoreDue_eq (s : State) (now : Tick) : s.restoreDue now = dueIf (s.restoreEnds now) .restoreComplete := by
  unfold State.restoreDue State.restoreEnds dueIf
  simp only [Bool.and_eq_true, Bool.or_eq_true, decide_eq_true_eq]

theorem rcvhiDue_eq (s : State) : s.rcvhiDue =
    dueIf ((s.lines.rcvhi.settled || !s.isRestoring) && s.lines.rcvhi.stable &&
      decide (s.lines.rcvhi.level ≠ s.sampler.rcvhi)) (.rcvhiChange s.lines.rcvhi.level) := by
  simp only [State.rcvhiDue, dueIf, Bool.and_eq_true, Bool.or_eq_true, Bool.not_eq_true', decide_eq_true_eq, and_assoc]

theorem timeoutDue_eq (s : State) (now : Tick) : s.timeoutDue now =
    dueIf (decide ((s.prover.session.state = .inPass ∨ s.prover.session.state = .waitStop) ∧
      s.prover.session.pass.tD1 + 600000000 = now)) (.passTimeout s.prover.session.pass.tD1) := by
  rw [State.timeoutDue, dueIf]
  exact (if_congr (decide_eq_true_iff ..) rfl rfl).symm

theorem windowDue_eq (s : State) (now : Tick) (r : Run) :
    s.windowDue now r = dueIf (decide ((s.channels.get r).deadline = now)) (.windowExpiry r) := by
  simp only [State.windowDue, dueIf, decide_eq_true_eq]

/-- The tick before the one that begins is the one that ended. -/
theorem tick_before (t : Tick) : t + 1 - 1 = t := BitVec.add_sub_cancel t 1

theorem edgeDue_eq (s : State) (r : Run) : s.edgeDue (s.tick + 1) r =
    dueIf (s.lines.pairSettled r && decide (s.lines.pairNow r (s.channels.get r).pair ≠ (s.channels.get r).pair))
      (.edgeEvent r (s.lines.pairNow r (s.channels.get r).pair).a (s.lines.pairNow r (s.channels.get r).pair).b s.tick) := by
  simp only [State.edgeDue, dueIf, Bool.and_eq_true, decide_eq_true_eq, tick_before]

theorem detectorDue_eq (s : State) (d : Detector) (l : Line) (x : DetectorInput) : detectorDue d l x (s.tick + 1) =
    dueIf (l.settled && l.stable && l.level && !x.level) (.detectorEvent d s.tick) := by
  simp only [detectorDue, dueIf, Bool.and_eq_true, Bool.not_eq_true', and_assoc, tick_before]

end

/-! ### What the observation changes (R5, R104, R152, R163) -/

/-- One observation of a line: what was seen is its level, and a level seen twice has been accepted (R5). -/
theorem Line.observe_eq {l m : Line} (h : m = l.observe) : m.level = l.level ∧ m.seen = some l.level ∧
    (m.settled = true ↔ l.settled = true ∨ (l.seen == some l.level) = true) := by
  subst h
  refine ⟨rfl, rfl, ?_⟩
  rw [Line.observe, Bool.or_eq_true]
  rfl

theorem Lines.observe_plsA (l : Lines) (r : Run) : l.observe.plsA.get r = (l.plsA.get r).observe := PerRun.get_ofFn _ r

theorem Lines.observe_plsB (l : Lines) (r : Run) : l.observe.plsB.get r = (l.plsB.get r).observe := PerRun.get_ofFn _ r

theorem Lines.observe_select (l : Lines) (p : Port) : l.observe.select.get p = (l.select.get p).observe :=
  PerPort.get_ofFn _ p

theorem State.followLines_channels (s : State) (r : Run) :
    s.followLines.channels.get r = (s.channels.get r).firstLevels s.lines r := PerRun.get_ofFn _ r

theorem State.followLines_ports (s : State) (p : Port) : s.followLines.ports.get p = { s.ports.get p with
    selectSeenHigh := (s.ports.get p).selectSeenHigh || (s.lines.select.get p).accept false } := PerPort.get_ofFn _ p

/-- A channel whose lines both had a first level is left; else its pair follows them, and it is outside a cycle or waits for
00 once both have one (R5). -/
theorem Channel.firstLevels_eq (c : Channel) (l : Lines) (r : Run) :
    (l.pairSettled r = true → c.firstLevels l r = c) ∧
    (l.pairSettled r = false → c.firstLevels l r = { c with
      pair := l.pairNow r c.pair
      tracking := if (l.observe.plsA.get r).settled = true ∧ (l.observe.plsB.get r).settled = true
        then (if l.pairNow r c.pair = .zero then .outside else .waiting) else c.tracking }) := by
  refine ⟨fun settled => if_pos settled, fun unsettled => ?_⟩
  rw [Channel.firstLevels, if_neg (by simp [unsettled]), Lines.observe_plsA, Lines.observe_plsB]
  simp only [Bool.and_eq_true]

theorem State.followLines_channels_frame (s : State) (r : Run) : s.followLines.channels.get r = { s.channels.get r with
    pair := (s.followLines.channels.get r).pair, tracking := (s.followLines.channels.get r).tracking } := by
  rw [State.followLines_channels, Channel.firstLevels]
  split <;> rfl

theorem State.followLines_ports_frame (s : State) (p : Port) : s.followLines.ports.get p = { s.ports.get p with
    selectSeenHigh := (s.followLines.ports.get p).selectSeenHigh } := by
  rw [State.followLines_ports]

/-- A detector's line at a tick keeps the reference tick (R104). -/
theorem DetectorInput.follow_eq (x : DetectorInput) (l : Line) : x.follow l = { x with
    level := if l.settled then x.level && l.accept x.level else l.accept x.level } := by
  unfold DetectorInput.follow
  split <;> rfl

/-- Settles O2: the tick's commands are those of `State.edgesDue` and `State.clockDue`, each group in some order. -/
theorem idleStepIsOneTick : Obligations.IdleStepIsOneTick := by
  intro s idle
  have ticked : step s = .next s.tickClock := by rw [step, idle]
  refine ⟨fun low => ?_, fun high => ?_⟩
  · rw [ticked, State.tickClock, if_neg (by simp [low])]
  intro twice taken observed seenLow seenHigh bothSettled pair one rises now x
  have after : s.tickClock = { s.followLines with
      tick := now, lines := s.lines.observe, freeIndex := s.freeIndex + ticksFreeValues
      pending := s.dueCommands now } := if_pos high
  obtain ⟨expiry, second, pulse, gap, job, timeout⟩ := deadlines_due s now
  obtain ⟨edges, clock, eq, edgesPerm, clockPerm, whole⟩ := dueCommands_perm s now
  refine ⟨_, ticked.trans (congrArg _ after), rfl, expiry, second, pulse, gap, job, timeout, fun due => ?_,
    ⟨s.restoreEnds now, edges, clock, fun ready => ?_, fun restoring late => ?_, eq, ?_, ?_⟩,
    ?_, ?_, ?_, ?_, ?_, ?_, ?_, ?_⟩
  · have together : s.secondDue now = [.oneSecondEvent, .proposalExpiry, .noDetector, .periodicCheckpoint] := if_pos due
    have placed := whole (s.secondDue now) (by simp [State.clockDue]) (by simp [together])
    rw [together] at placed
    exact eq ▸ placed.trans (List.suffix_append edges clock).isInfix
  · rw [State.restoreEnds, ready]; rfl
  · rw [State.restoreEnds, restoring, decide_eq_true late]; rfl
  · refine edgesPerm.trans (.of_eq ?_)
    rw [State.edgesDue, List.flatten_append, detectorDue_eq, detectorDue_eq, funext (edgeDue_eq s)]
    simp only [List.flatten_cons, List.flatten_nil, List.append_nil, List.append_assoc]
    rfl
  · refine clockPerm.trans (.of_eq ?_)
    rw [State.clockDue, grabDue_eq, timeoutDue_eq, jobDue_eq, restoreDue_eq, rcvhiDue_eq, pfailDue_eq,
      funext (selectDue_eq s), funext (windowDue_eq s now)]
    simp only [List.flatten_append, List.flatten_cons, List.flatten_nil, List.append_nil, List.append_assoc]
    rfl
  · exact ⟨fun r => ⟨Line.observe_eq (Lines.observe_plsA ..), Line.observe_eq (Lines.observe_plsB ..)⟩,
      Line.observe_eq rfl, Line.observe_eq rfl, Line.observe_eq rfl, Line.observe_eq rfl,
      fun p => Line.observe_eq (Lines.observe_select ..), high⟩
  · intro r
    obtain ⟨kept, first⟩ := (s.channels.get r).firstLevels_eq s.lines r
    refine ⟨fun settled => (s.followLines_channels r).trans (kept settled), fun unsettled => ?_⟩
    have eq := (s.followLines_channels r).trans (first unsettled)
    exact ⟨congrArg Channel.pair eq, congrArg Channel.tracking eq⟩
  · intro d
    cases d
    case det1 =>
      have eq := s.prover.det1.follow_eq s.lines.det1
      exact ⟨(congrArg DetectorInput.reference eq :), (congrArg DetectorInput.level eq :)⟩
    case det2 =>
      have eq := s.prover.det2.follow_eq s.lines.det2
      exact ⟨(congrArg DetectorInput.reference eq :), (congrArg DetectorInput.level eq :)⟩
  · rfl
  · intro p
    have accepted : seenHigh p = (s.lines.select.get p).accept false := by
      show (twice _ && _) = if twice _ then _ else false
      cases twice (s.lines.select.get p) <;> rfl
    rw [accepted]
    exact congrArg PortState.selectSeenHigh (s.followLines_ports p)
  · rfl
  · exact s.followLines_channels_frame
  · exact s.followLines_ports_frame

end Sys2Proof.Machine
end

section
/-! PROOFS. What a restore reads back (R78, R97, R185): the marked records in ascending sequence and the newest of them; and how
the store and the ports go on from there (R186, R188, R190). -/

namespace Sys2Proof.Machine

/-! ### The marked records in ascending sequence (R97, R185) -/

/-- Records in their own slots have sequence numbers of their own (R185). -/
theorem slotsLegal.distinct {slots : List (Option BatchRecord)} (h : slotsLegal slots) :
    (slots.filterMap id).Pairwise fun x y => x.seq ≠ y.seq := by
  obtain ⟨-, own⟩ := h
  rw [List.pairwise_filterMap, List.pairwise_iff_getElem]
  intro i j hi hj lt x hx y hy same
  have slot_x := own i x (by rw [List.getElem?_eq_getElem hi]; exact congrArg some hx)
  have slot_y := own j y (by rw [List.getElem?_eq_getElem hj]; exact congrArg some hy)
  rw [same] at slot_x
  omega

theorem insertRecord_ascending {r : BatchRecord} {l : List BatchRecord} (h : l.Pairwise fun x y => x.seq < y.seq)
    (new : ∀ q ∈ l, r.seq ≠ q.seq) : (insertRecord r l).Pairwise fun x y => x.seq < y.seq := by
  induction l with
  | nil => exact List.pairwise_singleton ..
  | cons q l ih =>
    obtain ⟨first, rest⟩ := List.pairwise_cons.1 h
    rw [insertRecord]
    split
    · rename_i lt
      refine List.pairwise_cons.2 ⟨fun x hx => ?_, h⟩
      rcases List.mem_cons.1 hx with rfl | hx
      · exact lt
      · exact lt.trans (first x hx)
    · rename_i ge
      refine List.pairwise_cons.2 ⟨fun x hx => ?_, ih rest fun x hx => new x (List.mem_cons_of_mem _ hx)⟩
      rcases mem_insertRecord.1 hx with rfl | hx
      · have := new q List.mem_cons_self
        omega
      · exact first x hx

theorem sortedRecords_ascending {slots : List (Option BatchRecord)} (h : slotsLegal slots) :
    (sortedRecords slots).Pairwise fun x y => x.seq < y.seq := by
  have sorted {l : List BatchRecord} (h : l.Pairwise fun x y => x.seq ≠ y.seq) :
      (l.foldr insertRecord []).Pairwise (fun x y => x.seq < y.seq) ∧ ∀ q, q ∈ l.foldr insertRecord [] ↔ q ∈ l := by
    induction l with
    | nil => simp
    | cons r l ih =>
      obtain ⟨new, rest⟩ := List.pairwise_cons.1 h
      obtain ⟨ascending, same⟩ := ih rest
      exact ⟨insertRecord_ascending ascending fun q hq => new q ((same q).1 hq), fun q => by simp [mem_insertRecord, same]⟩
  exact (sorted h.distinct).1

section
variable {x : Store}

/-- Every marked record is the newest one or lies below it (R34, R78). -/
theorem Store.found_newest_max (h : slotsLegal x.slots) {q y : BatchRecord} (newest : x.found.newest = some q)
    (held : some y ∈ x.slots) : y = q ∨ y.seq < q.seq := by
  obtain ⟨front, eq⟩ := List.getLast?_eq_some_iff.1 newest
  have mem : y ∈ front ++ [q] := eq ▸ mem_sortedRecords.2 held
  have ascending : (front ++ [q]).Pairwise fun x y => x.seq < y.seq := eq ▸ sortedRecords_ascending h
  rcases List.mem_append.1 mem with mem | mem
  · exact .inr ((List.pairwise_append.1 ascending).2.2 y mem q (List.mem_singleton.2 rfl))
  · exact .inl (List.mem_singleton.1 mem)

/-- A marked record that none exceeds is the newest. -/
theorem Store.found_newest_of_max (h : slotsLegal x.slots) {q : BatchRecord} (held : some q ∈ x.slots)
    (max : ∀ y, some y ∈ x.slots → y.seq ≤ q.seq) : x.found.newest = some q := by
  have mem : q ∈ x.found.records := mem_sortedRecords.2 held
  obtain ⟨n, newest⟩ : ∃ n, x.found.newest = some n :=
    Option.ne_none_iff_exists'.1 fun none => by rw [List.getLast?_eq_none_iff.1 none] at mem; cases mem
  have le := max n (mem_sortedRecords.1 (List.mem_of_getLast? newest))
  rcases Store.found_newest_max h newest held with rfl | lt
  · exact newest
  · omega

theorem Store.found_records_eq_nil (none : ∀ q, some q ∉ x.slots) : x.found.records = [] :=
  List.eq_nil_iff_forall_not_mem.2 fun q hq => none q (mem_sortedRecords.1 hq)

theorem Store.found_records_ne_nil {q : BatchRecord} (held : some q ∈ x.slots) : x.found.records ≠ [] :=
  List.ne_nil_of_mem (mem_sortedRecords.2 held)

/-! ### The ring and the counter (R78, R97) -/

theorem Found.ring_records (f : Found) : (f.ring.map fun e => e.record) = f.records.drop (f.records.length - 24) := by
  simp [Found.ring, Function.comp_def]

/-- The ring holds up to 24 of the newest marked records, all RETAINED (R97). -/
theorem Store.found_ring (h : slotsLegal x.slots) :
    x.found.ring.length ≤ 24 ∧ (x.found.ring.map fun e => e.record.seq).Pairwise (· < ·) ∧
    (∀ e ∈ x.found.ring, some e.record ∈ x.slots ∧ e.retention = .retained) ∧
    ∀ q, some q ∈ x.slots → q ∉ x.found.ring.map (fun e => e.record) →
      x.found.ring.length = 24 ∧ ∀ e ∈ x.found.ring, q.seq < e.record.seq := by
  have ascending : x.found.records.Pairwise fun x y => x.seq < y.seq := sortedRecords_ascending h
  have length : x.found.ring.length = x.found.records.length - (x.found.records.length - 24) := by simp [Found.ring]
  refine ⟨by omega, ?_, fun e he => ?_, fun q held out => ?_⟩
  · have seqs : (x.found.ring.map fun e => e.record.seq) = (x.found.ring.map fun e => e.record).map BatchRecord.seq := by
      simp
    rw [seqs, Found.ring_records, List.pairwise_map]
    exact ascending.drop
  · obtain ⟨q, hq, rfl⟩ := List.mem_map.1 he
    exact ⟨mem_sortedRecords.1 (List.mem_of_mem_drop hq), rfl⟩
  · have split := List.take_append_drop (x.found.records.length - 24) x.found.records
    have mem : q ∈ x.found.records := mem_sortedRecords.2 held
    have older : q ∈ x.found.records.take (x.found.records.length - 24) := by
      rw [← split] at mem
      exact (List.mem_append.1 mem).resolve_right fun inside => out (Found.ring_records x.found ▸ inside)
    have long := List.length_pos_of_mem older
    rw [List.length_take] at long
    refine ⟨by omega, fun e he => ?_⟩
    rw [← split] at ascending
    obtain ⟨y, hy, rfl⟩ := List.mem_map.1 he
    exact (List.pairwise_append.1 ascending).2.2 q older y hy

/-- The counter is above every marked record (R78). -/
theorem Store.found_batchSeq_gt (h : slotsLegal x.slots) {q : BatchRecord} (held : some q ∈ x.slots) :
    q.seq < x.found.batchSeq := by
  obtain ⟨n, newest⟩ : ∃ n, x.found.newest = some n :=
    Option.ne_none_iff_exists'.1 fun none => Store.found_records_ne_nil held (List.getLast?_eq_none_iff.1 none)
  have le : q.seq ≤ n.seq := by
    rcases Store.found_newest_max h newest held with rfl | lt
    · exact le_rfl
    · exact lt.le
  simp only [Found.batchSeq, newest, Option.map_some, Option.getD_some]
  omega

end

end Sys2Proof.Machine
end

section
/-! PROOFS. The last steps of a restore (R186, R188, R190): the CHECKPOINT that is requested where none was found, and an active
PFAIL acted on; what they leave of the state in which the losses were announced. -/

namespace Sys2Proof.Machine

section
variable {s u : State}

theorem State.setStore_setStore (s : State) (x y : Store) : (s.setStore x).setStore y = s.setStore y := rfl

/-! ### The restore's own CHECKPOINT and the final one (R186, R188) -/

/-- The store once a CHECKPOINT job has begun in a state, with its queue (R184, R187). -/
def State.checkpointBegun (u : State) (jobs : List Job) : Store := { u.store with
  status := .writing
  queue := jobs
  checkpoints := u.store.checkpoints.erase u.store.checkpoints.writesSecond
  periodicRef := u.uptime
  writing := some ⟨.checkpoint ⟨u.store.checkpoints.nextCount, u.captureCheckpoint⟩ u.store.checkpoints.writesSecond,
    u.tick + 200000⟩ }

theorem State.joinQueue_checkpoint (ready : u.store.status = .ready) (idle : u.store.queue = []) :
    u.joinQueue .checkpoint = u.setStore (u.checkpointBegun [.checkpoint]) := by
  rw [State.joinQueue, if_pos ready, idle]
  rfl

theorem State.requestCheckpoint_of_ready (ready : u.store.status = .ready) (idle : u.store.queue = [])
    (powered : u.store.powerFail = false) : u.requestCheckpoint = u.setStore (u.checkpointBegun [.checkpoint]) := by
  rw [State.requestCheckpoint, if_neg (by simp [Store.waiting, idle]),
    if_pos (by simp [Store.takesJobs, ready, idle, powered]), State.joinQueue_checkpoint ready idle]

@[simp] theorem History.lose_nil (h : History) : h.lose [] = h := by
  have same (e : RingEntry) : RingEntry.lose [] e = e := if_neg List.not_mem_nil
  rw [History.lose, funext same, List.map_id']

/-- A warning acted on with no job waiting (R188). -/
theorem State.actOnPowerFail_of_none_waiting (taking : u.store.takesJobs = true) (none : u.store.waiting = []) :
    u.actOnPowerFail = State.raiseRetention .powerWarning
      (State.joinQueue .checkpoint (u.setStore { u.store with powerFail := true, queue := u.store.queue.take 1 })) := by
  rw [State.actOnPowerFail, if_pos taking]
  simp only [none, List.filter_nil, recordSeqs, List.filterMap_nil, List.length_nil, State.raiseRetentionTimes,
    State.setStore_history, History.lose_nil, List.append_nil, List.not_mem_nil, decide_false, Bool.or_false, if_true]
  rfl

theorem State.actOnPowerFail_of_ready (ready : u.store.status = .ready) (idle : u.store.queue = []) :
    let warned := u.setStore { u.store with powerFail := true }
    u.actOnPowerFail = State.raiseRetention .powerWarning (u.setStore (warned.checkpointBegun [.checkpoint])) := by
  intro warned
  rw [State.actOnPowerFail_of_none_waiting (by simp [Store.takesJobs, ready]) (by simp [Store.waiting, idle])]
  refine congrArg (State.raiseRetention .powerWarning) ((State.joinQueue_checkpoint ?_ ?_).trans rfl)
  · exact ready
  · simp [idle]

theorem State.actOnPowerFail_of_writing (writing : u.store.status = .writing) {j : Job} (one : u.store.queue = [j]) :
    u.actOnPowerFail = State.raiseRetention .powerWarning
      (u.setStore { u.store with powerFail := true, queue := [j, .checkpoint] }) := by
  rw [State.actOnPowerFail_of_none_waiting (by simp [Store.takesJobs, writing]) (by simp [Store.waiting, one]),
    State.joinQueue, if_neg (by simp [writing]), one]
  rfl

/-! ### The end of the restore (R190) -/

/-- A store that restores has no job, and no power-fail indication (R186, R190). -/
theorem State.storeLegal.idle (h : s.storeLegal) (restoring : s.isRestoring = true) :
    s.store.queue = [] ∧ s.store.writing = none ∧ s.store.powerFail = false := by
  obtain ⟨-, -, rest, -, powered, -⟩ := h
  have status : s.store.status = .restoring := by simpa [State.isRestoring] using restoring
  obtain ⟨queue, writing⟩ := rest (by simp [status])
  exact ⟨queue, writing, powered status⟩

theorem State.announced_store (s : State) :
    s.announced.store = { s.store with status := .ready, periodicRef := s.uptime } := by
  rw [State.announced_frame]; rfl

/-- What the restore leaves of the state in which the losses were announced: the store goes on, and RETENTION announces an
active PFAIL. -/
structure State.Completed (s t : State) : Prop where
  frame     : t = { s.announced with store := t.store, ports := t.ports }
  ports     : t.ports = if s.store.pfailActive then (s.announced.raiseRetention .powerWarning).ports else s.announced.ports
  status    : t.store.status ≠ .restoring
  reference : t.store.periodicRef = s.uptime
  warned    : s.store.pfailActive = true → t.store.powerFail = true ∧
    t.store.queue = if s.store.found.checkpoint.isNone then [.checkpoint, .checkpoint] else [.checkpoint]
  unwarned  : s.store.pfailActive = false → t.store =
    if s.store.found.checkpoint.isNone then s.announced.checkpointBegun [.checkpoint] else s.announced.store

theorem State.completeRestore_completed (queue : s.store.queue = []) (powered : s.store.powerFail = false) :
    s.Completed s.completeRestore := by
  have ready : s.announced.store.status = .ready := by rw [State.announced_store]
  have idle : s.announced.store.queue = [] := by rw [State.announced_store]; exact queue
  have uptime : s.announced.uptime = s.uptime := by rw [State.announced_frame]; rfl
  have reference : s.announced.store.periodicRef = s.uptime := by rw [State.announced_store]
  have requested := State.requestCheckpoint_of_ready ready idle (by rw [State.announced_store]; exact powered)
  have pfail : s.announced.store.pfailActive = s.store.pfailActive := by rw [State.announced_store]
  have begun : (s.announced.setStore (s.announced.checkpointBegun [.checkpoint])).store.pfailActive =
    s.store.pfailActive := pfail
  rw [State.completeRestore_eq, requested]
  have final := State.actOnPowerFail_of_ready ready idle
  have second := State.actOnPowerFail_of_writing (u := s.announced.setStore (s.announced.checkpointBegun [.checkpoint]))
    rfl rfl
  cases warned : s.store.pfailActive <;> cases found : s.store.found.checkpoint.isNone <;>
    simp only [pfail, begun, warned, if_true, Bool.false_eq_true, if_false]
  · exact ⟨rfl, by simp [warned], by simp [ready], reference, by simp [warned], by simp [found]⟩
  · exact ⟨rfl, by simp [warned], nofun, uptime, by simp [warned], by simp [found]⟩
  · rw [final]
    exact ⟨rfl, (if_pos warned).symm, nofun, uptime, fun _ => by rw [found]; exact ⟨rfl, rfl⟩, by simp [warned]⟩
  · rw [second, State.setStore_setStore]
    exact ⟨rfl, (if_pos warned).symm, nofun, uptime, fun _ => by rw [found]; exact ⟨rfl, rfl⟩, by simp [warned]⟩

end

end Sys2Proof.Machine
end

section
/-! PROOFS. What a restore leaves in each block (R24, R34, R35, R50, R78, R82, R97, R160), what it announces, and the settled
statement on the restore completion (R190). -/

namespace Sys2Proof.Machine

section
variable {s t u : State} {f : Found} {r : Run}

/-! ### RETENTION and its causes (R177, R188, R190) -/

/-- A cause in a retention cause set. -/
def RetentionCauses.holds (x : RetentionCauses) : RetentionCause → Bool
  | .powerWarning => x.powerWarning
  | .parametersLost => x.parametersLost
  | .totalsFromRecord => x.totalsFromRecord
  | .totalsLost => x.totalsLost
  | .recordNotRetained => x.recordNotRetained

theorem RetentionCauses.holds_insert (x : RetentionCauses) (c d : RetentionCause) :
    (x.insert c).holds d = (x.holds d || decide (d = c)) := by
  cases c <;> cases d <;> simp [RetentionCauses.insert, RetentionCauses.holds]

/-- Every port's RETENTION flag is set, with a cause among its causes. -/
def State.announces (s : State) (c : RetentionCause) : Prop :=
  ∀ p, ((s.ports.get p).events.get .retention).flag = true ∧ (s.ports.get p).causes.holds c = true

theorem State.raiseRetention_causes (s : State) (c : RetentionCause) (p : Port) :
    ((s.raiseRetention c).ports.get p).causes = (s.ports.get p).causes.insert c := by
  rw [State.raiseRetention_get]; rfl

theorem State.raiseRetention_announces (s : State) (c : RetentionCause) : (s.raiseRetention c).announces c := fun p => by
  refine ⟨?_, ?_⟩
  · rw [State.raiseRetention_get, PortState.occurRetention, PortState.occur_get_self]
  · rw [State.raiseRetention_causes, RetentionCauses.holds_insert, decide_eq_true rfl, Bool.or_true]

theorem State.announces.raiseRetention {c : RetentionCause} (h : s.announces c) (d : RetentionCause) :
    (s.raiseRetention d).announces c := fun p => by
  obtain ⟨flag, cause⟩ := h p
  refine ⟨(s.raises_raiseRetention (C := [.retention]) (by decide) d).flags p _ flag, ?_⟩
  rw [State.raiseRetention_causes, RetentionCauses.holds_insert, cause, Bool.true_or]

/-- The losses that a restore announces (R190 steps 1 and 3). -/
structure Found.Announced (f : Found) (s : State) : Prop where
  parameters : f.parameters = none → s.announces .parametersLost
  fromRecord : f.checkpoint = none → f.records ≠ [] → s.announces .totalsFromRecord
  lost       : f.checkpoint = none → f.records = [] → s.announces .totalsLost

theorem Found.announce_announced (f : Found) (s : State) : f.Announced (f.announce s) := by
  unfold Found.announce
  dsimp only
  refine ⟨fun none => ?_, fun none some => ?_, fun none empty => ?_⟩
  · have first : (if f.parameters.isNone then s.raiseRetention .parametersLost else s).announces .parametersLost := by
      rw [if_pos (by rw [none]; rfl)]
      exact s.raiseRetention_announces _
    split
    · exact first
    · split <;> exact first.raiseRetention _
  · rw [if_neg (by simp [none]), if_neg some]
    exact State.raiseRetention_announces _ _
  · rw [if_neg (by simp [none]), if_pos empty]
    exact State.raiseRetention_announces _ _

theorem Found.Announced.raiseRetention (h : f.Announced s) (c : RetentionCause) : f.Announced (s.raiseRetention c) :=
  ⟨fun a => (h.parameters a).raiseRetention c, fun a b => (h.fromRecord a b).raiseRetention c,
    fun a b => (h.lost a b).raiseRetention c⟩

/-! ### The start-up events of the channels (R24) -/

/-- The flags that a run's channel sets when it settles. -/
structure Found.Started (f : Found) (c : Channel) (r : Run) (s : State) : Prop where
  runState : f.enables r = true → ∀ p, ((s.ports.get p).events.get .runState).flag = true
  reverse  : f.enables r = true → 0 < c.carried.faults.reverse → ∀ p, ((s.ports.get p).events.get .reverse).flag = true
  offline  : f.enables r = false → 0 < c.heldPulses → ∀ p, ((s.ports.get p).events.get .offlinePulses).flag = true

theorem Found.Started.mono {c : Channel} {C : List EventClass} (h : f.Started c r s) (k : s.Raises C t) :
    f.Started c r t :=
  ⟨fun a p => k.flags p _ (h.runState a p), fun a b p => k.flags p _ (h.reverse a b p),
    fun a b p => k.flags p _ (h.offline a b p)⟩

/-- What a restore may raise beside RETENTION. -/
def startClasses : List EventClass := [.runState, .reverse, .offlinePulses]

theorem State.raises_settleChannel (f : Found) (s : State) (r : Run) :
    s.Raises startClasses (State.settleChannel f s r) := by
  unfold State.settleChannel
  dsimp only
  split
  · refine State.Raises.trans ?_ (State.raises_raiseIf (by decide) _ _)
    exact (State.raises_raise (by decide) _).from_ports rfl
  · exact (State.raises_raiseIf (by decide) _ _).from_ports rfl

theorem State.settleChannel_started (f : Found) (s : State) (r : Run) :
    f.Started (s.channels.get r) r (State.settleChannel f s r) := by
  unfold State.settleChannel
  dsimp only
  refine ⟨fun enables p => ?_, fun enables held p => ?_, fun disables held p => ?_⟩
  · rw [if_pos enables]
    exact (State.raises_raiseIf (C := [.reverse]) (by decide) _ _).flags p _ (by simp)
  · rw [if_pos enables, decide_eq_true held]
    simp [State.raiseIf]
  · rw [if_neg (by simp [disables]), decide_eq_true held]
    simp [State.raiseIf]

/-- Every run's channel has settled with its flags, whichever come after it. -/
theorem State.settleChannels_started (f : Found) {l : List Run} (hr : r ∈ l) (s : State) :
    f.Started (s.channels.get r) r (l.foldl (State.settleChannel f) s) := by
  have rest (l : List Run) (u : State) : u.Raises startClasses (l.foldl (State.settleChannel f) u) := by
    induction l generalizing u with
    | nil => exact .refl u
    | cons q l ih => exact (State.raises_settleChannel f u q).trans (ih _)
  induction l generalizing s with
  | nil => cases hr
  | cons q l ih =>
    by_cases same : r = q
    · subst same
      exact (State.settleChannel_started f s r).mono (rest l _)
    · have after := ih ((List.mem_cons.1 hr).resolve_left same) (State.settleChannel f s q)
      rwa [State.settleChannel_channels, PerRun.get_set_ne _ _ same] at after

theorem State.raises_announce (f : Found) (s : State) : s.Raises [.retention] (f.announce s) := by
  have raised (u : State) (c : RetentionCause) : u.Raises [.retention] (u.raiseRetention c) :=
    State.raises_raiseRetention (by decide) c u
  have first : s.Raises [.retention] (if f.parameters.isNone then s.raiseRetention .parametersLost else s) := by
    split
    · exact raised s _
    · exact .refl s
  unfold Found.announce
  dsimp only
  split
  · exact first
  · split <;> exact first.trans (raised _ _)

theorem State.announced_started (s : State) (r : Run) : s.store.found.Started (s.channels.get r) r s.announced :=
  ((State.settleChannels_started s.store.found (mem_allRuns r) (s.takeRestored s.store.found)).mono
    (State.raises_evaluateFull _)).mono (State.raises_announce _ _)

/-! ### The completed restore -/

theorem State.announces.of_ports {c : RetentionCause} (h : s.announces c) (e : t.ports = s.ports) : t.announces c := by
  rw [State.announces, e]
  exact h

theorem Found.Announced.of_ports (h : f.Announced s) (e : t.ports = s.ports) : f.Announced t :=
  ⟨fun a => (h.parameters a).of_ports e, fun a b => (h.fromRecord a b).of_ports e, fun a b => (h.lost a b).of_ports e⟩

section
variable (h : s.Completed t)
include h

/-- What was announced stays announced, and an active PFAIL is announced with it (R188). -/
theorem State.Completed.losses : s.store.found.Announced t := by
  have announced : s.store.found.Announced s.announced := Found.announce_announced ..
  cases warned : s.store.pfailActive
  · exact announced.of_ports (by simpa [warned] using h.ports)
  · exact (announced.raiseRetention .powerWarning).of_ports (by simpa [warned] using h.ports)

theorem State.Completed.warning (warned : s.store.pfailActive = true) : t.announces .powerWarning :=
  (s.announced.raiseRetention_announces .powerWarning).of_ports (by simpa [warned] using h.ports)

theorem State.Completed.started (r : Run) : s.store.found.Started (s.channels.get r) r t := by
  have raised : s.announced.Raises [.retention] t := by
    cases warned : s.store.pfailActive
    · exact .of_ports (by simpa [warned] using h.ports)
    · exact (State.raises_raiseRetention (by decide) .powerWarning _).to_ports (by simpa [warned] using h.ports)
  exact (s.announced_started r).mono raised

theorem State.Completed.totalizers : t.totalizers = .ofFn s.store.found.totalizer := by
  rw [h.frame, State.announced_frame]; rfl

theorem State.Completed.channels : t.channels = .ofFn fun r => (s.channels.get r).settled s.store.found r := by
  rw [h.frame]; exact s.announced_channels

theorem State.Completed.curves : t.curves = .ofFn s.store.found.curve := by
  rw [h.frame, State.announced_frame]; rfl

theorem State.Completed.queue : t.queue = (s.store.found.checkpoint.map CheckpointArea.queue).getD [] := by
  rw [h.frame, State.announced_frame]; rfl

theorem State.Completed.batch : t.batch = s.store.found.batch := by
  rw [h.frame, State.announced_frame]; rfl

theorem State.Completed.batchSeq : t.batchSeq = s.store.found.batchSeq := by
  rw [h.frame, State.announced_frame]; rfl

theorem State.Completed.history : t.history = s.store.found.history := by
  rw [h.frame, State.announced_frame]; rfl

theorem State.Completed.prover : t.prover = { s.prover with
    baseVolume := (s.store.found.parameters.map ParameterArea.baseVolume).getD 0 } := by
  rw [h.frame, State.announced_frame]; rfl

theorem State.Completed.control : t.control = { ChangeControl.reset with
    nextId := (s.store.found.checkpoint.map CheckpointArea.nextId).getD 1
    changeCount := (s.store.found.parameters.map ParameterArea.changeCount).getD 0 } := by
  rw [h.frame, State.announced_frame]; rfl

theorem State.Completed.sampler : t.sampler = { s.store.found.sampler s.sampler.rcvhi with
    full := (s.store.found.sampler s.sampler.rcvhi).isFull } := by
  have settled : s.settleAll.sampler = s.store.found.sampler s.sampler.rcvhi := by rw [State.settleAll_frame]; rfl
  rw [h.frame]
  show s.announced.sampler = _
  rw [State.announced, Found.announce_frame]
  show s.settleAll.evaluateFull.sampler = _
  rw [State.evaluateFull_sampler, settled]

theorem State.Completed.clock : t.tick = s.tick ∧ t.uptime = s.uptime ∧ t.lines = s.lines := by
  rw [h.frame, State.announced_frame]; exact ⟨rfl, rfl, rfl⟩

theorem State.Completed.totalizer (r : Run) : t.totalizers.get r = s.store.found.totalizer r := by
  rw [h.totalizers, PerRun.get_ofFn]

theorem State.Completed.channel (r : Run) : t.channels.get r = (s.channels.get r).settled s.store.found r := by
  rw [h.channels, PerRun.get_ofFn]

theorem State.Completed.curve (r : Run) : t.curves.get r = s.store.found.curve r := by
  rw [h.curves, PerRun.get_ofFn]

end

end

end Sys2Proof.Machine
end

section
/-! PROOFS. The blocks after a restore, one by one (R24, R34, R35, R50, R78, R82, R97, R160, R184 to R190), and the settled statement. -/

namespace Sys2Proof.Machine

section
variable {s t : State} (h : s.Completed t)
include h

/-! ### Custody parameters (R50, R190 step 1) -/

theorem State.Completed.captureParameters : t.captureParameters = {
    kx := .ofFn s.store.found.kx
    curves := .ofFn s.store.found.curve
    baseVolume := (s.store.found.parameters.map ParameterArea.baseVolume).getD 0
    setup := s.store.found.parameters.bind ParameterArea.setup
    changeCount := (s.store.found.parameters.map ParameterArea.changeCount).getD 0 } := by
  have kx : (fun r => (t.totalizers.get r).kx) = s.store.found.kx := funext fun r => by rw [h.totalizer]; rfl
  rw [State.captureParameters, kx, h.curves, h.prover, h.control, h.sampler]
  rfl

theorem State.Completed.parameters_some {a : ParameterArea} (found : s.store.found.parameters = some a) :
    t.captureParameters = a := by
  have kx : PerRun.ofFn s.store.found.kx = a.kx := PerRun.ext_get fun r => by simp [Found.kx, found]
  have curves : PerRun.ofFn s.store.found.curve = a.curves := PerRun.ext_get fun r => by simp [Found.curve, found]
  rw [h.captureParameters, kx, curves, found]
  rfl

theorem State.Completed.parameters_none (absent : s.store.found.parameters = none) :
    t.captureParameters = ⟨.all 0, .all [], 0, none, 0⟩ := by
  have kx : PerRun.ofFn s.store.found.kx = .all 0 := PerRun.ext_get fun r => by simp [Found.kx, absent]
  have curves : PerRun.ofFn s.store.found.curve = .all [] := PerRun.ext_get fun r => by simp [Found.curve, absent]
  rw [h.captureParameters, kx, curves, absent]
  rfl

omit h in
theorem Found.run_some {f : Found} {a : CheckpointArea} (found : f.checkpoint = some a) (r : Run) :
    f.run r = a.runs.get r := by simp [Found.run, found]

omit h in
theorem Found.run_none {f : Found} (absent : f.checkpoint = none) (r : Run) : f.run r = .absent := by
  simp [Found.run, absent]

omit h in
theorem Found.enables_iff (f : Found) (r : Run) : f.enables r = true ↔ (f.run r).enabled = true ∧ f.kx r ≠ 0 := by
  simp [Found.enables]

/-! ### Channels (R24) -/

/-- The channel of a run that is restored as enabled. -/
theorem State.Completed.enabled_channel {r : Run} (enables : s.store.found.enables r = true) :
    t.channels.get r = { (s.channels.get r).settleEnabled (s.store.found.run r) with runState := .standby } := by
  rw [h.channel]; exact if_pos enables

/-- The channel of a run that is restored as disabled. -/
theorem State.Completed.disabled_channel {r : Run} (disables : s.store.found.enables r = false) :
    t.channels.get r = (s.channels.get r).settleDisabled (s.store.found.run r) := by
  rw [h.channel]; exact if_neg (by simp [disables])

/-- What settling leaves of a channel, enabled or not. -/
theorem State.Completed.channel_kept (r : Run) :
    (t.channels.get r).direction = (s.channels.get r).direction ∧ (t.channels.get r).pair = (s.channels.get r).pair ∧
    (t.channels.get r).tracking = (s.channels.get r).tracking ∧
    (t.channels.get r).deadline = (s.channels.get r).deadline ∧ (t.channels.get r).degraded = false ∧
    (t.channels.get r).cutoff = (s.store.found.run r).cutoff ∧ (t.channels.get r).limit = (s.store.found.run r).limit := by
  cases enables : s.store.found.enables r
  · rw [h.disabled_channel enables]; exact ⟨rfl, rfl, rfl, rfl, rfl, rfl, rfl⟩
  · rw [h.enabled_channel enables]; exact ⟨rfl, rfl, rfl, rfl, rfl, rfl, rfl⟩

/-- A run restored as enabled: its live window, carried window and history go on, its held counts join the checkpoint's. -/
theorem State.Completed.enabled_run {r : Run} (enables : s.store.found.enables r = true) :
    let k := s.store.found.run r
    (t.channels.get r).runState = .standby ∧ (t.channels.get r).offlinePulses = k.offlinePulses ∧
    (t.channels.get r).history = (s.channels.get r).history ∧ (t.channels.get r).carried = (s.channels.get r).carried ∧
    (t.channels.get r).window = (s.channels.get r).window ∧
    (t.channels.get r).cumulative = {
      reverse := min (k.cumulative.reverse + (s.channels.get r).held.reverse) 4294967295
      aMissing := min (k.cumulative.aMissing + (s.channels.get r).held.aMissing) 4294967295
      bMissing := min (k.cumulative.bMissing + (s.channels.get r).held.bMissing) 4294967295
      coincident := min (k.cumulative.coincident + (s.channels.get r).held.coincident) 4294967295
      dither := min (k.cumulative.dither + (s.channels.get r).held.dither) 4294967295 } ∧
    (∀ p, ((t.ports.get p).events.get .runState).flag = true) ∧
    (0 < (s.channels.get r).carried.faults.reverse → ∀ p, ((t.ports.get p).events.get .reverse).flag = true) := by
  intro k
  obtain ⟨runState, reverse, -⟩ := h.started r
  rw [h.enabled_channel enables]
  exact ⟨rfl, rfl, rfl, rfl, rfl, rfl, runState enables, reverse enables⟩

/-- A run restored as disabled is OFFLINE, and its held forward pulses join the offline count. -/
theorem State.Completed.disabled_run {r : Run} (disables : s.store.found.enables r = false) :
    let k := s.store.found.run r
    let pulses := (s.channels.get r).carried.pulses + (s.channels.get r).window.pulses
    (t.channels.get r).runState = .offline ∧ (t.channels.get r).cumulative = k.cumulative ∧
    (t.channels.get r).offlinePulses = min (k.offlinePulses + pulses) 4294967295 ∧ (t.channels.get r).history = [] ∧
    (t.channels.get r).window = .zero ∧ (t.channels.get r).carried = .zero ∧
    (0 < pulses → (t.channels.get r).offlineSeen = true ∧
      ∀ p, ((t.ports.get p).events.get .offlinePulses).flag = true) := by
  intro k pulses
  rw [h.disabled_channel disables]
  exact ⟨rfl, rfl, rfl, rfl, rfl, rfl, fun held => ⟨decide_eq_true held, (h.started r).offline disables held⟩⟩

/-! ### Totalizers (R34, R35) -/

theorem State.Completed.remainders (r : Run) :
    let k := s.store.found.run r
    let kx := (t.totalizers.get r).kx
    (kx ≠ 0 ∧ kx = k.kx → (t.totalizers.get r).indicatedRemainder = k.indicatedRemainder ∧
      (t.totalizers.get r).grossRemainder = k.grossRemainder) ∧
    (¬ (kx ≠ 0 ∧ kx = k.kx) → (t.totalizers.get r).indicatedRemainder = 0 ∧
      (t.totalizers.get r).grossRemainder = 0) := by
  intro k kx
  have set : kx = s.store.found.kx r := by rw [show kx = (t.totalizers.get r).kx from rfl, h.totalizer]; rfl
  rw [set, h.totalizer]
  refine ⟨fun same => ?_, fun other => ?_⟩
  · exact ⟨if_pos (decide_eq_true same), if_pos (decide_eq_true same)⟩
  · have no : ¬ decide (s.store.found.kx r ≠ 0 ∧ s.store.found.kx r = (s.store.found.run r).kx) = true :=
      fun same => other (of_decide_eq_true same)
    exact ⟨if_neg no, if_neg no⟩

/-! ### The batch and its counter (R78, R82) -/

/-- The checkpoint's batch is resumed unless a marked record shows it closed (R82). -/
theorem State.Completed.batch_resumed {a : CheckpointArea} {b : OpenBatch} (found : s.store.found.checkpoint = some a)
    (opened : a.batch = some b) (below : ∀ q, some q ∈ s.store.slots → q.seq < a.batchSeq) :
    t.batch = some { b with flags := { b.flags with powerInterrupted := true } } ∧
    t.sampler.counts = { a.grabs with overflow := a.grabs.overflow + a.ownPending } := by
  have resumed : s.store.found.batch = some { b with flags := { b.flags with powerInterrupted := true } } := by
    have all : s.store.found.records.all (fun x => decide (x.seq < a.batchSeq)) = true :=
      List.all_eq_true.2 fun q hq => decide_eq_true (below q (mem_sortedRecords.1 hq))
    simp only [Found.batch, found, Option.bind_some, if_pos all, opened, Option.map_some]
  refine ⟨h.batch.trans resumed, ?_⟩
  rw [h.sampler]
  show s.store.found.grabs = _
  rw [Found.grabs, found, resumed]

omit h in
theorem Found.grabs_of_no_batch {f : Found} (idle : f.batch = none) : f.grabs = ⟨0, 0, 0, 0, 0, 0⟩ := by
  rw [Found.grabs, idle]
  cases f.checkpoint <;> rfl

/-- With no batch to resume the batch controller is idle, and the sampler's counts are 0 (R82, R160). -/
theorem State.Completed.batch_none (idle : s.store.found.batch = none) :
    t.batch = none ∧ t.sampler.counts = ⟨0, 0, 0, 0, 0, 0⟩ := by
  refine ⟨h.batch.trans idle, ?_⟩
  rw [h.sampler]
  exact Found.grabs_of_no_batch idle

omit h in
theorem Found.batch_of_none {f : Found} (absent : f.checkpoint = none) : f.batch = none := by
  simp [Found.batch, absent]

omit h in
theorem Found.batch_of_idle {f : Found} {a : CheckpointArea} (found : f.checkpoint = some a) (idle : a.batch = none) :
    f.batch = none := by
  simp [Found.batch, found, idle]

omit h in
theorem Store.found_batch_stale {x : Store} {a : CheckpointArea} {q : BatchRecord} (found : x.found.checkpoint = some a)
    (held : some q ∈ x.slots) (stale : a.batchSeq ≤ q.seq) : x.found.batch = none := by
  have some_above : ¬ x.found.records.all (fun y => decide (y.seq < a.batchSeq)) = true := fun all => by
    have below := of_decide_eq_true (List.all_eq_true.1 all q (mem_sortedRecords.2 held))
    omega
  simp only [Found.batch, found, Option.bind_some, if_neg some_above]

theorem State.Completed.batchSeq_eq : t.batchSeq = max ((s.store.found.checkpoint.map CheckpointArea.batchSeq).getD 1)
    ((s.store.found.newest.map fun x => x.seq + 1).getD 1) := h.batchSeq

/-! ### The sampler (R160) -/

omit h in
/-- The full indication is that of R152. -/
theorem Sampler.isFull_iff (x : Sampler) : x.isFull = true ↔ x.receiverFull := by
  unfold Sampler.isFull Sampler.receiverFull Sampler.committed
  cases x.setup <;> simp

theorem State.Completed.receiverFull : t.sampler.full = true ↔ t.sampler.receiverFull := by
  rw [h.sampler]
  exact Sampler.isFull_iff _

/-- The sampler's setting and figures, from the checkpoint or without one. -/
theorem State.Completed.sampler_some {a : CheckpointArea} (found : s.store.found.checkpoint = some a) :
    t.sampler.activeLow = a.activeLow ∧ t.sampler.width = a.width ∧
    (t.sampler.setup = none → t.sampler.volume = 0 ∧ t.sampler.fill = a.fill) ∧
    ∀ u, t.sampler.setup = some u → t.sampler.fill = min a.fill u.capacity ∧
      (a.setupSet = true → a.volume < u.interval → t.sampler.volume = a.volume) ∧
      (a.setupSet = false ∨ u.interval ≤ a.volume → t.sampler.volume = 0) := by
  rw [h.sampler]
  simp only [Found.sampler, Found.volume, Found.fill, found, Option.map_some, Option.getD_some]
  refine ⟨trivial, trivial, fun unset => ?_, fun u set => ?_⟩
  · rw [unset]; exact ⟨rfl, rfl⟩
  · rw [set]
    refine ⟨rfl, fun known below => if_pos ⟨known, below⟩, fun without => if_neg ?_⟩
    rintro ⟨known, below⟩
    rcases without with unknown | above
    · rw [known] at unknown; cases unknown
    · omega

theorem State.Completed.sampler_none (absent : s.store.found.checkpoint = none) :
    t.sampler.activeLow = false ∧ t.sampler.width = 100 ∧ t.sampler.volume = 0 ∧ t.sampler.fill = 0 := by
  rw [h.sampler]
  simp only [Found.sampler, Found.volume, Found.fill, absent, Option.map_none, Option.getD_none]
  cases s.store.found.parameters.bind ParameterArea.setup <;> simp

/-! ### History (R97) -/

theorem State.Completed.cursors (p : Port) : t.history.cursors.get p = t.oldestSeq ∧ t.history.lost.get p = 0 := by
  have oldest : t.oldestSeq = ((s.store.found.ring.head?).map fun e => e.record.seq).getD s.store.found.batchSeq := by
    rw [State.oldestSeq, h.history, h.batchSeq, History.seqs, List.head?_map]
    rfl
  rw [oldest, h.history]
  simp [Found.history]

/-! ### The store (R184 to R188) -/

omit h in
theorem Copies.eq_of_newest_none {α : Type} {c : Copies α} (absent : c.newest = none) : c = ⟨none, none⟩ := by
  obtain ⟨first, second⟩ := c
  cases first <;> cases second <;> simp only [Copies.newest] at absent
  · rfl
  · cases absent
  · cases absent
  · split at absent <;> cases absent

omit h in
/-- With no marked copy a job writes the first, with write count 1 (log entry 17). -/
theorem Copies.nextWrite_none {α : Type} : (⟨none, none⟩ : Copies α).nextWrite false 1 := by
  refine ⟨fun x y e => ?_, fun x e => ?_, fun y e => ?_, fun _ => ⟨rfl, rfl⟩⟩ <;> cases e

/-- The restore's own CHECKPOINT begins at once, where none was found. -/
theorem State.Completed.begins (absent : s.store.found.checkpoint = none) (unwarned : s.store.pfailActive = false) :
    jobBegins { t with store := { s.store with status := .ready, queue := [.checkpoint] } } t .checkpoint := by
  have copies : s.store.checkpoints = ⟨none, none⟩ := Copies.eq_of_newest_none (Option.map_eq_none_iff.1 absent)
  have store : t.store = s.announced.checkpointBegun [.checkpoint] := by
    rw [h.unwarned unwarned, absent]; rfl
  have captured : s.announced.captureCheckpoint = t.captureCheckpoint := by rw [h.frame]; rfl
  have tick : s.announced.tick = t.tick := by rw [h.frame]
  have uptime : s.announced.uptime = t.uptime := by rw [h.frame]
  rw [State.checkpointBegun, captured, tick, uptime, State.announced_store, copies] at store
  refine ⟨false, 1, by rw [copies]; exact Copies.nextWrite_none, ?_⟩
  have replaced : t = t.setStore _ := congrArg t.setStore store
  rw [copies]
  exact replaced

/-- Without a warning the store writes the restore's own CHECKPOINT, or is READY (R186, R190). -/
theorem State.Completed.goes_on (queue : s.store.queue = []) (powered : s.store.powerFail = false)
    (unwarned : s.store.pfailActive = false) :
    t.store.powerFail = false ∧ t.store.queue = (if s.store.found.checkpoint = none then [.checkpoint] else []) ∧
    (s.store.found.checkpoint ≠ none → t.store = { s.store with
      status := .ready, periodicRef := s.uptime, powerFail := t.store.powerFail }) ∧
    (s.store.found.checkpoint = none → jobBegins { t with store := { s.store with
      status := .ready, queue := [.checkpoint] } } t .checkpoint) := by
  have after := h.unwarned unwarned
  have power : s.announced.store.powerFail = false := by rw [State.announced_store]; exact powered
  cases found : s.store.found.checkpoint with
  | none =>
    rw [found, if_pos Option.isNone_none] at after
    exact ⟨after ▸ power, by rw [after]; rfl, fun known => absurd rfl known, fun _ => h.begins found unwarned⟩
  | some a =>
    rw [found, if_neg (by simp)] at after
    refine ⟨after ▸ power, ?_, fun _ => ?_, fun absent => by cases absent⟩
    · rw [after, State.announced_store]; exact queue
    · rw [after, power, ← powered, State.announced_store]

/-! ### A run's figures, from the checkpoint or without one (R24, R34, R35) -/

theorem State.Completed.lookups (r : Run) : (t.totalizers.get r).lastMf = none ∧
    (t.totalizers.get r).curveChanged = false ∧
    (t.totalizers.get r).curveStatus = (if t.curves.get r = [] then .noCurve else .belowCurve) := by
  rw [h.totalizer, h.curve]
  exact ⟨rfl, rfl, rfl⟩

/-- The totals are the checkpoint's; without one they are the newest record's, or 0 (R34). -/
theorem State.Completed.total_some {a : CheckpointArea} (found : s.store.found.checkpoint = some a) (r : Run) :
    (t.totalizers.get r).total = (a.runs.get r).total := by
  rw [h.totalizer]
  simp [Found.totalizer, Found.total, found]

theorem State.Completed.total_none (absent : s.store.found.checkpoint = none) (r : Run) : (t.totalizers.get r).total =
    (s.store.found.newest.map fun x => (x.runs.get r).closing).getD .zero := by
  rw [h.totalizer]
  simp [Found.totalizer, Found.total, absent]

/-- What a run's totalizer takes of the checkpoint's part of the run. -/
theorem State.Completed.counters (r : Run) :
    (t.totalizers.get r).rollover = (s.store.found.run r).rollover ∧
    (t.totalizers.get r).unbatched = (s.store.found.run r).unbatched ∧
    (t.totalizers.get r).unbatchedSaturated = (s.store.found.run r).unbatchedSaturated ∧
    (t.totalizers.get r).kx = s.store.found.kx r := by
  rw [h.totalizer]
  exact ⟨rfl, rfl, rfl, rfl⟩

/-- Without a checkpoint the totals' loss is announced: they come from the newest record, or are 0 (R34, R190 step 3). -/
theorem State.Completed.totals_lost (slots : slotsLegal s.store.slots) (absent : s.store.found.checkpoint = none)
    (r : Run) :
    (∀ q, some q ∈ s.store.slots → (∀ y, some y ∈ s.store.slots → y.seq ≤ q.seq) →
      (t.totalizers.get r).total = (q.runs.get r).closing ∧ t.announces .totalsFromRecord) ∧
    ((∀ q, some q ∉ s.store.slots) → (t.totalizers.get r).total = .zero ∧ t.announces .totalsLost) := by
  rw [h.total_none absent]
  refine ⟨fun q held max => ?_, fun empty => ?_⟩
  · rw [Store.found_newest_of_max slots held max]
    exact ⟨rfl, h.losses.fromRecord absent (Store.found_records_ne_nil held)⟩
  · have none_found := Store.found_records_eq_nil empty
    rw [Found.newest, none_found]
    exact ⟨rfl, h.losses.lost absent none_found⟩

/-! ### The counter (R78) -/

theorem State.Completed.batchSeq_newest (slots : slotsLegal s.store.slots) {q : BatchRecord}
    (held : some q ∈ s.store.slots) (max : ∀ y, some y ∈ s.store.slots → y.seq ≤ q.seq) :
    (∀ a, s.store.found.checkpoint = some a → t.batchSeq = Nat.max a.batchSeq (q.seq + 1)) ∧
    (s.store.found.checkpoint = none → t.batchSeq = q.seq + 1) := by
  have newest := Store.found_newest_of_max slots held max
  refine ⟨fun a found => ?_, fun absent => ?_⟩
  · rw [h.batchSeq_eq, newest, found]; rfl
  · rw [h.batchSeq_eq, newest, absent]
    exact Nat.max_eq_right (Nat.succ_pos _)

theorem State.Completed.batchSeq_empty (empty : ∀ q, some q ∉ s.store.slots) :
    (∀ a, s.store.found.checkpoint = some a → 1 ≤ a.batchSeq → t.batchSeq = a.batchSeq) ∧
    (s.store.found.checkpoint = none → t.batchSeq = 1) := by
  have newest : s.store.found.newest = none := by
    rw [Found.newest, Store.found_records_eq_nil empty]; rfl
  refine ⟨fun a found started => ?_, fun absent => ?_⟩
  · rw [h.batchSeq_eq, newest, found]
    exact Nat.max_eq_left started
  · rw [h.batchSeq_eq, newest, absent]; rfl

theorem State.Completed.batchSeq_ge {a : CheckpointArea} (found : s.store.found.checkpoint = some a) :
    a.batchSeq ≤ t.batchSeq := by
  rw [h.batchSeq_eq, found]
  exact Nat.le_max_left ..

end

/-- Settles O60: the completed restore, block by block. -/
theorem restoreCompletionRestoresTheBlocks : Obligations.RestoreCompletionRestoresTheBlocks := by
  intro s
  refine ⟨fun ready => if_neg (by simp [ready]), fun restoring legal slots => ?_⟩
  intro area check held
  obtain ⟨queue, -, powered⟩ := legal.idle restoring
  have h := State.completeRestore_completed queue powered
  have done : exec .restoreComplete s = .next s.completeRestore := if_pos restoring
  generalize s.completeRestore = t at h done
  obtain ⟨length, ascending, retained, dropped⟩ := Store.found_ring slots
  obtain ⟨tick, uptime, lines⟩ := h.clock
  refine ⟨t, done, ?_, h.reference, fun a => h.parameters_some, fun absent => ⟨h.parameters_none absent,
    h.losses.parameters absent⟩, h.lookups, fun a (found : s.store.found.checkpoint = some a) => ?_,
    fun (absent : s.store.found.checkpoint = none) => ?_, fun a b found opened =>
    ⟨h.batch_resumed found opened, fun ⟨q, here, stale⟩ => h.batch_none (Store.found_batch_stale found here stale)⟩,
    fun a found idle => h.batch_none (Found.batch_of_idle found idle), fun a => h.batchSeq_ge, fun q here => ?_,
    fun q here max => h.batchSeq_newest slots here max, h.batchSeq_empty, fun a => h.sampler_some, h.sampler_none,
    ?_, ?_, ?_, ?_, h.cursors, ?_, ?_, ?_, ?_, ?_, tick, uptime, lines, fun r => ?_⟩
  · simpa [State.isRestoring] using h.status
  · refine ⟨by rw [h.queue, found]; rfl, by rw [h.control, found]; rfl, fun r => ?_⟩
    have part := Found.run_some found r
    obtain ⟨rollover, unbatched, saturated, kx⟩ := h.counters r
    obtain ⟨same, other⟩ := h.remainders r
    obtain ⟨-, -, -, -, -, cutoff, limit⟩ := h.channel_kept r
    have enables := s.store.found.enables_iff r
    rw [part] at rollover unbatched saturated same other cutoff limit enables
    rw [← kx] at enables
    have enabled := h.enabled_run (r := r)
    have disabled := h.disabled_run (r := r)
    rw [part] at enabled disabled
    refine ⟨h.total_some found r, rollover, unbatched, saturated, same, other, cutoff, limit, fun on set =>
      enabled (enables.2 ⟨on, set⟩), fun off => disabled (Bool.eq_false_iff.2 fun on => ?_)⟩
    obtain ⟨on, set⟩ := enables.1 on
    rcases off with off | unset
    · rw [on] at off; cases off
    · exact set unset
  · have idle := h.batch_none (Found.batch_of_none absent)
    refine ⟨by rw [h.queue, absent]; rfl, idle.1, by rw [h.control, absent]; rfl, idle.2, fun r => ?_⟩
    have part := Found.run_none absent r
    obtain ⟨rollover, unbatched, saturated, -⟩ := h.counters r
    obtain ⟨-, -, -, -, -, cutoff, limit⟩ := h.channel_kept r
    obtain ⟨fromRecord, lost⟩ := h.totals_lost slots absent r
    obtain ⟨off, cumulative, offline, history, window, carried, announced⟩ :=
      h.disabled_run (r := r) (by rw [Found.enables, part]; rfl)
    have zero : (t.totalizers.get r).indicatedRemainder = 0 ∧ (t.totalizers.get r).grossRemainder = 0 := by
      obtain ⟨same, other⟩ := h.remainders r
      rw [part] at same other
      by_cases unset : (t.totalizers.get r).kx = 0
      · exact other fun set => set.1 unset
      · exact other fun set => unset set.2
    rw [part] at rollover unbatched saturated cutoff limit cumulative offline
    rw [show RunCheckpoint.absent.offlinePulses = 0 from rfl, Nat.zero_add] at offline
    exact ⟨cumulative, offline, history, window, carried, announced, saturated, off, cutoff, limit, zero.1, zero.2,
      rollover, unbatched, fromRecord, lost⟩
  · exact Store.found_batchSeq_gt slots here |>.trans_eq h.batchSeq.symm
  · rw [h.history]; exact length
  · rw [h.history]; exact ascending
  · rw [h.history]; exact retained
  · rw [h.history]; exact dropped
  · refine ⟨?_, ?_, ?_, ?_, h.receiverFull⟩ <;> rw [h.sampler] <;> rfl
  · intro warned
    obtain ⟨power, jobs⟩ := h.warned warned
    exact ⟨power, jobs.trans (if_congr Option.isNone_iff_eq_none rfl rfl), h.warning warned⟩
  · exact h.goes_on queue powered
  · rw [h.prover]
  · rw [h.control]; rfl
  · obtain ⟨direction, pair, tracking, deadline, degraded, -, -⟩ := h.channel_kept r
    exact ⟨direction, pair, tracking, deadline, degraded⟩

end Sys2Proof.Machine
end

section
/-! PROOFS. What a point change makes of a curve (R48, R53 to R55). -/

namespace Sys2Proof.Machine

/-! ### The nearest point of the band (R52, R53) -/

theorem freqDistance_comm (f g : Nat) : freqDistance f g = freqDistance g f := Nat.add_comm ..

theorem inBand_iff {f g : Nat} : inBand f g = true ↔ freqDistance g f * 50 ≤ f := by simp [inBand]

/-- One step of the search for the nearest point of a band (R53). -/
def nearer (f : Nat) (best : Option Nat) (p : CurvePoint) : Option Nat :=
  match best with
  | none => some p.freq
  | some g => if freqDistance p.freq f < freqDistance g f then some p.freq else some g

theorem nearestInBand_eq (f : Nat) (points : List CurvePoint) :
    nearestInBand f points = (points.filter fun p => inBand f p.freq).foldl (nearer f) none := rfl

/-- From a point on, the search ends at that point or one of the list, and at none farther off than any of them. -/
theorem foldl_nearer_some (f g : Nat) (l : List CurvePoint) :
    ∃ h, l.foldl (nearer f) (some g) = some h ∧ (h = g ∨ ∃ p ∈ l, p.freq = h) ∧
      freqDistance h f ≤ freqDistance g f ∧ ∀ p ∈ l, freqDistance h f ≤ freqDistance p.freq f := by
  induction l generalizing g with
  | nil => exact ⟨g, rfl, .inl rfl, Nat.le_refl _, nofun⟩
  | cons p l ih =>
    by_cases closer : freqDistance p.freq f < freqDistance g f
    · obtain ⟨h, e, source, low, all⟩ := ih p.freq
      refine ⟨h, by rw [List.foldl_cons, nearer, if_pos closer]; exact e, .inr ?_, by omega, ?_⟩
      · rcases source with rfl | ⟨q, hq, rfl⟩
        · exact ⟨p, List.mem_cons_self, rfl⟩
        · exact ⟨q, List.mem_cons_of_mem _ hq, rfl⟩
      · rintro q (_ | ⟨_, hq⟩)
        · exact low
        · exact all q hq
    · obtain ⟨h, e, source, low, all⟩ := ih g
      refine ⟨h, by rw [List.foldl_cons, nearer, if_neg closer]; exact e, ?_, low, ?_⟩
      · rcases source with rfl | ⟨q, hq, rfl⟩
        · exact .inl rfl
        · exact .inr ⟨q, List.mem_cons_of_mem _ hq, rfl⟩
      · rintro q (_ | ⟨_, hq⟩)
        · omega
        · exact all q hq

/-- The search finds a point of the band that is nearest, or the band holds none (R53). -/
theorem nearestInBand_cases (f : Nat) (points : List CurvePoint) :
    (nearestInBand f points = none ∧ ∀ p ∈ points, inBand f p.freq = false) ∨
    ∃ q ∈ points, nearestInBand f points = some q.freq ∧ inBand f q.freq = true ∧
      ∀ p ∈ points, inBand f p.freq = true → freqDistance q.freq f ≤ freqDistance p.freq f := by
  have member (p : CurvePoint) := List.mem_filter (p := fun p => inBand f p.freq) (x := p) (as := points)
  rw [nearestInBand_eq]
  cases band : points.filter fun p => inBand f p.freq with
  | nil =>
    refine .inl ⟨rfl, fun p hp => ?_⟩
    simpa using List.filter_eq_nil_iff.1 band p hp
  | cons x l =>
    rw [band] at member
    obtain ⟨h, e, source, low, all⟩ := foldl_nearer_some f x.freq l
    have found : ∃ q ∈ x :: l, q.freq = h := by
      rcases source with rfl | ⟨q, hq, rfl⟩
      · exact ⟨x, List.mem_cons_self, rfl⟩
      · exact ⟨q, List.mem_cons_of_mem _ hq, rfl⟩
    obtain ⟨q, hq, rfl⟩ := found
    obtain ⟨here, near⟩ := (member q).1 hq
    refine .inr ⟨q, here, e, near, fun p hp hb => ?_⟩
    rcases (member p).2 ⟨hp, hb⟩ with _ | ⟨_, hp⟩
    · exact low
    · exact all p hp

/-! ### Every outcome is a curve of R48 -/

/-- A point put in the place of the nearest of its band keeps the frequencies ascending: a point between them would be
nearer (R53). -/
theorem legalCurve.replace {points : List CurvePoint} (h : legalCurve points) {x q : CurvePoint} (hx : x.legal)
    (band : inBand x.freq q.freq = true)
    (nearest : ∀ p ∈ points, inBand x.freq p.freq = true → freqDistance q.freq x.freq ≤ freqDistance p.freq x.freq) :
    legalCurve (points.map fun p => if p.freq = q.freq then x else p) := by
  obtain ⟨size, ascending, legal⟩ := h
  have apart (p : CurvePoint) (hp : p ∈ points) :
      (p.freq < q.freq → p.freq < x.freq) ∧ (q.freq < p.freq → x.freq < p.freq) := by
    have low := nearest p hp
    rw [inBand_iff] at band low
    unfold freqDistance at band low
    omega
  refine ⟨by simpa using size, List.pairwise_map.2 (ascending.imp_of_mem fun {a b} ha hb less => ?_), fun p hp => ?_⟩
  · have hxa := (apart a ha).1
    have hxb := (apart b hb).2
    by_cases ea : a.freq = q.freq
    · rw [if_pos ea, if_neg (by omega)]
      exact hxb (by omega)
    · rw [if_neg ea]
      by_cases eb : b.freq = q.freq
      · rw [if_pos eb]
        exact hxa (by omega)
      · rw [if_neg eb]
        exact less
  · obtain ⟨y, hy, rfl⟩ := List.mem_map.1 hp
    split
    · exact hx
    · exact legal y hy

theorem mem_insertPoint {x p : CurvePoint} {points : List CurvePoint} :
    p ∈ insertPoint x points ↔ p = x ∨ p ∈ points := by
  induction points with
  | nil => simp [insertPoint]
  | cons q l ih =>
    unfold insertPoint
    split
    · simp
    · rw [List.mem_cons, ih, List.mem_cons]; tauto

theorem insertPoint_length (x : CurvePoint) (points : List CurvePoint) :
    (insertPoint x points).length = points.length + 1 := by
  induction points with
  | nil => rfl
  | cons q l ih => unfold insertPoint; split <;> simp [ih]

/-- A point of a new frequency joins at its place (R54). -/
theorem insertPoint_ascending {x : CurvePoint} {points : List CurvePoint}
    (h : points.Pairwise fun p q => p.freq < q.freq) (new : ∀ p ∈ points, p.freq ≠ x.freq) :
    (insertPoint x points).Pairwise fun p q => p.freq < q.freq := by
  induction points with
  | nil => exact List.pairwise_singleton _ _
  | cons q l ih =>
    obtain ⟨first, rest⟩ := List.pairwise_cons.1 h
    have other := new q List.mem_cons_self
    unfold insertPoint
    split
    · rename_i less
      refine List.pairwise_cons.2 ⟨fun p hp => ?_, h⟩
      rcases hp with _ | ⟨_, hp⟩
      · exact less
      · exact less.trans (first p hp)
    · refine List.pairwise_cons.2 ⟨fun p hp => ?_, ih rest fun p hp => new p (List.mem_cons_of_mem _ hp)⟩
      rcases mem_insertPoint.1 hp with rfl | hp
      · omega
      · exact first p hp

theorem legalCurve.insert {points : List CurvePoint} (h : legalCurve points) {x : CurvePoint} (hx : x.legal)
    (room : points.length < 8) (new : ∀ p ∈ points, p.freq ≠ x.freq) : legalCurve (insertPoint x points) := by
  obtain ⟨-, ascending, legal⟩ := h
  refine ⟨by rw [insertPoint_length]; omega, insertPoint_ascending ascending new, fun p hp => ?_⟩
  rcases mem_insertPoint.1 hp with rfl | hp
  · exact hx
  · exact legal p hp

/-- A point of the curve's own frequency lies in its band (R52). -/
theorem inBand_self (f : Nat) : inBand f f = true := inBand_iff.2 (by simp [freqDistance])

/-- An applied point leaves a curve (R48, R53, R54). -/
theorem legalCurve.applyPoint {points l : List CurvePoint} (h : legalCurve points) {x : CurvePoint} (hx : x.legal)
    (e : applyPoint x points = .ok l) : legalCurve l := by
  unfold Machine.applyPoint at e
  obtain ⟨none, far⟩ | ⟨q, -, found, band, nearest⟩ := nearestInBand_cases x.freq points
  · rw [none] at e
    dsimp only at e
    split at e <;> cases e
    rename_i room
    refine h.insert hx room fun p hp same => ?_
    have := far p hp
    rw [same, inBand_self] at this
    cases this
  · rw [found] at e
    cases e
    exact h.replace hx band nearest

/-- A deletion leaves a curve (R48, R55). -/
theorem legalCurve.deletePoint {points l : List CurvePoint} (h : legalCurve points) {f : Nat}
    (e : deletePoint f points = .ok l) : legalCurve l := by
  obtain ⟨size, ascending, legal⟩ := h
  unfold Machine.deletePoint at e
  split at e <;> cases e
  exact ⟨(List.length_filter_le ..).trans size, ascending.filter _, fun p hp => legal p (List.mem_of_mem_filter hp)⟩

end Sys2Proof.Machine
end

section
/-! PROOFS. Custody parameters (R44, R48, R101, R129, R149): what the operations of the store, of the batch and of the window
computation keep of their ranges. -/

namespace Sys2Proof.Machine

/-! ### The invariant, part by part -/

/-- Every parameter area that the store holds or is writing is within its ranges. -/
structure Store.KeepsParameters (x : Store) : Prop where
  first   : ∀ m, x.parameters.first = some m → m.contents.legal
  second  : ∀ m, x.parameters.second = some m → m.contents.legal
  writing : ∀ w m b, x.writing = some w → w.payload = .parameters m b → m.contents.legal

theorem Store.keepsParameters_iff {x : Store} : x.KeepsParameters ↔ x.everyParameters ParameterArea.legal :=
  ⟨fun ⟨first, second, writing⟩ => ⟨⟨first, second⟩, writing⟩, fun ⟨⟨first, second⟩, writing⟩ => ⟨first, second, writing⟩⟩

/-- The parts of `State.custodyLegal`. -/
structure State.CustodyKept (s : State) : Prop where
  parameters : s.captureParameters.legal
  store      : s.store.KeepsParameters
  proposals  : ∀ p, some p ∈ s.control.slots → p.change.legal
  results    : ∀ r x, s.prover.results.get r = some x → x.endState = .resultPass → legalFactor x.mf

section
variable {s t : State} {x : Store}

theorem State.custodyLegal_iff : s.custodyLegal ↔ s.CustodyKept :=
  ⟨fun ⟨parameters, store, proposals, results⟩ => ⟨parameters, Store.keepsParameters_iff.2 store, proposals, results⟩,
    fun ⟨parameters, store, proposals, results⟩ => ⟨parameters, Store.keepsParameters_iff.1 store, proposals, results⟩⟩

/-- The parameter area that a write would take, by the blocks that own its parts (R184). -/
theorem State.captureParameters_congr (hk : ∀ r, (t.totalizers.get r).kx = (s.totalizers.get r).kx)
    (hc : t.curves = s.curves) (hb : t.prover.baseVolume = s.prover.baseVolume) (hu : t.sampler.setup = s.sampler.setup)
    (hn : t.control.changeCount = s.control.changeCount) : t.captureParameters = s.captureParameters := by
  simp only [State.captureParameters, hk, hc, hb, hu, hn]

/-- A change of the store alone. -/
theorem State.CustodyKept.of_store (h : s.CustodyKept) (hp : t.captureParameters = s.captureParameters)
    (hi : t.control.slots = s.control.slots) (hr : t.prover.results = s.prover.results) (hs : t.store.KeepsParameters) :
    t.CustodyKept :=
  ⟨hp ▸ h.parameters, hs, hi ▸ h.proposals, hr ▸ h.results⟩

theorem State.CustodyKept.of_eq (h : s.CustodyKept) (hp : t.captureParameters = s.captureParameters)
    (hi : t.control.slots = s.control.slots) (hr : t.prover.results = s.prover.results) (hs : t.store = s.store) :
    t.CustodyKept := h.of_store hp hi hr (hs ▸ h.store)

/-- A change that leaves every Kx, the curves, the prover, change control, the setup and the store. -/
theorem State.CustodyKept.of_blocks (h : s.CustodyKept) (hk : ∀ r, (t.totalizers.get r).kx = (s.totalizers.get r).kx)
    (hc : t.curves = s.curves) (hp : t.prover = s.prover) (hi : t.control = s.control)
    (hu : t.sampler.setup = s.sampler.setup) (hs : t.store = s.store) : t.CustodyKept :=
  h.of_eq (State.captureParameters_congr hk hc (by rw [hp]) hu (by rw [hi])) (by rw [hi]) (by rw [hp]) hs

theorem State.CustodyKept.raise (h : s.CustodyKept) (c : EventClass) : (s.raise c).CustodyKept := h.of_eq rfl rfl rfl rfl

theorem State.CustodyKept.raiseIf (h : s.CustodyKept) (b : Bool) (c : EventClass) : (s.raiseIf b c).CustodyKept := by
  unfold State.raiseIf
  split
  · exact h.raise c
  · exact h

theorem State.CustodyKept.raiseTimes (h : s.CustodyKept) (c : EventClass) (n : Nat) :
    (State.raiseTimes c n s).CustodyKept :=
  h.of_blocks (by simp) (by simp) (by simp) (by simp) (by simp) (by simp)

theorem State.CustodyKept.raiseRetention (h : s.CustodyKept) (c : RetentionCause) : (s.raiseRetention c).CustodyKept :=
  h.of_eq rfl rfl rfl rfl

theorem State.CustodyKept.respond (h : s.CustodyKept) (p : Port) (echo : Byte) (a : Answer) :
    (s.respond p echo a).CustodyKept := h.of_eq rfl rfl rfl rfl

theorem State.CustodyKept.setChannel (h : s.CustodyKept) (r : Run) (c : Channel) : (s.setChannel r c).CustodyKept :=
  h.of_eq rfl rfl rfl rfl

theorem State.CustodyKept.setBatch (h : s.CustodyKept) (b : Option OpenBatch) : (s.setBatch b).CustodyKept :=
  h.of_eq rfl rfl rfl rfl

/-! ### The write queue (R184 to R189) -/

/-- The store's changes that leave the parameter area and the job in progress. -/
theorem State.CustodyKept.setStore (h : s.CustodyKept) (hx : x.KeepsParameters) : (s.setStore x).CustodyKept :=
  h.of_store rfl rfl rfl hx

theorem Store.KeepsParameters.of_eq {y : Store} (h : x.KeepsParameters) (hp : y.parameters = x.parameters)
    (hw : y.writing = x.writing) : y.KeepsParameters :=
  ⟨hp ▸ h.first, hp ▸ h.second, hw ▸ h.writing⟩

/-- A job that writes no parameter area. -/
theorem Store.KeepsParameters.write_other {y : Store} (h : x.KeepsParameters) (hp : y.parameters = x.parameters)
    (hw : ∀ w m b, y.writing = some w → w.payload ≠ .parameters m b) : y.KeepsParameters :=
  ⟨hp ▸ h.first, hp ▸ h.second, fun w m b e ep => absurd ep (hw w m b e)⟩

/-- A PARAMETERS job erases a copy, and writes the parameters of its event (R184). -/
theorem Store.KeepsParameters.write_parameters (h : x.KeepsParameters) {a : ParameterArea} (ha : a.legal) (second : Bool)
    (count : Nat) (endsAt : Tick) : Store.KeepsParameters { x with
      status := .writing, parameters := x.parameters.erase second
      writing := some ⟨.parameters ⟨count, a⟩ second, endsAt⟩ } := by
  have wrote : ∀ w m b, some (⟨.parameters ⟨count, a⟩ second, endsAt⟩ : Writing) = some w →
      w.payload = .parameters m b → m.contents.legal := by
    rintro _ _ _ ⟨⟩ ⟨⟩
    exact ha
  cases second
  · exact ⟨fun _ hm => absurd hm.symm (Option.some_ne_none _), h.second, wrote⟩
  · exact ⟨h.first, fun _ hm => absurd hm.symm (Option.some_ne_none _), wrote⟩

theorem State.CustodyKept.beginJob (h : s.CustodyKept) : s.beginJob.CustodyKept := by
  have held := h.store
  unfold State.beginJob
  dsimp only
  split
  · exact h.setStore (held.write_other rfl fun _ _ _ e => absurd e.symm (Option.some_ne_none _))
  · exact h.setStore (held.write_parameters h.parameters _ _ _)
  · exact h.setStore (held.write_other rfl fun w m b e => by cases e; exact nofun)
  · split
    · refine h.of_store ?_ (by simp) (by simp) ?_
      · exact State.captureParameters_congr (by simp) (by simp) (by simp) (by simp) (by simp)
      · rw [State.raiseRetentionTimes_store]
        exact held.write_other rfl fun w m b e => by cases e; exact nofun
    · exact h.setStore (held.write_other rfl fun w m b e => by cases e; exact nofun)

theorem State.CustodyKept.joinQueue (h : s.CustodyKept) (j : Job) : (s.joinQueue j).CustodyKept := by
  have joined : (s.setStore { s.store with queue := s.store.queue ++ [j] }).CustodyKept :=
    h.setStore (h.store.of_eq rfl rfl)
  unfold State.joinQueue
  dsimp only
  split
  · exact joined.beginJob
  · exact joined

theorem State.CustodyKept.requestRecord (h : s.CustodyKept) (r : BatchRecord) : (s.requestRecord r).CustodyKept := by
  unfold State.requestRecord
  split
  · exact h.joinQueue _
  · exact h.of_eq rfl rfl rfl rfl

theorem State.CustodyKept.requestParameters (h : s.CustodyKept) : s.requestParameters.CustodyKept := by
  have owed : (s.setStore { s.store with owedParameters := true }).CustodyKept := h.setStore (h.store.of_eq rfl rfl)
  unfold State.requestParameters
  split
  · exact owed
  · split
    · exact h
    · split
      · exact h.joinQueue _
      · exact owed

theorem State.CustodyKept.requestCheckpoint (h : s.CustodyKept) : s.requestCheckpoint.CustodyKept := by
  unfold State.requestCheckpoint
  split
  · exact h
  · split
    · exact h.joinQueue _
    · exact h.setStore (h.store.of_eq rfl rfl)

theorem Store.KeepsParameters.joinOwed (h : x.KeepsParameters) : x.joinOwed.KeepsParameters := by
  unfold Store.joinOwed
  dsimp only
  split <;> split <;> exact h.of_eq rfl rfl

theorem State.CustodyKept.afterCompletion (h : s.CustodyKept) : s.afterCompletion.CustodyKept := by
  unfold State.afterCompletion
  split
  · exact h.setStore (h.store.write_other rfl fun _ _ _ e => absurd e.symm (Option.some_ne_none _))
  · exact h.beginJob

/-- A marker put in place marks what the job in progress wrote (R184). -/
theorem Store.KeepsParameters.commit (h : x.KeepsParameters) {p : Payload}
    (hp : ∀ m b, p = .parameters m b → m.contents.legal) : (x.commit p).KeepsParameters := by
  cases p with
  | parameters m b =>
    have legal := hp m b rfl
    cases b with
    | false => exact { h with first := by rintro _ ⟨⟩; exact legal }
    | true => exact { h with second := by rintro _ ⟨⟩; exact legal }
  | checkpoint m b => exact h.of_eq rfl rfl
  | record r => exact h.of_eq rfl rfl

theorem execJobComplete_custodyKept (h : s.CustodyKept) (e : execJobComplete s = .next t) : t.CustodyKept := by
  unfold execJobComplete at e
  split at e
  · cases e; exact h
  · rename_i w hw
    have done : Store.KeepsParameters { s.store.commit w.payload with queue := s.store.queue.drop 1, writing := none } :=
      (h.store.commit fun m b hp => h.store.writing w m b hw hp).write_other rfl
        fun _ _ _ e => absurd e.symm (Option.some_ne_none _)
    cases e
    refine State.CustodyKept.afterCompletion (h.of_store rfl rfl rfl ?_)
    dsimp only
    split
    · exact done
    · exact done.joinOwed

theorem State.CustodyKept.actOnPowerFail (h : s.CustodyKept) : s.actOnPowerFail.CustodyKept := by
  have lost (n : Nat) (l : List Nat) {u : State} (hu : u.CustodyKept) :
      (State.raiseRetentionTimes .recordNotRetained n (u.setHistory (u.history.lose l))).CustodyKept :=
    hu.of_blocks (by simp) (by simp) (by simp) (by simp) (by simp) (by simp)
  have dropped (q : List Job) (owed : Bool) :
      (s.setStore { s.store with powerFail := true, queue := q, owedParameters := owed }).CustodyKept :=
    h.setStore (h.store.of_eq rfl rfl)
  unfold State.actOnPowerFail
  split
  · refine State.CustodyKept.raiseRetention ?_ _
    dsimp only
    split
    · exact (lost _ _ (dropped _ _)).joinQueue _
    · exact lost _ _ (dropped _ _)
  · exact h

theorem execPowerFailWarning_custodyKept (h : s.CustodyKept) (e : execPowerFailWarning s = .next t) : t.CustodyKept := by
  unfold execPowerFailWarning at e
  split at e <;> cases e
  · exact h
  · exact State.CustodyKept.actOnPowerFail (h.of_store rfl rfl rfl (h.store.of_eq rfl rfl))

theorem execPowerFailClear_custodyKept (h : s.CustodyKept) (e : execPowerFailClear s = .next t) : t.CustodyKept := by
  unfold execPowerFailClear at e
  have cleared : Store.KeepsParameters { s.store with pfailActive := false, powerFail := false } := h.store.of_eq rfl rfl
  split at e
  · dsimp only at e
    split at e <;> cases e
    · exact State.CustodyKept.beginJob (h.of_store rfl rfl rfl cleared.joinOwed)
    · exact h.of_store rfl rfl rfl cleared
  · cases e; exact h

theorem execPeriodicCheckpoint_custodyKept (h : s.CustodyKept) (e : execPeriodicCheckpoint s = .next t) :
    t.CustodyKept := by
  unfold execPeriodicCheckpoint at e
  split at e <;> cases e
  · exact h.requestCheckpoint
  · exact h

/-! ### The setup stays with the sampler's own operations (R149, R159) -/

@[simp] theorem State.evaluateFull_setup (s : State) : s.evaluateFull.sampler.setup = s.sampler.setup := by
  rw [State.evaluateFull_sampler]

@[simp] theorem State.issueGrab_setup (m : GrabMark) (s : State) : (s.issueGrab m).sampler.setup = s.sampler.setup := by
  simp [State.issueGrab]

@[simp] theorem State.disposeGrab_setup (s : State) : s.disposeGrab.sampler.setup = s.sampler.setup := by
  obtain ⟨_, h⟩ | ⟨_, _, h⟩ | ⟨_, _, _, h⟩ | ⟨_, _, _, _, h⟩ | ⟨_, _, _, _, h⟩ := s.disposeGrab_cases <;> simp [h]

@[simp] theorem State.dueGrab_setup (g : Nat) (s : State) : (s.dueGrab g).sampler.setup = s.sampler.setup := by
  unfold State.dueGrab
  dsimp only
  split <;> simp

@[simp] theorem State.dueGrabs_setup (g n : Nat) (s : State) :
    (State.dueGrabs g n s).sampler.setup = s.sampler.setup := by
  induction n generalizing s with
  | zero => rfl
  | succ n ih =>
    unfold State.dueGrabs
    split
    · rw [ih, State.dueGrab_setup]
    · rfl

@[simp] theorem State.sampleVolume_setup (dG : Nat) (s : State) :
    (s.sampleVolume dG).sampler.setup = s.sampler.setup := by
  unfold State.sampleVolume
  split
  · rfl
  · split <;> simp

/-! ### A batch's close, and a window's hand-off -/

/-- A batch's record and the boundary at the sampler leave the custody parameters (R79, R158). -/
theorem State.CustodyKept.afterAppend (h : s.CustodyKept) (r : BatchRecord) : (s.afterAppend r).CustodyKept :=
  h.of_blocks (by simp [State.afterAppend]) (by simp [State.afterAppend]) (by simp [State.afterAppend])
    (by simp [State.afterAppend]) (by simp [State.afterAppend, Sampler.closeBatch]) (by simp [State.afterAppend])

theorem State.CustodyKept.closeBatch (h : s.CustodyKept) (cause : CloseCause) (overshoot : Nat) (b : OpenBatch) :
    (s.closeBatch cause overshoot b).CustodyKept := by
  rw [State.closeBatch_eq]
  exact (((h.afterAppend _).requestRecord _).requestCheckpoint).raise _

theorem State.CustodyKept.openBatch (h : s.CustodyKept) (plan : Plan) (index remaining : Nat) :
    (s.openBatch plan index remaining).CustodyKept :=
  h.of_blocks (fun r => by simp [State.openBatch, Totalizer.emptyUnbatched]) rfl rfl rfl rfl rfl

theorem State.CustodyKept.openFromQueue (h : s.CustodyKept) (plan : Plan) (rest : List Plan) :
    (s.openFromQueue plan rest).CustodyKept :=
  State.CustodyKept.openBatch (s := s.setQueue rest) (h.of_eq rfl rfl rfl rfl) _ _ _

theorem State.CustodyKept.continueAfter (h : s.CustodyKept) (b : OpenBatch) : (s.continueAfter b).CustodyKept := by
  unfold State.continueAfter
  split
  · exact h
  · split
    · exact h
    · split
      · exact h
      · exact h.openFromQueue _ _
    · split
      · exact h.openBatch _ _ _
      · exact h

theorem State.CustodyKept.testTargets (h : s.CustodyKept) (b : OpenBatch) : (s.testTargets b).CustodyKept := by
  have tested : (s.afterPreTarget b).CustodyKept := (h.setBatch _).raiseIf _ _
  obtain ⟨-, e⟩ | ⟨-, e⟩ := s.testTargets_cases b <;> rw [e]
  · exact (tested.closeBatch _ _ _).continueAfter _
  · exact tested

theorem State.CustodyKept.sampleVolume (h : s.CustodyKept) (dG : Nat) : (s.sampleVolume dG).CustodyKept :=
  h.of_blocks (by simp) (by simp) (by simp) (by simp) (by simp) (by simp)

/-- A totalizer that changes with its Kx as it was. -/
theorem State.CustodyKept.setTotalizer (h : s.CustodyKept) {r : Run} {x : Totalizer}
    (hx : x.kx = (s.totalizers.get r).kx) : (s.setTotalizer r x).CustodyKept := by
  refine h.of_blocks (fun q => ?_) rfl rfl rfl rfl rfl
  rw [State.setTotalizer_totalizers, PerRun.get_set]
  split
  · rename_i e; subst e; exact hx
  · rfl

theorem State.CustodyKept.routeWindow (h : s.CustodyKept) (r : Run) (w : WindowFigures) :
    (s.routeWindow r w).CustodyKept := by
  unfold State.routeWindow
  split
  · exact ((h.setBatch _).sampleVolume _).testTargets _
  · exact h.setTotalizer rfl

theorem State.CustodyKept.computeWindow (h : s.CustodyKept) (r : Run) (f : Nat) (w : WindowCounts) :
    (s.computeWindow r f w).CustodyKept := by
  rw [State.computeWindow_eq]
  exact ((h.setTotalizer (by rw [Totalizer.handed_eq])).raiseIf _ _).routeWindow r _

end

end Sys2Proof.Machine
end

section
/-! PROOFS. Custody parameters through the proposal table, a proving session and a concurrence (R58, R59, R112, R116 to R118, R124
to R126, R129 to R144). -/

namespace Sys2Proof.Machine

section
variable {s t : State}

/-! ### The proposal table (R129 to R144) -/

/-- What `find` answers stands in its slot, under the id that was asked for (R137). -/
theorem ChangeControl.find_some {c : ChangeControl} {id slot : Nat} {x : Proposal} (h : c.find id = some (slot, x)) :
    c.slots[slot]? = some (some x) ∧ x.id = id := by
  obtain ⟨⟨q, i⟩, hq, e⟩ := List.exists_of_findSome?_eq_some h
  obtain ⟨y, rfl, e⟩ := Option.bind_eq_some_iff.1 e
  split at e <;> cases e
  rename_i same
  exact ⟨List.mem_zipIdx_iff_getElem?.1 hq, same⟩

theorem State.CustodyKept.putProposal (h : s.CustodyKept) {y : Proposal} (hy : y.change.legal) (slot : Nat) :
    (s.putProposal slot y).CustodyKept :=
  ⟨h.parameters, h.store, fun p hp => (List.mem_or_eq_of_mem_set hp).elim (h.proposals p) fun e => by cases e; exact hy,
    h.results⟩

/-- PROPOSE takes no change outside its ranges (R129, R133). -/
theorem changeOfArguments_legal {args : List Byte} {c : Change} (h : changeOfArguments args = some c) : c.legal := by
  unfold changeOfArguments at h
  dsimp only at h
  split at h
  · cases h
  · split at h
    · split at h
      · rename_i range
        obtain ⟨r, -, rfl⟩ := Option.map_eq_some_iff.1 h
        simpa [within, Change.legal] using range
      · cases h
    · split at h
      · rename_i range
        obtain ⟨r, -, rfl⟩ := Option.map_eq_some_iff.1 h
        simpa [within, Change.legal, CurvePoint.legal, legalFactor, and_assoc] using range
      · cases h
    · split at h
      · rename_i range
        obtain ⟨r, -, rfl⟩ := Option.map_eq_some_iff.1 h
        simpa [within, Change.legal] using range
      · cases h
    · split at h
      · rename_i range
        cases h
        simpa [within, Change.legal] using range
      · cases h
    · split at h
      · rename_i range
        cases h
        simpa [within, Change.legal, SamplerSetup.legal, and_assoc] using range
      · cases h

theorem State.CustodyKept.postProposal (h : s.CustodyKept) {c : Change} (hc : c.legal) {o : Originator} {d : Bool}
    {id slot : Nat} (e : s.postProposal c o d = some (t, id, slot)) : t.CustodyKept := by
  obtain ⟨-, -, x, rfl, count, slots⟩ := State.postProposal_some e
  have put := h.putProposal (y := s.newProposal c o d) hc slot
  refine put.of_eq ?_ slots rfl rfl
  exact State.captureParameters_congr (fun _ => rfl) rfl rfl rfl count

theorem State.CustodyKept.propose (h : s.CustodyKept) (p : Port) (args : List Byte) :
    (s.propose p args).1.CustodyKept := by
  unfold State.propose
  split
  · exact h
  · rename_i hc
    split
    · exact h
    · rename_i e; exact h.postProposal (changeOfArguments_legal hc) e

theorem State.CustodyKept.reject (h : s.CustodyKept) (p : Port) (id : Nat) : (s.reject p id).1.CustodyKept := by
  unfold State.reject
  split
  · exact h
  · rename_i e
    refine (h.putProposal ?_ _).raise _
    simpa [Proposal.endAs] using h.proposals _ (State.checkVerdict_mem e)

theorem State.CustodyKept.withdraw (h : s.CustodyKept) (p : Port) (id : Nat) : (s.withdraw p id).1.CustodyKept := by
  unfold State.withdraw
  split
  · exact h
  · rename_i slot x e
    have held : (x.endAs .withdrawn s.uptime).change.legal :=
      h.proposals x (List.mem_of_getElem? (ChangeControl.find_some e).1)
    split
    · exact h
    · split
      · exact h
      · exact (h.putProposal held _).raise _

/-- Slots whose proposals keep their changes. -/
theorem State.CustodyKept.mapSlots (h : s.CustodyKept) {f : Option Proposal → Option Proposal}
    (hf : ∀ x y, f x = some y → ∃ z, x = some z ∧ y.change = z.change) :
    (s.setControl { s.control with slots := s.control.slots.map f }).CustodyKept := by
  refine ⟨h.parameters, h.store, fun p hp => ?_, h.results⟩
  obtain ⟨x, hx, e⟩ := List.mem_map.1 hp
  obtain ⟨z, rfl, same⟩ := hf x p e
  exact same ▸ h.proposals z hx

theorem execProposalExpiry_custodyKept (h : s.CustodyKept) (e : execProposalExpiry s = .next t) : t.CustodyKept := by
  cases e
  refine State.CustodyKept.raiseTimes (h.mapSlots fun x y e => ?_) _ _
  obtain ⟨z, rfl, rfl⟩ := Option.map_eq_some_iff.1 e
  exact ⟨z, rfl, by split <;> rfl⟩

/-! ### Results of a proving session (R118, R124 to R126) -/

theorem State.CustodyKept.setSession (h : s.CustodyKept) (x : Session) : (s.setSession x).CustodyKept :=
  h.of_eq rfl rfl rfl rfl

theorem State.CustodyKept.setResult (h : s.CustodyKept) {x : ProvingResult}
    (hx : x.endState = .resultPass → legalFactor x.mf) (r : Run) : (s.setResult r x).CustodyKept := by
  refine ⟨h.parameters, h.store, h.proposals, fun q y hy => ?_⟩
  rw [State.setResult, State.setProver_prover, PerRun.get_set] at hy
  split at hy
  · cases hy; exact hx
  · exact h.results q y hy

/-- A proved factor in range at an admissible frequency makes a legal proposal (R59, R125). -/
theorem State.CustodyKept.offerResult (h : s.CustodyKept) {x : ProvingResult} (hx : legalFactor x.mf) (r : Run) :
    (s.offerResult r x).1.CustodyKept := by
  unfold State.offerResult
  split
  · refine h.setResult ?_ r
    exact fun _ => hx
  · rename_i admissible
    dsimp only
    split
    · refine h.setResult ?_ r
      exact fun _ => hx
    · rename_i e
      have point : (Change.mfPoint r x.freq x.mf).legal := by
        simp only [admissibleFreq, Bool.not_eq_true, Bool.not_eq_false', decide_eq_true_eq] at admissible
        exact ⟨admissible.1, admissible.2, hx⟩
      refine (h.postProposal point e).setResult ?_ r
      exact fun _ => hx

theorem State.CustodyKept.reportProved (h : s.CustodyKept) (r : Run) : (s.reportProved r).CustodyKept := by
  unfold State.reportProved
  split
  · exact h.setBatch _
  · exact h

/-- A session that passes brings a factor in range; one that fails or is aborted brings none (R118, R124). -/
theorem State.CustodyKept.endSession (h : s.CustodyKept) {e : SessionState} {m : Nat}
    (hm : e = .resultPass → legalFactor m) (a : AbortReason) (f : Nat) : (s.endSession e a m f).CustodyKept := by
  have ended (r : Run) (x : Session) : ((s.setSession x).setResult r (s.newResult e a m f)).CustodyKept :=
    (h.setSession x).setResult hm r
  unfold State.endSession
  dsimp only
  split
  · exact (h.setSession _).raise _
  · refine State.CustodyKept.raise ?_ _
    split
    · rename_i posts
      refine State.CustodyKept.offerResult ?_ (hm posts.1) _
      rw [if_pos posts.1]
      exact (ended _ _).reportProved _
    · split
      · exact (ended _ _).reportProved _
      · exact ended _ _

theorem State.CustodyKept.abortSession (h : s.CustodyKept) (a : AbortReason) : (s.abortSession a).CustodyKept := by
  unfold State.abortSession
  dsimp only
  split
  · exact h.endSession (by simp) _ _
  · exact (h.setSession _).endSession (by simp) _ _
  · exact (h.setSession _).endSession (by simp) _ _
  · exact h

theorem State.CustodyKept.setRunState (h : s.CustodyKept) (r : Run) (x : RunState) : (s.setRunState r x).CustodyKept := by
  obtain ⟨-, e⟩ | ⟨-, -, -, e⟩ | ⟨-, -, e⟩ := s.setRunState_cases r x <;> rw [e]
  · exact h
  · exact ((h.setChannel _ _).raise _).abortSession _
  · exact (h.setChannel _ _).raise _

theorem State.CustodyKept.provePost (h : s.CustodyKept) (n : Nat) : (s.provePost n).1.CustodyKept := by
  unfold State.provePost
  split
  · exact h
  · split
    · exact h
    · rename_i r _ _ x hx
      split
      · exact h
      · rename_i may
        have passed : x.endState = .resultPass := by
          by_contra other
          exact may (.inl other)
        have offered := h.offerResult (h.results r x hx passed) r
        split
        · exact h
        · exact h
        · rename_i e; rwa [e] at offered

/-! ### Passes (R110 to R118) -/

/-- The mean of factors in range is in range (R118). -/
theorem legalFactor_meanOf {l : List Nat} (nonempty : l ≠ []) (h : ∀ m ∈ l, legalFactor m) : legalFactor (meanOf l) := by
  have low := List.card_nsmul_le_sum l 900000 fun m hm => (h m hm).1
  have high := List.sum_le_card_nsmul l 1100000 fun m hm => (h m hm).2
  have size : 0 < 2 * l.length := by have := List.length_pos_iff.2 nonempty; omega
  simp only [smul_eq_mul] at low high
  unfold legalFactor meanOf roundDiv
  rw [Nat.le_div_iff_mul_le size, Nat.div_le_iff_le_mul_add_pred size]
  omega

/-- A pass cut short is not VALID (R113, R114, R123). -/
theorem Session.partialRecord_legal (x : Session) {v : Validity} (h : v ≠ .valid) : (x.partialRecord v).legal :=
  fun e => absurd e h

/-- A pass that reaches its stop pulse is VALID only within the bounds of R112. -/
theorem Session.stopRecord_legal (x : Session) (bv kx : Nat) (stamp : Tick) : (x.stopRecord bv kx stamp).legal := by
  have judged {errorMark reverseMark : Bool} {t1 nm mf : Nat} (h : judgePass errorMark reverseMark t1 nm mf = .valid) :
      500000 ≤ t1 ∧ 2 ≤ nm ∧ legalFactor mf := by
    unfold judgePass at h
    split_ifs at h
    unfold legalFactor
    omega
  intro valid
  exact judged valid

/-- The test of P passes ends a session with the mean of P factors in range (R116 to R118). -/
theorem State.CustodyKept.testSession (h : s.CustodyKept) (tests : 1 ≤ s.prover.session.p)
    (passes : ∀ y ∈ s.prover.session.passes, y.legal) (v : Bool) : (s.testSession v).CustodyKept := by
  unfold State.testSession
  dsimp only
  split
  · rename_i l tested
    have valid : l ≠ [] ∧ ∀ m ∈ l.map PassRecord.mf, legalFactor m := by
      split at tested
      · unfold Session.testedPasses at tested
        dsimp only at tested
        split at tested <;> cases tested
        rename_i taken
        obtain ⟨enough, all⟩ := taken
        refine ⟨fun none => ?_, fun m hm => ?_⟩
        · have := List.drop_eq_nil_iff.1 none
          omega
        · obtain ⟨y, hy, rfl⟩ := List.mem_map.1 hm
          have reads := List.all_eq_true.1 all y hy
          exact (passes y (List.mem_of_mem_drop hy) (beq_iff_eq.1 reads)).2.2
      · cases tested
    split
    · exact (h.setSession _).endSession (fun _ => legalFactor_meanOf (by simpa using valid.1) valid.2) _ _
    · split
      · exact (h.setSession _).endSession (by simp) _ _
      · exact h.setSession _
  · split
    · exact h.endSession (by simp) _ _
    · exact h

theorem State.CustodyKept.recordPass (h : s.CustodyKept) (session : s.sessionLegal)
    (active : s.prover.session.state.isActive = true) {y : PassRecord} (hy : y.legal) :
    (s.recordPass y).CustodyKept := by
  obtain ⟨running, -, -, legal⟩ := session
  obtain ⟨-, low, -⟩ := running active
  refine State.CustodyKept.testSession ((h.setSession _).raise _) ?_ (fun z hz => ?_) _
  · exact Nat.le_of_succ_le low
  · rcases List.mem_append.1 hz with hz | hz
    · exact legal z hz
    · cases List.mem_singleton.1 hz; exact hy

theorem State.CustodyKept.awaitDet1 (h : s.CustodyKept) : s.awaitDet1.CustodyKept := by
  unfold State.awaitDet1
  dsimp only
  split
  · exact h.setSession _
  · exact h

theorem State.CustodyKept.pulseInPass (h : s.CustodyKept) (stamp : Tick) : (s.pulseInPass stamp).CustodyKept := by
  unfold State.pulseInPass
  dsimp only
  split
  · exact h.setSession _
  · split
    · exact h.setSession _
    · exact h

theorem State.CustodyKept.pulseInWaitStop (h : s.CustodyKept) (session : s.sessionLegal)
    (active : s.prover.session.state.isActive = true) (r : Run) (stamp : Tick) :
    (s.pulseInWaitStop r stamp).CustodyKept := by
  unfold State.pulseInWaitStop
  dsimp only
  split
  · split
    · exact (h.recordPass session active (Session.stopRecord_legal _ _ _ _)).awaitDet1
    · exact h.setSession _
  · split
    · exact h
    · split
      · exact h.setSession _
      · exact (h.recordPass session active (Session.partialRecord_legal _ (by decide))).awaitDet1

theorem State.CustodyKept.proverCycle (h : s.CustodyKept) (session : s.sessionLegal) (r : Run) (cls : CycleClass)
    (d : Option Direction) (stamp : Tick) : (s.proverCycle r cls d stamp).CustodyKept := by
  have marked (p : PassInProgress) : (s.setPass p).CustodyKept := h.setSession _
  unfold State.proverCycle
  dsimp only
  split
  · split
    · split
      · exact (marked _).pulseInPass _
      · exact marked _
    · rename_i waits
      split
      · have active : s.prover.session.state.isActive = true := by rw [waits]; rfl
        exact State.CustodyKept.pulseInWaitStop (s := s.setPass (s.prover.session.pass.mark cls d)) (marked _) session
          active _ _
      · exact marked _
    · exact h
  · exact h

theorem State.CustodyKept.detectorEvent (h : s.CustodyKept) (session : s.sessionLegal) (d : Detector) (tick : Tick) :
    (s.detectorEvent d tick).CustodyKept := by
  have again (active : s.prover.session.state.isActive = true) :=
    h.recordPass session active (y := s.prover.session.partialRecord .detectorSequence)
      (Session.partialRecord_legal _ (by decide))
  unfold State.detectorEvent
  dsimp only
  split
  case h_5 waits =>
    split
    · exact (again (by rw [waits]; rfl)).setSession _
    · exact again (by rw [waits]; rfl)
  case h_6 waits =>
    split
    · exact (again (by rw [waits]; rfl)).setSession _
    · exact again (by rw [waits]; rfl)
  case h_7 => exact h
  all_goals exact h.setSession _

end

end Sys2Proof.Machine
end

section
/-! PROOFS. Custody parameters through the restore, the commands of the pulse front end and an applied change, and the settled
statement on their ranges (R43, R50, R51, R101, R140, R159, R190). -/

namespace Sys2Proof.Machine

section
variable {s t : State}

/-! ### Reset and the restore (R50, R190) -/

theorem ParameterArea.unset_legal {a : ParameterArea} (hk : ∀ r, a.kx.get r = 0) (hc : ∀ r, a.curves.get r = [])
    (hb : a.baseVolume = 0) (hu : a.setup = none) (hn : a.changeCount = 0) : a.legal := by
  refine ⟨fun r => .inl (hk r), fun r => ?_, .inl hb, fun u e => ?_, ?_⟩
  · rw [hc]; exact ⟨Nat.zero_le _, .nil, nofun⟩
  · rw [hu] at e; cases e
  · rw [hn]; exact Nat.zero_le _

theorem execReset_custodyKept (h : s.CustodyKept) (e : execReset s = .next t) : t.CustodyKept := by
  cases e
  refine ⟨ParameterArea.unset_legal ?_ ?_ rfl rfl rfl, ⟨h.store.first, h.store.second, ?_⟩, fun p hp => ?_,
    fun r x hx => ?_⟩
  · intro r; cases r <;> rfl
  · intro r; cases r <;> rfl
  · exact fun _ _ _ e => absurd e.symm (Option.some_ne_none _)
  · have none : some p ∈ List.replicate 6 (none : Option Proposal) := hp
    exact absurd (List.eq_of_mem_replicate none) (Option.some_ne_none p)
  · cases r <;> cases hx

/-- A parameter area that the restore finds is one that the store holds (R190 step 1). -/
theorem Store.KeepsParameters.found {x : Store} (h : x.KeepsParameters) {a : ParameterArea}
    (ha : x.found.parameters = some a) : a.legal := by
  obtain ⟨m, hm, rfl⟩ := Option.map_eq_some_iff.1 ha
  rcases Copies.newest_mem hm with hm | hm
  · exact h.first m hm
  · exact h.second m hm

/-- The blocks that own a custody parameter take what was found, or are unset (R50, R190 step 1). -/
theorem State.CustodyKept.takeRestored (h : s.CustodyKept) : (s.takeRestored s.store.found).CustodyKept := by
  refine ⟨?_, h.store.of_eq rfl rfl, fun p hp => ?_, h.results⟩
  · cases found : s.store.found.parameters with
    | none =>
      apply ParameterArea.unset_legal <;>
        simp [State.captureParameters, State.takeRestored, Found.totalizer, Found.kx, Found.curve, Found.sampler, found]
    | some a =>
      have restored : (s.takeRestored s.store.found).captureParameters = a := by
        simp only [State.captureParameters, State.takeRestored, Found.totalizer, Found.kx, Found.sampler, found,
          PerRun.get_ofFn, Option.map_some, Option.getD_some, Option.bind_some]
        have kx : PerRun.ofFn a.kx.get = a.kx := PerRun.ext_get fun r => by simp
        have curves : PerRun.ofFn s.store.found.curve = a.curves := PerRun.ext_get fun r => by simp [Found.curve, found]
        rw [kx, curves]
      rw [restored]
      exact h.store.found found
  · have none : some p ∈ List.replicate 6 (none : Option Proposal) := hp
    exact absurd (List.eq_of_mem_replicate none) (Option.some_ne_none p)

theorem State.CustodyKept.announced (h : s.CustodyKept) : s.announced.CustodyKept := by
  have taken := h.takeRestored
  have setup : s.announced.sampler.setup = (s.takeRestored s.store.found).sampler.setup := by
    rw [State.announced, Found.announce_frame]
    simp only [State.evaluateFull_setup]
    rw [State.settleAll_frame]
  refine taken.of_blocks ?_ ?_ ?_ ?_ setup ?_ <;> rw [State.announced_frame]
  exact fun _ => rfl

theorem execRestoreComplete_custodyKept (h : s.CustodyKept) (e : execRestoreComplete s = .next t) : t.CustodyKept := by
  unfold execRestoreComplete at e
  split at e <;> cases e
  · rw [State.completeRestore_eq]
    have announced := h.announced
    dsimp only
    split
    · split
      · exact announced.requestCheckpoint.actOnPowerFail
      · exact announced.requestCheckpoint
    · split
      · exact announced.actOnPowerFail
      · exact announced
  · exact h

/-! ### The pulse front end -/

theorem State.CustodyKept.endBlock (h : s.CustodyKept) (r : Run) (n : Nat) : (s.endBlock r n).CustodyKept :=
  (h.setChannel _ _).raiseIf _ _

theorem State.CustodyKept.advanceBlock (h : s.CustodyKept) (r : Run) (isError : Bool) :
    (s.advanceBlock r isError).CustodyKept := by
  unfold State.advanceBlock
  dsimp only
  split
  · exact h.endBlock _ _
  · exact h.setChannel _ _

theorem State.sessionLegal.of_prover (h : s.sessionLegal) (e : t.prover = s.prover) : t.sessionLegal := by
  unfold State.sessionLegal
  rw [e]
  exact h

theorem State.CustodyKept.countCycle (h : s.CustodyKept) (session : s.sessionLegal) (r : Run) (cls : CycleClass)
    (stamp : Tick) : (s.countCycle r cls stamp).CustodyKept := by
  unfold State.countCycle
  dsimp only
  split
  · exact h.setChannel _ _
  · split
    · exact (h.setChannel _ _).raiseIf _ _
    · exact (((h.setChannel _ _).raiseIf _ _).advanceBlock _ _).proverCycle (session.of_prover (by simp)) _ _ _ _

theorem execEdgeEvent_custodyKept {r : Run} {a b : Bool} {tick : Tick} (h : s.CustodyKept) (session : s.sessionLegal)
    (e : execEdgeEvent r a b tick s = .next t) : t.CustodyKept := by
  have walked (l : Lines) (c : Channel) : ((s.setLines l).setChannel r c).CustodyKept := h.of_eq rfl rfl rfl rfl
  unfold execEdgeEvent at e
  dsimp only at e
  split at e
  · cases e; exact h
  · split at e <;> cases e
    · exact walked _ _
    · refine (walked _ _).countCycle ?_ _ _ _
      exact session

theorem execIntegrityBlockEnd_custodyKept {r : Run} {x : Bool} (h : s.CustodyKept)
    (e : execIntegrityBlockEnd r x s = .next t) : t.CustodyKept := by
  unfold execIntegrityBlockEnd at e
  dsimp only at e
  split at e <;> cases e
  · exact h.endBlock _ _
  · exact h

theorem execWindowExpiry_custodyKept {r : Run} (h : s.CustodyKept) (e : execWindowExpiry r s = .next t) :
    t.CustodyKept := by
  unfold execWindowExpiry at e
  dsimp only at e
  split at e
  · cases e; exact h.setChannel _ _
  · split at e <;> cases e
    · exact h.setChannel _ _
    · exact (((h.setChannel _ _).setChannel _ _).setRunState _ _).computeWindow _ _ _

theorem State.CustodyKept.runEnable (h : s.CustodyKept) (n on : Nat) : (s.runEnable n on).1.CustodyKept := by
  have enabled (r : Run) : (s.enableRun r).1.CustodyKept := by
    unfold State.enableRun
    dsimp only
    split
    · exact h
    · split
      · exact h
      · exact (h.setChannel _ _).setRunState _ _
  have disabled (r : Run) : (s.disableRun r).1.CustodyKept := by
    unfold State.disableRun
    dsimp only
    split
    · exact h
    · exact (((h.setChannel _ _).computeWindow _ _ _).setRunState _ _).setChannel _ _
  unfold State.runEnable
  split
  · exact h
  · split
    · exact disabled _
    · exact enabled _
    · exact h

theorem State.CustodyKept.setCutoff (h : s.CustodyKept) (n hz : Nat) : (s.setCutoff n hz).1.CustodyKept := by
  unfold State.setCutoff
  split
  · exact h
  · exact h.setChannel _ _

theorem State.CustodyKept.setIntegrityLimit (h : s.CustodyKept) (n limit : Nat) :
    (s.setIntegrityLimit n limit).1.CustodyKept := by
  unfold State.setIntegrityLimit
  split
  · exact h
  · exact h.setChannel _ _

theorem State.CustodyKept.batchOpen (h : s.CustodyKept) : s.batchOpen.1.CustodyKept := by
  unfold State.batchOpen
  split
  · exact h
  · split
    · exact h
    · split
      · exact h
      · exact h.openFromQueue _ _

theorem State.CustodyKept.batchClose (h : s.CustodyKept) : s.batchClose.1.CustodyKept := by
  unfold State.batchClose
  split
  · exact h
  · exact h.closeBatch _ _ _

/-! ### An applied change (R43, R51, R101, R140, R159) -/

/-- One custody parameter changed within its range. -/
theorem State.CustodyKept.setKx (h : s.CustodyKept) (r : Run) {x : Totalizer} (hx : legalKx x.kx) :
    (s.setTotalizer r x).CustodyKept := by
  obtain ⟨kx, curves, base, setup, count⟩ := h.parameters
  refine ⟨⟨fun q => ?_, curves, base, setup, count⟩, h.store, h.proposals, h.results⟩
  simp only [State.captureParameters, PerRun.get_ofFn] at kx
  simp only [State.captureParameters, PerRun.get_ofFn, State.setTotalizer_totalizers, PerRun.get_set]
  split
  · exact hx
  · exact kx q

theorem State.CustodyKept.setCurve (h : s.CustodyKept) (r : Run) {l : List CurvePoint} (hl : legalCurve l) :
    (s.setCurve r l).CustodyKept := by
  obtain ⟨kx, curves, base, setup, count⟩ := h.parameters
  refine ⟨⟨kx, fun q => ?_, base, setup, count⟩, h.store, h.proposals, h.results⟩
  simp only [State.captureParameters, State.setCurve_curves, PerRun.get_set]
  split
  · exact hl
  · exact curves q

theorem State.CustodyKept.setBaseVolume (h : s.CustodyKept) {bv : Nat} (hb : legalBase bv) :
    (s.setProver { s.prover with baseVolume := bv }).CustodyKept :=
  have ⟨kx, curves, _, setup, count⟩ := h.parameters
  ⟨⟨kx, curves, hb, setup, count⟩, h.store, h.proposals, h.results⟩

theorem State.CustodyKept.setSampler (h : s.CustodyKept) {x : Sampler} (hx : ∀ u, x.setup = some u → u.legal) :
    (s.setSampler x).CustodyKept :=
  have ⟨kx, curves, base, _, count⟩ := h.parameters
  ⟨⟨kx, curves, base, hx, count⟩, h.store, h.proposals, h.results⟩

/-- The change count is counted up to 32 bits (R147). -/
theorem State.CustodyKept.countChange (h : s.CustodyKept) : (s.setControl s.control.countChange).CustodyKept :=
  have ⟨kx, curves, base, setup, _⟩ := h.parameters
  ⟨⟨kx, curves, base, setup, satAdd_le ..⟩, h.store, h.proposals, h.results⟩

theorem State.CustodyKept.evaluateFull (h : s.CustodyKept) : s.evaluateFull.CustodyKept :=
  h.of_blocks (by simp) (by simp) (by simp) (by simp) (by simp) (by simp)

/-- A curve change that its owner takes leaves a curve (R51). -/
theorem State.CustodyKept.ownCurve (h : s.CustodyKept) (r : Run) {x : Except FailureReason (List CurvePoint)}
    (hx : ∀ l, x = .ok l → legalCurve l) : (s.ownCurve r x).1.CustodyKept := by
  unfold State.ownCurve
  split
  · exact (h.setCurve r (hx _ rfl)).setTotalizer rfl
  · exact h

theorem State.CustodyKept.curve (h : s.CustodyKept) (r : Run) : legalCurve (s.curves.get r) := h.parameters.2.1 r

theorem State.CustodyKept.applyKFactor (h : s.CustodyKept) (r : Run) {kx : Nat} (hk : legalKx kx) :
    (s.applyKFactor r kx).CustodyKept := by
  unfold State.applyKFactor
  dsimp only
  split
  · exact (h.setKx r hk).setBatch _
  · exact h.setKx r hk

theorem State.CustodyKept.applyChange (h : s.CustodyKept) {c : Change} (hc : c.legal) :
    (s.applyChange c).1.CustodyKept := by
  cases c with
  | kFactor r kx =>
    have owned := h.applyKFactor r (.inr hc)
    simp only [State.applyChange, State.ownKFactor]
    split
    · exact owned.abortSession _
    · exact owned
  | mfPoint r f m => exact h.ownCurve r fun _ e => (h.curve r).applyPoint hc e
  | mfPointDelete r f => exact h.ownCurve r fun _ e => (h.curve r).deletePoint e
  | proverVolume bv => exact (h.setBaseVolume (.inr hc)).abortSession _
  | samplerSetup g size cap =>
    refine State.CustodyKept.evaluateFull (h.setSampler fun u e => ?_)
    cases e
    exact hc

/-- A superseded proposal keeps its change (R143). -/
theorem supersedeSlot_change {x : Proposal} {now : Seconds} {slot : Option Proposal} {y : Proposal}
    (h : supersedeSlot x now slot = some y) : ∃ z, slot = some z ∧ y.change = z.change := by
  unfold supersedeSlot at h
  split at h
  · obtain ⟨z, rfl, rfl⟩ := Option.map_eq_some_iff.1 h
    exact ⟨z, rfl, rfl⟩
  · exact ⟨y, h, rfl⟩

theorem State.CustodyKept.applyProposal (h : s.CustodyKept) {x : Proposal} (hx : x.change.legal) (slot : Nat) :
    (s.applyProposal slot x).CustodyKept := by
  have owned := h.applyChange hx
  unfold State.applyProposal
  dsimp only
  split
  · exact (owned.putProposal (by exact hx) slot).raise _
  · have put := owned.countChange.putProposal (y := x.endAs (.applied
      (s.applyChange x.change).1.control.countChange.changeCount) (s.applyChange x.change).1.uptime) hx slot
    exact (put.requestParameters.mapSlots fun _ _ => supersedeSlot_change).raiseTimes _ _

theorem State.CustodyKept.concur (h : s.CustodyKept) (p : Port) (id : Nat) : (s.concur p id).1.CustodyKept := by
  obtain e | ⟨slot, x, checked, e⟩ := s.concur_cases p id
  · rw [e]; exact h
  · have legal : (x.setVerdict .concur p).change.legal := by
      simpa using h.proposals x (State.checkVerdict_mem checked)
    have put := h.putProposal legal slot
    rcases e with e | e <;> rw [e]
    · exact put
    · exact put.applyProposal legal _

/-! ### Every step -/

theorem State.CustodyKept.tickClock (h : s.CustodyKept) : s.tickClock.CustodyKept := by
  unfold State.tickClock
  split <;> exact h.of_eq rfl rfl rfl rfl

/-- A request that only reads. -/
theorem State.CustodyKept.of_read {x : State × Answer} (h : s.CustodyKept) (e : x.1 = s) : x.1.CustodyKept := e ▸ h

/-! ### Commands that touch no owner of a custody parameter -/

/-- Whether a command leaves every Kx, the curves, the prover, change control, the setup and the store. -/
def leavesOwners : Instr → Bool
  | .reset | .restoreComplete | .edgeEvent .. | .integrityBlockEnd .. | .windowExpiry .. | .proposalExpiry | .noDetector
  | .periodicCheckpoint | .detectorEvent .. | .passTimeout .. | .jobComplete | .powerFailWarning | .powerFailClear
  | .runEnable .. | .runEnableOff .. | .setCutoff .. | .setIntegrityLimit .. | .batchOpen .. | .batchClose ..
  | .proveStart .. | .proveAbort .. | .provePost .. | .propose .. | .concur .. | .reject .. | .withdraw .. => false
  | _ => true

theorem execPulseEnd_custodyKept (h : s.CustodyKept) (e : execPulseEnd s = .next t) : t.CustodyKept := by
  unfold execPulseEnd at e
  split at e <;> cases e <;> exact h.of_eq rfl rfl rfl rfl

theorem execGapEnd_custodyKept (h : s.CustodyKept) (e : execGapEnd s = .next t) : t.CustodyKept := by
  unfold execGapEnd at e
  split at e
  · split at e <;> cases e
    · exact h.of_eq rfl rfl rfl rfl
    · exact h.of_blocks (by simp) (by simp) (by simp) (by simp) (by simp) (by simp)
  · cases e; exact h

theorem execRcvhiChange_custodyKept {level : Bool} (h : s.CustodyKept) (e : execRcvhiChange level s = .next t) :
    t.CustodyKept := by
  have seen (l : Lines) : ({ s with lines := l, sampler := { s.sampler with rcvhi := level } } : State).CustodyKept :=
    h.of_eq rfl rfl rfl rfl
  unfold execRcvhiChange at e
  dsimp only at e
  split at e <;> cases e
  · exact seen _
  · exact (seen _).evaluateFull

theorem State.CustodyKept.receiverSwap (h : s.CustodyKept) : s.receiverSwap.1.CustodyKept := by
  unfold State.receiverSwap
  split
  · exact h
  · exact State.CustodyKept.evaluateFull (h.of_eq rfl rfl rfl rfl)

theorem State.CustodyKept.planAdd (h : s.CustodyKept) (args : List Byte) : (s.planAdd args).1.CustodyKept := by
  unfold State.planAdd
  split
  · exact h
  · split
    · exact h
    · split <;> exact h.of_eq rfl rfl rfl rfl

theorem State.CustodyKept.planRemove (h : s.CustodyKept) (parcel : Nat) : (s.planRemove parcel).1.CustodyKept := by
  unfold State.planRemove
  split
  · exact h
  · split <;> exact h.of_eq rfl rfl rfl rfl

theorem State.CustodyKept.readRecord (h : s.CustodyKept) (p : Port) (x y z : Nat) :
    (s.readRecord p x y z).1.CustodyKept := by
  unfold State.readRecord
  split
  · exact h
  · dsimp only
    split
    · exact h
    · split <;> exact h.of_eq rfl rfl rfl rfl

theorem State.CustodyKept.findParcel (h : s.CustodyKept) (p : Port) (x y z : Nat) :
    (s.findParcel p x y z).1.CustodyKept := by
  unfold State.findParcel
  split
  · exact h
  · dsimp only
    split
    · exact h
    · dsimp only
      split <;> exact h.of_eq rfl rfl rfl rfl

theorem State.CustodyKept.moveCursor (h : s.CustodyKept) (p : Port) (v : Nat) : (s.moveCursor p v).1.CustodyKept := by
  unfold State.moveCursor
  dsimp only
  split <;> exact h.of_eq rfl rfl rfl rfl

theorem State.CustodyKept.request (h : s.CustodyKept) {p : Port} {row : CatalogueRow} {args : List Byte}
    {body : State → State × Answer} (hb : (body s).1.CustodyKept) : (takeRequest p row args body s).CustodyKept :=
  takeRequest_induction h hb fun _ _ _ _ k => k.respond _ _ _

theorem State.CustodyKept.exec_of_leavesOwners {i : Instr} (h : s.CustodyKept) (hi : leavesOwners i = true)
    (e : exec i s = .next t) : t.CustodyKept := by
  cases i
  case reset | restoreComplete | edgeEvent | integrityBlockEnd | windowExpiry | proposalExpiry | noDetector
    | periodicCheckpoint | detectorEvent | passTimeout | jobComplete | powerFailWarning | powerFailClear | runEnable
    | runEnableOff | setCutoff | setIntegrityLimit | batchOpen | batchClose | proveStart | proveAbort | provePost
    | propose | concur | reject | withdraw => cases hi
  case pulseEnd => exact execPulseEnd_custodyKept h e
  case gapEnd => exact execGapEnd_custodyKept h e
  case rcvhiChange => exact execRcvhiChange_custodyKept h e
  case oneSecondEvent => cases e; exact h.of_blocks (fun _ => rfl) rfl rfl rfl rfl rfl
  case transactionBegin =>
    simp only [Machine.exec, execTransactionBegin] at e
    split at e <;> cases e <;> exact h.of_eq rfl rfl rfl rfl
  case sckEdge =>
    simp only [Machine.exec, execSckEdge] at e
    split at e <;> cases e <;> exact h.of_eq rfl rfl rfl rfl
  case frameError => cases e; exact h.respond _ _ _
  case unknownRequest => cases e; exact h.respond _ _ _
  all_goals cases e; refine h.request ?_
  case nop | identify | readTime | readEvents | topEvent | readSampler => exact h
  case clearEvents => unfold State.clearEvents; split <;> exact h.of_eq rfl rfl rfl rfl
  case setLevel => unfold State.setLevel; split <;> exact h.of_eq rfl rfl rfl rfl
  case setThreshold | setTime | planClear => exact h.of_eq rfl rfl rfl rfl
  case readRun => exact h.of_read (s.readRun_fst _ _)
  case readTotals => exact h.of_read (s.readTotals_fst _ _)
  case readCurve => exact h.of_read (s.readCurve_fst _)
  case readBatch => exact h.of_read (s.readBatch_fst _)
  case readQueue => exact h.of_read (s.readQueue_fst _)
  case readProving => exact h.of_read (s.readProving_fst _)
  case readPass => exact h.of_read (s.readPass_fst _)
  case readProposal => exact h.of_read (s.readProposal_fst _)
  case planAdd => exact h.planAdd _
  case planRemove => exact h.planRemove _
  case readRecord => exact h.readRecord _ _ _ _
  case findParcel => exact h.findParcel _ _ _ _
  case setCursor => exact h.moveCursor _ _
  case samplerHold => unfold State.samplerHold; split <;> exact h.of_eq rfl rfl rfl rfl
  case samplerOutput => unfold State.samplerOutput; split <;> exact h.of_eq rfl rfl rfl rfl
  case receiverSwap => exact h.receiverSwap

/-! ### The session's own commands -/

theorem execNoDetector_custodyKept (h : s.CustodyKept) (e : execNoDetector s = .next t) : t.CustodyKept := by
  unfold execNoDetector at e
  dsimp only at e
  split at e <;> cases e
  · exact h.abortSession _
  · exact h

theorem execPassTimeout_custodyKept {tD1 : Tick} (h : s.CustodyKept) (session : s.sessionLegal)
    (e : execPassTimeout tD1 s = .next t) : t.CustodyKept := by
  unfold execPassTimeout at e
  dsimp only at e
  split at e <;> cases e
  · rename_i runs
    have active : s.prover.session.state.isActive = true := by
      rcases runs.1 with state | state <;> rw [state] <;> rfl
    exact (h.recordPass session active (Session.partialRecord_legal _ (by decide))).awaitDet1
  · exact h

theorem execDetectorEvent_custodyKept {d : Detector} {tick : Tick} (h : s.CustodyKept) (session : s.sessionLegal)
    (e : execDetectorEvent d tick s = .next t) : t.CustodyKept := by
  have seen (l : Lines) (x : DetectorInput) :
      ((s.setLines l).setDetector d x).CustodyKept ∧ ((s.setLines l).setDetector d x).sessionLegal := by
    cases d <;> exact ⟨h.of_eq rfl rfl rfl rfl, session⟩
  unfold execDetectorEvent at e
  dsimp only at e
  split at e <;> cases e
  · exact (seen _ _).1
  · exact (seen _ _).1.detectorEvent (seen _ _).2 _ _

theorem State.CustodyKept.proveStart (h : s.CustodyKept) (n p m l post : Nat) :
    (s.proveStart n p m l post).1.CustodyKept := by
  unfold State.proveStart
  split
  · exact h
  · split
    · exact h
    · split
      · exact h
      · split
        · exact h
        · exact h.setSession _

theorem State.CustodyKept.proveAbort (h : s.CustodyKept) : s.proveAbort.1.CustodyKept := by
  unfold State.proveAbort
  split
  · exact h.abortSession _
  · exact h

theorem State.CustodyKept.exec {i : Instr} (h : s.CustodyKept) (session : s.sessionLegal) (e : exec i s = .next t) :
    t.CustodyKept := by
  by_cases hi : leavesOwners i = true
  · exact h.exec_of_leavesOwners hi e
  · cases i <;> try exact absurd rfl hi
    case reset => exact execReset_custodyKept h e
    case restoreComplete => exact execRestoreComplete_custodyKept h e
    case edgeEvent => exact execEdgeEvent_custodyKept h session e
    case integrityBlockEnd => exact execIntegrityBlockEnd_custodyKept h e
    case windowExpiry => exact execWindowExpiry_custodyKept h e
    case proposalExpiry => exact execProposalExpiry_custodyKept h e
    case noDetector => exact execNoDetector_custodyKept h e
    case periodicCheckpoint => exact execPeriodicCheckpoint_custodyKept h e
    case detectorEvent => exact execDetectorEvent_custodyKept h session e
    case passTimeout => exact execPassTimeout_custodyKept h session e
    case jobComplete => exact execJobComplete_custodyKept h e
    case powerFailWarning => exact execPowerFailWarning_custodyKept h e
    case powerFailClear => exact execPowerFailClear_custodyKept h e
    case runEnable => cases e; exact h.request (h.runEnable _ _)
    case runEnableOff => cases e; exact h.request (h.runEnable _ _)
    case setCutoff => cases e; exact h.request (h.setCutoff _ _)
    case setIntegrityLimit => cases e; exact h.request (h.setIntegrityLimit _ _)
    case batchOpen => cases e; exact h.request h.batchOpen
    case batchClose => cases e; exact h.request h.batchClose
    case proveStart => cases e; exact h.request (h.proveStart _ _ _ _ _)
    case proveAbort => cases e; exact h.request h.proveAbort
    case provePost => cases e; exact h.request (h.provePost _)
    case propose => cases e; exact h.request (h.propose _ _)
    case concur => cases e; exact h.request (h.concur _ _)
    case reject => cases e; exact h.request (h.reject _ _)
    case withdraw => cases e; exact h.request (h.withdraw _ _)

/-- Settles O12: PROPOSE and the offer of a proved factor check a change's ranges, an owner takes it within them, a point change
leaves a curve, and the store holds and brings back nothing else. -/
theorem stepKeepsCustodyParametersInRange : Obligations.StepKeepsCustodyParametersInRange := by
  intro s t session custody e
  have kept := State.custodyLegal_iff.1 custody
  have queued (l : List Instr) : ({ s with pending := l } : State).CustodyKept := kept.of_eq rfl rfl rfl rfl
  exact State.custodyLegal_iff.2 (step_induction kept.tickClock (fun _ l => (queued l).exec session) e)

end

end Sys2Proof.Machine
end

section
/-! PROOFS. The meter factor lookup (R26, R27), and the remainders of the conversion (R30, R31), with the settled statements. -/

namespace Sys2Proof.Machine

/-! ### Rounding halves away from zero (R27) -/

/-- A quotient rounded halves up lies within a half of the exact one. -/
theorem roundDiv_bounds {den : Nat} (hd : 0 < den) (num : Nat) :
    2 * den * roundDiv num den ≤ 2 * num + den ∧ 2 * num + den < 2 * den * roundDiv num den + 2 * den := by
  have pos : 0 < 2 * den := by omega
  exact ⟨Nat.mul_div_le _ _, Nat.lt_mul_div_succ _ pos⟩

/-- A quotient rounded halves away from zero: an exact half goes up above zero, and down below it. -/
theorem roundHalfAway_bounds {den : Nat} (hd : 0 < den) (num : Int) :
    (0 ≤ num → 0 ≤ roundHalfAway num den ∧ 2 * num - den < 2 * den * roundHalfAway num den ∧
      2 * den * roundHalfAway num den ≤ 2 * num + den) ∧
    (num < 0 → roundHalfAway num den ≤ 0 ∧ 2 * num - den ≤ 2 * den * roundHalfAway num den ∧
      2 * den * roundHalfAway num den < 2 * num + den) := by
  obtain ⟨low, high⟩ := roundDiv_bounds hd num.natAbs
  zify at low high
  unfold roundHalfAway
  constructor <;> intro sign
  · rw [abs_of_nonneg sign] at low high
    rw [if_pos sign]
    exact ⟨by positivity, by linarith, by linarith⟩
  · rw [abs_of_neg sign] at low high
    rw [if_neg (by omega), mul_neg]
    exact ⟨by rw [Left.neg_nonpos_iff]; positivity, by linarith, by linarith⟩

/-! ### Between two points (R27) -/

/-- The quotient of R27 rounded, for a rise of the factor over part of a distance, is not beyond the rise. -/
theorem roundHalfAway_between {rise part den : Int} {d : Nat} (hd : (d : Int) = den) (pos : 0 < den) (low : 0 ≤ part)
    (high : part ≤ den) : min 0 rise ≤ roundHalfAway (rise * part) d ∧ roundHalfAway (rise * part) d ≤ max 0 rise := by
  obtain ⟨up, down⟩ := roundHalfAway_bounds (den := d) (by omega) (rise * part)
  rw [hd] at up down
  by_cases sign : 0 ≤ rise * part
  · obtain ⟨nonneg, -, le⟩ := up sign
    refine ⟨(min_le_left 0 rise).trans nonneg, ?_⟩
    by_contra! beyond
    obtain ⟨-, above⟩ := max_lt_iff.1 beyond
    rcases le_or_gt 0 rise with hr | hr
    · nlinarith [mul_le_mul_of_nonneg_left high hr, mul_le_mul_of_nonneg_left (Int.add_one_le_of_lt above) pos.le]
    · nlinarith [mul_nonpos_of_nonpos_of_nonneg hr.le low,
        mul_le_mul_of_nonneg_left (Int.add_one_le_of_lt (max_lt_iff.1 beyond).1) pos.le]
  · obtain ⟨nonpos, ge, -⟩ := down (not_le.1 sign)
    refine ⟨?_, nonpos.trans (le_max_left 0 rise)⟩
    by_contra! beyond
    obtain ⟨-, below⟩ := lt_min_iff.1 beyond
    have hr : rise < 0 := by
      by_contra! hr
      exact sign (mul_nonneg hr low)
    nlinarith [mul_le_mul_of_nonpos_left high hr.le, mul_le_mul_of_nonneg_left (Int.add_one_le_of_lt below) pos.le]

/-- The interpolated factor is the lower point's factor and the rounded quotient, and lies between the two factors (R27). -/
theorem interpolate_eq {p q : CurvePoint} {f : Nat} (low : p.freq ≤ f) (high : f < q.freq) :
    ((interpolate p q f : Nat) : Int) - p.mf =
      roundHalfAway (((q.mf : Int) - p.mf) * ((f : Int) - p.freq)) (q.freq - p.freq) ∧
    min p.mf q.mf ≤ interpolate p q f ∧ interpolate p q f ≤ max p.mf q.mf := by
  have between := roundHalfAway_between (rise := (q.mf : Int) - p.mf) (part := (f : Int) - p.freq)
    (den := (q.freq : Int) - p.freq) (d := q.freq - p.freq) (by omega) (by omega) (by omega) (by omega)
  unfold interpolate
  omega

/-- At its lower point the interpolation gives that point's factor (R26). -/
theorem interpolate_at {p q : CurvePoint} (less : p.freq < q.freq) : interpolate p q p.freq = p.mf := by
  have none : roundDiv 0 (q.freq - p.freq) = 0 := Nat.div_eq_of_lt (by omega)
  simp [interpolate, roundHalfAway, none]

/-! ### The lookup (R26) -/

/-- A factor between two factors in range is in range. -/
theorem legalFactor_between {a b m : Nat} (ha : legalFactor a) (hb : legalFactor b) (low : min a b ≤ m)
    (high : m ≤ max a b) : legalFactor m := by
  unfold legalFactor at *
  omega

/-- The first point has the lowest frequency, the last the highest (R48). -/
theorem legalCurve.head_le {points : List CurvePoint} (h : legalCurve points) {a p : CurvePoint}
    (first : points.head? = some a) (hp : p ∈ points) : a.freq ≤ p.freq := by
  obtain ⟨rest, rfl⟩ := List.head?_eq_some_iff.1 first
  rcases List.mem_cons.1 hp with rfl | hp
  · exact Nat.le_refl _
  · exact Nat.le_of_lt ((List.pairwise_cons.1 h.2.1).1 p hp)

theorem legalCurve.le_last {points : List CurvePoint} (h : legalCurve points) {z p : CurvePoint}
    (last : points.getLast? = some z) (hp : p ∈ points) : p.freq ≤ z.freq := by
  obtain ⟨front, rfl⟩ := List.getLast?_eq_some_iff.1 last
  rcases List.mem_append.1 hp with hp | hp
  · exact Nat.le_of_lt ((List.pairwise_append.1 h.2.1).2.2 p hp z List.mem_cons_self)
  · rw [List.mem_singleton.1 hp]

/-- From a point's frequency to another's, the lookup is in range (R26). -/
theorem legalCurve.lookup_inRange {points : List CurvePoint} (h : legalCurve points) {p q : CurvePoint} {f : Nat}
    (hp : p ∈ points) (hq : q ∈ points) (low : p.freq ≤ f) (high : f ≤ q.freq) :
    lookupCurve points f = (segmentFactor points f, .inRange) := by
  have first := List.head?_eq_some_head (List.ne_nil_of_mem hp)
  have last := List.getLast?_eq_some_getLast (List.ne_nil_of_mem hp)
  have above := h.head_le first hp
  have below := h.le_last last hq
  simp only [lookupCurve, first, last]
  rw [if_neg (by omega), if_neg (by omega)]

/-- Points whose frequencies are passed leave the segment to the rest (R26). -/
theorem segmentFactor_append {front : List CurvePoint} {p : CurvePoint} {rest : List CurvePoint} {f : Nat}
    (passed : ∀ x ∈ front, x.freq ≤ f) (low : p.freq ≤ f) :
    segmentFactor (front ++ p :: rest) f = segmentFactor (p :: rest) f := by
  induction front with
  | nil => rfl
  | cons x front ih =>
    have next (y : CurvePoint) (l : List CurvePoint) (hy : y.freq ≤ f) :
        segmentFactor (x :: y :: l) f = segmentFactor (y :: l) f := by
      rw [segmentFactor, if_neg (by omega)]
    have here := ih fun y hy => passed y (List.mem_cons_of_mem _ hy)
    cases front with
    | nil => exact next p rest low
    | cons y front => exact (next y _ (passed y (by simp))).trans here

/-- From the first point on, the factor of a segment is in range (R26, R27). -/
theorem segmentFactor_legal {points : List CurvePoint} {f : Nat} (legal : ∀ p ∈ points, legalFactor p.mf)
    (first : ∀ p, points.head? = some p → p.freq ≤ f) : legalFactor (segmentFactor points f) := by
  induction points with
  | nil => exact ⟨(by decide : 900000 ≤ 1000000), (by decide : 1000000 ≤ 1100000)⟩
  | cons p rest ih =>
    cases rest with
    | nil => exact legal p List.mem_cons_self
    | cons q rest =>
      have hp := legal p List.mem_cons_self
      have hq := legal q (by simp)
      rw [segmentFactor]
      split
      · rename_i high
        obtain ⟨-, ge, le⟩ := interpolate_eq (first p rfl) high
        exact legalFactor_between hp hq ge le
      · rename_i passed
        refine ih (fun x hx => legal x (List.mem_cons_of_mem _ hx)) fun x hx => ?_
        cases hx
        omega

/-- Every factor that the lookup gives is in range (R26, R48). -/
theorem legalCurve.lookup_legal {points : List CurvePoint} (h : legalCurve points) (f : Nat) :
    legalFactor (lookupCurve points f).1 := by
  have legal (p : CurvePoint) (hp : p ∈ points) : legalFactor p.mf := (h.2.2 p hp).2.2
  unfold lookupCurve
  split
  · rename_i first last hf hl
    split
    · exact legal first (List.mem_of_head? hf)
    · rename_i low
      split
      · exact legal last (List.mem_of_getLast? hl)
      · refine segmentFactor_legal legal fun p hp => ?_
        rw [hf] at hp
        cases hp
        omega
  · exact ⟨by decide, by decide⟩

/-- At the first point's frequency the factor is that point's (R26). -/
theorem segmentFactor_head {p : CurvePoint} {rest : List CurvePoint} (h : legalCurve (p :: rest)) :
    segmentFactor (p :: rest) p.freq = p.mf := by
  cases rest with
  | nil => rfl
  | cons q rest =>
    have less := (List.pairwise_cons.1 h.2.1).1 q List.mem_cons_self
    rw [segmentFactor, if_pos less, interpolate_at less]

/-- Settles O39: below, at and above the points by the lookup's own cases; between two points the search stops at their
segment, and the rounded quotient stays between their factors. -/
theorem curveLookupFollowsTheTable : Obligations.CurveLookupFollowsTheTable := by
  intro points f legal
  refine ⟨legal.lookup_legal f, ?_, ?_, ?_, ?_⟩
  · rintro rfl
    rfl
  · rintro p rest rfl
    refine ⟨fun below => ?_, ?_⟩
    · have last := List.getLast?_eq_some_getLast (List.cons_ne_nil p rest)
      simp only [lookupCurve, List.head?_cons, last, if_pos below]
    · rintro rfl
      rw [legal.lookup_inRange List.mem_cons_self List.mem_cons_self le_rfl le_rfl, segmentFactor_head legal]
  · rintro front q rfl
    have member : q ∈ front ++ [q] := by simp
    have passed (x : CurvePoint) (hx : x ∈ front) : x.freq ≤ q.freq :=
      legal.le_last (by simp) (List.mem_append_left _ hx)
    refine ⟨?_, fun above => ?_⟩
    · rintro rfl
      rw [legal.lookup_inRange member member le_rfl le_rfl, segmentFactor_append passed le_rfl]
      rfl
    · have first := List.head?_eq_some_head (List.ne_nil_of_mem member)
      have low := legal.head_le first member
      simp only [lookupCurve, first, List.getLast?_append, List.getLast?_singleton, Option.some_or]
      rw [if_neg (by omega), if_pos above]
  · rintro front p q rest rfl low high
    have hp : p ∈ front ++ p :: q :: rest := by simp
    have hq : q ∈ front ++ p :: q :: rest := by simp
    have passed (x : CurvePoint) (hx : x ∈ front) : x.freq ≤ f :=
      (Nat.le_of_lt ((List.pairwise_append.1 legal.2.1).2.2 x hx p List.mem_cons_self)).trans low
    have segment : segmentFactor (front ++ p :: q :: rest) f = interpolate p q f := by
      rw [segmentFactor_append passed low, segmentFactor, if_pos high]
    obtain ⟨rounded, ge, le⟩ := interpolate_eq low high
    obtain ⟨up, down⟩ := roundHalfAway_bounds (den := q.freq - p.freq) (by omega)
      (((q.mf : Int) - p.mf) * ((f : Int) - p.freq))
    rw [← rounded, Nat.cast_sub (by omega)] at up down
    refine ⟨interpolate p q f, ?_, fun sign => (up sign).2, fun sign => (down sign).2, ge, le⟩
    rw [legal.lookup_inRange hp hq low high.le, segment]

/-! ### The remainders (R30, R31) -/

/-- A window converted, its increments added to sums. -/
def addConverted (sum : Nat × Nat × Totalizer) (w : Nat × Nat) : Nat × Nat × Totalizer :=
  let x := sum.2.2.convert w.1 w.2
  (sum.1 + x.1.indicated, sum.2.1 + x.1.gross, x.2)

/-- A quotient taken in two parts, the first's remainder carried into the second. -/
theorem div_add_carried {k : Nat} (hk : 0 < k) (n p : Nat) : n / k + (n % k + p) / k = (n + p) / k := by
  conv_rhs => rw [← Nat.div_add_mod n k, Nat.add_assoc, Nat.mul_add_div hk]

/-- Windows converted one by one add up to the conversion of their sum, by the remainders carried between them (R30, R31). -/
theorem foldl_addConverted (windows : List (Nat × Nat)) (a b : Nat) {t : Totalizer} (hk : 0 < t.kx)
    (hi : t.indicatedRemainder < t.kx) (hg : t.grossRemainder < t.kx * 1000000) :
    let pulses := (windows.map fun w => w.1 * 1000000).sum
    let corrected := (windows.map fun w => w.1 * 1000000 * w.2).sum
    windows.foldl addConverted (a, b, t) =
      (a + (t.indicatedRemainder + pulses) / t.kx, b + (t.grossRemainder + corrected) / (t.kx * 1000000), { t with
        indicatedRemainder := (t.indicatedRemainder + pulses) % t.kx
        grossRemainder := (t.grossRemainder + corrected) % (t.kx * 1000000) }) := by
  induction windows generalizing a b t with
  | nil =>
    simp [Nat.mod_eq_of_lt hi, Nat.mod_eq_of_lt hg, Nat.div_eq_of_lt hi, Nat.div_eq_of_lt hg]
  | cons w windows ih =>
    have step : addConverted (a, b, t) w =
        (a + (t.indicatedRemainder + w.1 * 1000000) / t.kx,
          b + (t.grossRemainder + w.1 * 1000000 * w.2) / (t.kx * 1000000), { t with
            indicatedRemainder := (t.indicatedRemainder + w.1 * 1000000) % t.kx
            grossRemainder := (t.grossRemainder + w.1 * 1000000 * w.2) % (t.kx * 1000000) }) := by
      simp only [addConverted, Totalizer.convert, sub_div_mul]
    simp only [List.foldl_cons, step, List.map_cons, List.sum_cons]
    have hg0 : 0 < t.kx * 1000000 := Nat.mul_pos hk (by decide)
    refine (ih _ _ (t := { t with
      indicatedRemainder := (t.indicatedRemainder + w.1 * 1000000) % t.kx
      grossRemainder := (t.grossRemainder + w.1 * 1000000 * w.2) % (t.kx * 1000000) }) hk (Nat.mod_lt _ hk)
      (Nat.mod_lt _ hg0)).trans ?_
    simp only [Nat.mod_add_mod, Nat.add_assoc, div_add_carried hk, div_add_carried hg0]

/-- Settles O40, by induction on the windows: what a window leaves of its division is in the next one's. -/
theorem remaindersLoseNoLitre : Obligations.RemaindersLoseNoLitre := by
  intro t windows set hi hg out pulses corrected
  have kx : 0 < t.kx := Nat.pos_of_ne_zero set
  have sums : out = _ := foldl_addConverted windows 0 0 kx hi hg
  rw [sums, Nat.zero_add, Nat.zero_add]
  exact ⟨rfl, rfl, rfl, Nat.mod_lt _ kx, Nat.mod_lt _ (by omega)⟩

end Sys2Proof.Machine
end

section
/-! PROOFS. The bytes of READ_RUN, READ_TOTALS and READ_CURVE (R45 to R47, R57, R166, R167), and the settled statement. -/

namespace Sys2Proof.Machine

/-! ### Fields and flags (R166, R167) -/

theorem field_one {n : Nat} (h : n < 256) : field 1 n = [byteOf n] := field_eq (n := 1) (by omega)

theorem field_runNumber (r : Run) : field 1 (runNumber r) = [runByte r] := field_one (by cases r <;> decide)

theorem field_runByte (r : Run) : field 1 (runByte r).toNat = [runByte r] := by
  rw [field_one (runByte r).isLt, byteOf, BitVec.ofNat_toNat, BitVec.setWidth_eq]

theorem testBit_flags (flags : List Bool) (i : Nat) :
    (flags.foldr (fun (b : Bool) n => b.toNat + 2 * n) 0).testBit i = flags.getD i false := by
  induction flags generalizing i with
  | nil => simp
  | cons b flags ih =>
    cases i with
    | zero => cases b <;> simp [Nat.testBit_zero]
    | succ i =>
      have half (n : Nat) : (b.toNat + 2 * n) / 2 = n := by have := b.toNat_lt; omega
      rw [List.foldr_cons, Nat.testBit_succ, half, ih, List.getD_cons_succ]

/-- A flags byte holds its flags, bit 0 first (R167). -/
theorem flagsByte_holds (flags : List Bool) : ∃ b, holdsFlags b flags ∧ flagsByte flags = [b] :=
  ⟨_, fun i hi => by rw [BitVec.getLsbD_ofNat, testBit_flags, decide_eq_true hi, Bool.true_and], rfl⟩

theorem faultFields_eq {n size : Nat} {x : FaultCounts} (h : x.atMost n) (hn : n < 256 ^ size) :
    faultFields size x = faultBytes size x := by
  obtain ⟨reverse, aMissing, bMissing, coincident, dither⟩ := h
  simp only [faultFields, field_eq (reverse.trans_lt hn), field_eq (aMissing.trans_lt hn),
    field_eq (bMissing.trans_lt hn), field_eq (coincident.trans_lt hn), field_eq (dither.trans_lt hn)]
  rfl

theorem tripleFields_eq {n size : Nat} {x : Triple} (h : x.below n) (hn : n ≤ 256 ^ size) :
    tripleFields size x = tripleBytes size x := by
  obtain ⟨pulses, indicated, gross⟩ := h
  simp only [tripleFields, field_eq (pulses.trans_le hn), field_eq (indicated.trans_le hn), field_eq (gross.trans_le hn)]
  rfl

/-! ### READ_RUN (R46, R47) -/

/-- The pulse front end's part, its flags given (R46). -/
theorem channelFields_eq {c : Channel} (h : c.fits) (r : Run) {flags : Byte}
    (hf : flagsByte [c.degraded, c.overspeed, c.offlineSeen, decide (c.direction = .reverse)] = [flags]) :
    channelFields r c = [runByte r, byteOf (runStateCode c.runState), flags, byteOf c.history.length] ++
      bytesOf 4 c.freq ++ bytesOf 2 c.cutoff ++ [byteOf c.limit] ++ bytesOf 2 c.blockCycles ++ bytesOf 2 c.blockErrors ++
      bytesOf 4 c.window.pulses ++ bytesOf 4 c.window.faults.reverse ++ faultBytes 4 c.cumulative ++
      bytesOf 4 c.offlinePulses := by
  obtain ⟨⟨cycles, errors, history, -, limit, -, cutoff, cumulative, offline⟩, freq, pulses, reverse⟩ := h
  have code : runStateCode c.runState < 256 := by cases c.runState <;> decide
  have turned : (c.direction == .reverse) = decide (c.direction = .reverse) := rfl
  have most : max32 < 256 ^ 4 := by decide
  rw [channelFields, turned, hf, field_runNumber, field_one code, field_one (by omega), field_eq freq,
    field_eq (by omega), field_one (by omega), field_eq (by omega), field_eq (by omega), field_eq pulses,
    field_eq reverse, faultFields_eq cumulative most, field_eq (offline.trans_lt most)]
  rfl

/-- Remainders below their divisors fit in their fields (R30, R31, R47). -/
theorem remaindersLegal.fit {kx indicated gross : Nat} (h : remaindersLegal kx indicated gross) (hk : kx ≤ 99999999) :
    indicated < 256 ^ 4 ∧ gross < 256 ^ 6 := by
  obtain ⟨unset, set⟩ := h
  by_cases zero : kx = 0
  · obtain ⟨rfl, rfl⟩ := unset zero
    decide
  · obtain ⟨low, small⟩ := set zero
    omega

/-- The totalizer's part, its flags given (R47). -/
theorem totalizerFields_eq {t : Totalizer} (h : t.fits) (r : Run) {flags : Byte}
    (hf : flagsByte [t.unbatchedSaturated, t.curveChanged] = [flags]) :
    totalizerFields r t = [runByte r] ++ bytesOf 4 t.kx ++ [byteOf (curveStatusCode t.curveStatus)] ++
      bytesOf 4 (t.lastMf.getD 0) ++ [flags] ++ bytesOf 4 t.indicatedRemainder ++ bytesOf 6 t.grossRemainder ++
      tripleBytes 4 t.unbatched.volume ++ faultBytes 4 t.unbatched.faults := by
  obtain ⟨⟨-, -, remainders, volume, faults⟩, kx, factor⟩ := h
  obtain ⟨indicated, gross⟩ := remainders.fit kx
  have code : curveStatusCode t.curveStatus < 256 := by cases t.curveStatus <;> decide
  have mf : t.lastMf.getD 0 < 256 ^ 4 := by
    cases last : t.lastMf with
    | none => decide
    | some m => have := factor m last; simp only [Option.getD_some]; omega
  rw [totalizerFields, hf, field_runNumber, field_eq (by omega), field_one code, field_eq mf, field_eq indicated,
    field_eq gross, tripleFields_eq volume (by decide), faultFields_eq faults (by decide)]

theorem State.readRun_channel (s : State) (r : Run) :
    s.readRun (argument [runByte r, 0] 0 1) (argument [runByte r, 0] 1 1) =
      reads (channelFields r (s.channels.get r)) s := by
  rw [show argument [runByte r, 0] 1 1 = 0 from rfl, State.readRun, argument_first, runOfNumber_runByte]
  rfl

theorem State.readRun_totalizer (s : State) (r : Run) :
    s.readRun (argument [runByte r, 1] 0 1) (argument [runByte r, 1] 1 1) =
      reads (totalizerFields r (s.totalizers.get r)) s := by
  rw [show argument [runByte r, 1] 1 1 = 1 from rfl, State.readRun, argument_first, runOfNumber_runByte]
  rfl

theorem State.readRun_refused (s : State) (r : Run) {part : Byte} (high : 1 < part.toNat) :
    s.readRun (argument [runByte r, part] 0 1) (argument [runByte r, part] 1 1) = refused .badArgument s := by
  obtain ⟨k, hk⟩ := Nat.exists_eq_add_of_lt high
  rw [show argument [runByte r, part] 1 1 = part.toNat from numberOf_one part, hk, show 1 + k + 1 = k + 2 by omega,
    State.readRun, argument_first, runOfNumber_runByte]
  rfl

/-! ### READ_TOTALS (R45) -/

theorem clamp_zero_left (high x : Nat) : clamp 0 high x = min x high := by
  unfold clamp
  split_ifs <;> omega

theorem State.readTotals_runByte {s : State} {r : Run} (h : (s.totalizers.get r).fits) (scale : Byte) :
    let t := s.totalizers.get r
    let used := min scale.toNat 6
    s.readTotals (argument [runByte r, scale] 0 1) (argument [runByte r, scale] 1 1) =
      reads ([runByte r, byteOf used] ++ bytesOf 6 s.tick.toNat ++ bytesOf 6 (t.total.pulses / 10 ^ used) ++
        bytesOf 6 (t.total.indicated / 10 ^ used) ++ bytesOf 6 (t.total.gross / 10 ^ used) ++
        tripleBytes 1 t.rollover) s := by
  intro t used
  obtain ⟨⟨⟨pulses, indicated, gross⟩, rollover, -⟩, -⟩ := h
  have scaled : (⟨t.total.pulses / 10 ^ used, t.total.indicated / 10 ^ used, t.total.gross / 10 ^ used⟩ :
      Triple).below totalModulus :=
    ⟨(Nat.div_le_self ..).trans_lt pulses, (Nat.div_le_self ..).trans_lt indicated, (Nat.div_le_self ..).trans_lt gross⟩
  rw [show argument [runByte r, scale] 1 1 = scale.toNat from numberOf_one scale]
  simp only [State.readTotals, argument_first, runOfNumber_runByte, clamp_zero_left]
  rw [field_runByte, field_one (by omega), tickField_eq, tripleFields_eq scaled (by decide),
    tripleFields_eq rollover (by decide)]
  simp only [tripleBytes, List.append_assoc]
  rfl

/-! ### READ_CURVE (R57) -/

theorem pointFields_eq {x : CurvePoint} (h : x.legal) : pointFields x = bytesOf 2 x.freq ++ bytesOf 4 x.mf := by
  obtain ⟨-, freq, -, mf⟩ := h
  rw [pointFields, field_eq (by omega), field_eq (by omega)]

theorem State.readCurve_runByte {s : State} {r : Run} (h : legalCurve (s.curves.get r))
    (count : s.control.changeCount ≤ max32) : s.readCurve (argument [runByte r] 0 1) =
      reads ([runByte r, byteOf (s.curves.get r).length] ++ bytesOf 4 s.control.changeCount ++
        (s.curves.get r).flatMap fun x => bytesOf 2 x.freq ++ bytesOf 4 x.mf) s := by
  obtain ⟨size, -, legal⟩ := h
  have points : (s.curves.get r).flatMap pointFields =
      (s.curves.get r).flatMap fun x => bytesOf 2 x.freq ++ bytesOf 4 x.mf :=
    List.flatMap_congr fun x hx => pointFields_eq (legal x hx)
  have fits : s.control.changeCount < 256 ^ 4 := count.trans_lt (by decide)
  simp only [State.readCurve, argument_first, runOfNumber_runByte]
  rw [field_runByte, field_one (by omega), field_eq fits, points]
  rfl

/-- Settles O42: each request passes the checks of R169, and its own rule reads figures that fit in their fields. -/
theorem runReadsAnswerTheFigures : Obligations.RunReadsAnswerTheFigures := by
  intro p r s ready c t points
  refine ⟨fun fits => ?_, fun fits => ?_, fun part high => ?_, fun fits scale => ?_, fun legal count => ?_⟩
  · obtain ⟨flags, holds, byte⟩ := flagsByte_holds
      [c.degraded, c.overspeed, c.offlineSeen, decide (c.direction = .reverse)]
    refine ⟨flags, holds, congrArg Host.Outcome.next (takeRequest_eq ready rfl rfl ?_)⟩
    rw [State.readRun_channel, channelFields_eq fits r byte]
    rfl
  · obtain ⟨flags, holds, byte⟩ := flagsByte_holds [t.unbatchedSaturated, t.curveChanged]
    refine ⟨flags, holds, congrArg Host.Outcome.next (takeRequest_eq ready rfl rfl ?_)⟩
    rw [State.readRun_totalizer, totalizerFields_eq fits r byte]
    rfl
  · exact congrArg Host.Outcome.next (takeRequest_eq ready rfl rfl (State.readRun_refused s r high))
  · exact congrArg Host.Outcome.next (takeRequest_eq ready rfl rfl (State.readTotals_runByte fits scale))
  · exact congrArg Host.Outcome.next (takeRequest_eq ready rfl rfl (State.readCurve_runByte legal count))

end Sys2Proof.Machine
end

section
/-! PROOFS. Where the window of an expiry goes (R36 to R41, R70, R71): the run's unbatched accumulators, or its accumulators in the
open batch below the target, and the settled statements. -/

namespace Sys2Proof.Machine

section
variable {s t : State} {b : OpenBatch}

/-- Beside what a hand-off below the target may touch, a window close leaves the state (R15, R25). -/
theorem State.SameSetting.window_frame (h : s.SameSetting t) (lines : t.lines = s.lines) (queue : t.queue = s.queue)
    (batchSeq : t.batchSeq = s.batchSeq) (history : t.history = s.history) (store : t.store = s.store) :
    t = { s with
      channels := t.channels, totalizers := t.totalizers, batch := t.batch, prover := t.prover, sampler := t.sampler,
      ports := t.ports } := by
  refine h.frame.trans ?_
  rw [lines, queue, batchSeq, history, store]

/-! ### The window of an expiry -/

/-- The state that a close of an enabled run's window leaves at an expiry (R15). -/
def State.expiredWindow (r : Run) (s : State) : State :=
  (s.evaluatedRun r ((s.channels.get r).deadline + 1000000)).computeWindow r (closingFreq s r)
    (s.channels.get r).handedWindow

/-- The state in which the window of an expiry is routed: the run state is evaluated, and the totals are advanced. -/
def State.expiredTotals (r : Run) (s : State) : State :=
  (s.evaluatedRun r ((s.channels.get r).deadline + 1000000)).afterTotals r (closingFreq s r) (closingPulses s r)

theorem exec_windowExpiry (r : Run) (on : s.enabled r) : exec (.windowExpiry r) s = .next (s.expiredWindow r) :=
  execWindowExpiry_enabled on.1 on.2

theorem State.expiredWindow_eq (s : State) (r : Run) :
    s.expiredWindow r = (s.expiredTotals r).routeWindow r (closingFigures s r) := by
  have figures (x : Tick) : (s.evaluatedRun r x).handedFigures r (closingFreq s r) (s.channels.get r).handedWindow =
      closingFigures s r := by
    simp only [State.handedFigures, State.evaluatedRun_totalizers, State.evaluatedRun_curves, closingFigures]
  rw [State.expiredWindow, State.computeWindow_eq, figures]
  rfl

theorem State.expiredTotals_totalizers (s : State) (r : Run) :
    (s.expiredTotals r).totalizers = s.totalizers.set r ((s.totalizers.get r).handed
      (lookupCurve (s.curves.get r) (closingFreq s r)).1 (lookupCurve (s.curves.get r) (closingFreq s r)).2
      (closingPulses s r)) := by
  simp [State.expiredTotals, State.afterTotals]

theorem State.expiredTotals_unbatched (s : State) (r q : Run) :
    ((s.expiredTotals r).totalizers.get q).unbatched = (s.totalizers.get q).unbatched ∧
      ((s.expiredTotals r).totalizers.get q).unbatchedSaturated = (s.totalizers.get q).unbatchedSaturated := by
  rw [State.expiredTotals_totalizers, PerRun.get_set]
  split
  · rename_i e; subst e; exact ⟨Totalizer.handed_unbatched .., Totalizer.handed_unbatchedSaturated ..⟩
  · exact ⟨rfl, rfl⟩

section
variable (s : State) (r : Run)

@[simp] theorem State.expiredTotals_lines : (s.expiredTotals r).lines = s.lines := by
  simp [State.expiredTotals, State.afterTotals, State.evaluatedRun]

@[simp] theorem State.expiredTotals_queue : (s.expiredTotals r).queue = s.queue := by
  simp [State.expiredTotals, State.afterTotals, State.evaluatedRun]

@[simp] theorem State.expiredTotals_batch : (s.expiredTotals r).batch = s.batch := by
  simp [State.expiredTotals, State.afterTotals, State.evaluatedRun]

@[simp] theorem State.expiredTotals_batchSeq : (s.expiredTotals r).batchSeq = s.batchSeq := by
  simp [State.expiredTotals, State.afterTotals, State.evaluatedRun]

@[simp] theorem State.expiredTotals_history : (s.expiredTotals r).history = s.history := by
  simp [State.expiredTotals, State.afterTotals, State.evaluatedRun]

@[simp] theorem State.expiredTotals_sampler : (s.expiredTotals r).sampler = s.sampler := by
  simp [State.expiredTotals, State.afterTotals, State.evaluatedRun]

@[simp] theorem State.expiredTotals_store : (s.expiredTotals r).store = s.store := by
  simp [State.expiredTotals, State.afterTotals, State.evaluatedRun]

theorem State.expiredWindow_sameSetting : s.SameSetting (s.expiredWindow r) :=
  ((s.setChannel_sameSetting r _).trans (State.setRunState_sameSetting r _ _)).trans
    (State.computeWindow_sameSetting r _ _ _)

end

/-! ### To the unbatched accumulators (R36, R40, R41) -/

/-- A run that belongs to no open batch closes into its unbatched accumulators. -/
theorem State.expiredWindow_unbatched {r : Run} (free : ∀ b, s.batch = some b → inRunSet b.plan.runSet r = false) :
    s.expiredWindow r = (s.expiredTotals r).unbatchedWindow r (closingFigures s r) := by
  have none : (s.expiredTotals r).batchOf r = none := by simpa [State.batchOf] using free
  rw [State.expiredWindow_eq, State.routeWindow, none]

/-- The closing window in the unbatched accumulators is what R36, R40 and R41 say. -/
theorem wentUnbatched_unbatchedWindow (s : State) (r : Run) :
    wentUnbatched s ((s.expiredTotals r).unbatchedWindow r (closingFigures s r)) r := by
  obtain ⟨unbatched, saturated⟩ := s.expiredTotals_unbatched r r
  simp only [wentUnbatched, State.unbatchedWindow, State.setTotalizer_totalizers, PerRun.get_set_self, unbatched,
    saturated]
  refine ⟨tookWindow_add s r _, ?_, fun q hq => ?_, ?_⟩
  · rw [Bool.or_eq_true, passes_iff_overflowsWindow]
  · rw [PerRun.get_set_ne _ _ hq, State.expiredTotals_totalizers, PerRun.get_set_ne _ _ hq]
  · refine ⟨?_, ?_, ?_, ?_, ?_, ?_⟩ <;> simp

/-- Settles O33: with no open batch that holds the run, the close routes its figures to the unbatched accumulators. -/
theorem windowOutsideABatchIsUnbatched : Obligations.WindowOutsideABatchIsUnbatched := by
  intro r s on _ free
  have unbatched := State.expiredWindow_unbatched free
  have went : wentUnbatched s (s.expiredWindow r) r := unbatched ▸ wentUnbatched_unbatchedWindow s r
  have lines : (s.expiredWindow r).lines = s.lines := by rw [unbatched, State.unbatchedWindow]; simp
  refine ⟨_, exec_windowExpiry r on, went, ?_⟩
  obtain ⟨-, -, -, batch, batchSeq, queue, history, sampler, store⟩ := went
  have frame := (s.expiredWindow_sameSetting r).window_frame lines queue batchSeq history store
  rwa [batch, sampler] at frame

/-! ### To the open batch, below the target (R36 to R41, R70, R71) -/

/-- The state that a window of an expiry leaves when it joins the open batch below the target (R70 steps 1 to 3). -/
def State.expiredJoined (b : OpenBatch) (r : Run) (s : State) : State :=
  State.afterPreTarget (b.addWindow r (closingFigures s r))
    (((s.expiredTotals r).setBatch (some (b.addWindow r (closingFigures s r)))).sampleVolume (closingGross s r))

theorem State.expiredWindow_joined {r : Run} (opened : s.batch = some b) (member : inRunSet b.plan.runSet r = true)
    (below : b.plan.target = 0 ∨ b.runningGross + grossTaken s r b < b.plan.target) :
    s.expiredWindow r = s.expiredJoined b r := by
  have routed : (s.expiredTotals r).batchOf r = some b := by simp [State.batchOf, opened, member]
  have routes : s.expiredWindow r = State.testTargets (b.addWindow r (closingFigures s r))
      (((s.expiredTotals r).setBatch (some (b.addWindow r (closingFigures s r)))).sampleVolume (closingGross s r)) := by
    rw [State.expiredWindow_eq, State.routeWindow, routed]
    rfl
  obtain ⟨meets, -⟩ | ⟨-, e⟩ := State.testTargets_cases (b.addWindow r (closingFigures s r))
    (((s.expiredTotals r).setBatch (some (b.addWindow r (closingFigures s r)))).sampleVolume (closingGross s r))
  · obtain ⟨set, reached⟩ := (OpenBatch.closing_meetsTarget b s r).1 meets
    omega
  · exact routes.trans e

section
variable (s : State) (b : OpenBatch) (r : Run)

@[simp] theorem State.expiredJoined_batch : (s.expiredJoined b r).batch = some (b.closing s r) := by
  simp [State.expiredJoined, State.afterPreTarget, OpenBatch.closing]

theorem State.expiredJoined_totalizers : (s.expiredJoined b r).totalizers = (s.expiredTotals r).totalizers := by
  simp [State.expiredJoined, State.afterPreTarget]

/-- Neither the pins nor the queue of plans, the history nor the store changes. -/
theorem State.expiredJoined_leaves : (s.expiredJoined b r).lines = s.lines ∧ (s.expiredJoined b r).queue = s.queue ∧
    (s.expiredJoined b r).batchSeq = s.batchSeq ∧ (s.expiredJoined b r).history = s.history ∧
    (s.expiredJoined b r).store = s.store := by
  simp [State.expiredJoined, State.afterPreTarget]

/-- When the pre-target test sets its flag (R71). -/
theorem OpenBatch.addWindow_meetsPreTarget : (b.addWindow r (closingFigures s r)).meetsPreTarget = true ↔
    (b.plan.target ≠ 0 ∧ b.plan.preTarget ≠ 0 ∧
      b.plan.target ≤ b.runningGross + grossTaken s r b + b.plan.preTarget) ∧ b.flags.preTargetReached = false := by
  rw [OpenBatch.meetsPreTarget, Bool.and_eq_true, decide_eq_true_eq, Bool.not_eq_true']
  rfl

theorem OpenBatch.closing_preTargetReached : (b.closing s r).flags.preTargetReached = true ↔
    b.flags.preTargetReached = true ∨ (b.plan.target ≠ 0 ∧ b.plan.preTarget ≠ 0 ∧
      b.plan.target ≤ b.runningGross + grossTaken s r b + b.plan.preTarget) := by
  have kept : (b.addWindow r (closingFigures s r)).flags.preTargetReached = b.flags.preTargetReached := rfl
  simp only [OpenBatch.closing, OpenBatch.markPreTarget_eq, Bool.or_eq_true, kept, OpenBatch.addWindow_meetsPreTarget]
  cases b.flags.preTargetReached <;> simp

end

/-- Settles O34: below the target the close adds its figures to the run's accumulators of the batch, hands the gross to the
sampler and makes the pre-target test. -/
theorem windowOfABatchedRunJoinsTheBatch : Obligations.WindowOfABatchedRunJoinsTheBatch := by
  intro r s b reached on _ opened member _ below
  have joined := State.expiredWindow_joined opened member below
  refine ⟨s.expiredWindow r, b.closing s r, exec_windowExpiry r on, by rw [joined, State.expiredJoined_batch],
    wentIntoBatch_addWindow s r b, b.closing_preTargetReached s r, fun now unset p => ?_, fun q => ?_, ?_⟩
  · have raises := (b.addWindow_meetsPreTarget s r).2 ⟨now, unset⟩
    rw [joined, State.expiredJoined, State.afterPreTarget, raises, State.raiseIf, if_pos rfl]
    simp
  · rw [joined, State.expiredJoined_totalizers]
    exact s.expiredTotals_unbatched r q
  · obtain ⟨lines, queue, batchSeq, history, store⟩ := s.expiredJoined_leaves b r
    rw [← joined] at lines queue batchSeq history store
    exact (s.expiredWindow_sameSetting r).window_frame lines queue batchSeq history store

end

end Sys2Proof.Machine
end

section
/-! PROOFS. A concurrence in a store that is READY with a RECORD job in its queue, and the refutation of the statement on applied
changes (R141, R185, R186). -/

namespace Sys2Proof.Machine

/-! ### The state that refutes it -/

/-- WIT has concurred with a prover volume; OPR is to give the second verdict. -/
def halfConcurred : Proposal where
  id := 1
  change := .proverVolume 20000
  originator := .wit
  created := 0
  oprVerdict := .none
  witVerdict := .concur
  largeDeviation := false
  state := .opened
  ended := 0

/-- An empty batch's record under a sequence number. -/
def emptyRecord (seq : Nat) : BatchRecord :=
  { State.reset.assembleRecord (State.reset.newBatch ⟨1, 1, 0, 0, 1, .single, 1⟩ 1 1) .requested 0 with seq := seq }

/-- A part with the half-concurred proposal, whose store is READY and yet holds the RECORD job of sequence number 29, which has
not begun; record 1 is retained in the slot that the job erases first. The premises of the statement allow it, since
`State.storeLegal` is not among them. -/
def State.idleWithJob : State :=
  { State.reset with
    batchSeq := 30
    history := ⟨[⟨emptyRecord 1, .retained⟩], .all 1, .all 0⟩
    control := ⟨some halfConcurred :: List.replicate 5 none, 2, 0⟩
    store := { Store.reset with
      status := .ready, queue := [.record (emptyRecord 29)], slots := some (emptyRecord 1) :: List.replicate 27 none } }

theorem State.idleWithJob_slot {p : Proposal} (h : some p ∈ State.idleWithJob.control.slots) : p = halfConcurred := by
  rcases List.mem_cons.1 h with h | h
  · exact Option.some.inj h
  · exact absurd (List.eq_of_mem_replicate h) (Option.some_ne_none p)

/-- Where no copy of an area is marked, there is none to have a property. -/
theorem Copies.every_unmarked {α : Type} (P : α → Prop) : (⟨none, none⟩ : Copies α).every P :=
  ⟨fun _ h => absurd h.symm (Option.some_ne_none _), fun _ h => absurd h.symm (Option.some_ne_none _)⟩

theorem State.idleWithJob_tableLegal : State.idleWithJob.tableLegal := by
  refine ⟨rfl, by decide, by unfold legalId; decide, by unfold legalId; decide, by decide, fun p hp => ?_, ?_⟩
  · rw [State.idleWithJob_slot hp]
    exact ⟨nofun, nofun, nofun, fun both => absurd both.1 nofun⟩
  · exact ⟨Copies.every_unmarked _, fun _ _ _ h => absurd h.symm (Option.some_ne_none _)⟩

theorem State.idleWithJob_custodyLegal : State.idleWithJob.custodyLegal := by
  refine ⟨ParameterArea.unset_legal ?_ ?_ rfl rfl rfl,
    ⟨Copies.every_unmarked _, fun _ _ _ h => absurd h.symm (Option.some_ne_none _)⟩, fun p hp => ?_, fun r x hx => ?_⟩
  · intro r; cases r <;> rfl
  · intro r; cases r <;> rfl
  · rw [State.idleWithJob_slot hp]
    exact ⟨by decide, by decide⟩
  · cases r <;> cases hx

/-- OPR's CONCUR applies the change; the PARAMETERS request that it makes starts the waiting RECORD job, whose erase takes
record 1 out of the store and marks it NOT_RETAINED in the ring. -/
theorem State.idleWithJob_concur {t : State} (e : exec (.concur .opr [0, 1]) State.idleWithJob = .next t) :
    t.history.ring.map RingEntry.retention = [.notRetained] := by
  cases e
  rfl

/-- Refutes O55: the statement has an applied change leave the history as it was. Its premises do not hold `State.storeLegal`
(R186), so they allow a READY store with a job in its queue; there the PARAMETERS request begins that job, whose erase takes a
record of the ring out of the store. -/
theorem not_concurrenceAppliesTheChange : ¬ Obligations.ConcurrenceAppliesTheChange := by
  intro h
  obtain ⟨-, second⟩ := h .opr 0 1 0 halfConcurred State.idleWithJob nofun rfl State.idleWithJob_tableLegal
    State.idleWithJob_custodyLegal rfl rfl rfl rfl
  obtain ⟨applied, -⟩ := second rfl
  obtain ⟨t, e, -, -, -, -, -, -, -, -, -, -, -, frame⟩ := applied nofun nofun
  have kept := congrArg State.history frame
  dsimp only at kept
  have lost := State.idleWithJob_concur e
  rw [kept] at lost
  cases lost

end Sys2Proof.Machine
end

section
/-! PROOFS. Where a changed point goes in a curve (R52 to R55), and the settled statement. -/

namespace Sys2Proof.Machine

/-! ### The nearest point of the band, the lower of two equally near (R52, R53) -/

theorem freqDistance_eq_natAbs (f g : Nat) : freqDistance f g = ((f : Int) - g).natAbs := by
  unfold freqDistance; omega

/-- The search keeps a frequency that no later point is nearer than. -/
theorem foldl_nearer_keeps {f g : Nat} {l : List CurvePoint}
    (far : ∀ q ∈ l, freqDistance g f ≤ freqDistance q.freq f) :
    l.foldl (nearer f) (some g) = some g := by
  induction l with
  | nil => rfl
  | cons q l ih =>
    have kept : nearer f (some g) q = some g := if_neg (Nat.not_lt.2 (far q List.mem_cons_self))
    rw [List.foldl_cons, kept]
    exact ih fun r hr => far r (List.mem_cons_of_mem _ hr)

/-- The search takes a point that is nearer than every point before it. -/
theorem foldl_nearer_takes {f : Nat} {p : CurvePoint} {front : List CurvePoint}
    (near : ∀ q ∈ front, freqDistance p.freq f < freqDistance q.freq f) :
    nearer f (front.foldl (nearer f) none) p = some p.freq := by
  cases front with
  | nil => rfl
  | cons a l =>
    obtain ⟨h, e, source, -, -⟩ := foldl_nearer_some f a.freq l
    have nearer_h : freqDistance p.freq f < freqDistance h f := by
      rcases source with rfl | ⟨q, hq, rfl⟩
      · exact near a List.mem_cons_self
      · exact near q (List.mem_cons_of_mem _ hq)
    have found : (a :: l).foldl (nearer f) none = some h := e
    rw [found]
    exact if_pos nearer_h

/-- The search finds a point of the band that is nearer than the points of the band before it and as near as those after
it. -/
theorem nearestInBand_eq_some {f : Nat} {front rest : List CurvePoint} {p : CurvePoint} (band : inBand f p.freq = true)
    (before : ∀ q ∈ front, inBand f q.freq = true → freqDistance p.freq f < freqDistance q.freq f)
    (after : ∀ q ∈ rest, inBand f q.freq = true → freqDistance p.freq f ≤ freqDistance q.freq f) :
    nearestInBand f (front ++ p :: rest) = some p.freq := by
  rw [nearestInBand_eq, List.filter_append, List.filter_cons_of_pos (by exact band), List.foldl_append, List.foldl_cons,
    foldl_nearer_takes fun q hq => ?_, foldl_nearer_keeps fun q hq => ?_]
  · obtain ⟨mem, near⟩ := List.mem_filter.1 hq
    exact after q mem near
  · obtain ⟨mem, near⟩ := List.mem_filter.1 hq
    exact before q mem near

/-! ### The place of a point -/

section
variable {front rest points : List CurvePoint} {p x : CurvePoint}

/-- In a curve every other point has another frequency (R48). -/
theorem legalCurve.around (h : legalCurve (front ++ p :: rest)) :
    (∀ q ∈ front, q.freq < p.freq) ∧ ∀ q ∈ rest, p.freq < q.freq := by
  obtain ⟨-, ascending, -⟩ := h
  obtain ⟨-, after, before⟩ := List.pairwise_append.1 ascending
  exact ⟨fun q hq => before q hq p List.mem_cons_self, (List.pairwise_cons.1 after).1⟩

/-- A point of the band that is nearest, the lower of two equally near, is replaced in place (R53). -/
theorem applyPoint_replaces (h : legalCurve (front ++ p :: rest)) (band : inBand x.freq p.freq = true)
    (nearest : ∀ q ∈ front ++ p :: rest, inBand x.freq q.freq = true →
      freqDistance p.freq x.freq < freqDistance q.freq x.freq ∨
        (freqDistance p.freq x.freq = freqDistance q.freq x.freq ∧ p.freq ≤ q.freq)) :
    applyPoint x (front ++ p :: rest) = .ok (front ++ x :: rest) := by
  obtain ⟨lower, higher⟩ := h.around
  have found : nearestInBand x.freq (front ++ p :: rest) = some p.freq := by
    refine nearestInBand_eq_some band (fun q hq near => ?_) fun q hq near => ?_
    · have := nearest q (List.mem_append_left _ hq) near
      have := lower q hq
      omega
    · have := nearest q (List.mem_append_right _ (List.mem_cons_of_mem _ hq)) near
      omega
  have keeps {l : List CurvePoint} (other : ∀ q ∈ l, q.freq ≠ p.freq) :
      l.map (fun q => if q.freq = p.freq then x else q) = l :=
    (List.map_congr_left fun q hq => if_neg (other q hq)).trans (List.map_id l)
  rw [applyPoint, found]
  dsimp only
  rw [List.map_append, List.map_cons, if_pos rfl, keeps fun q hq => (lower q hq).ne, keeps fun q hq => (higher q hq).ne']

/-- A point of a new frequency joins between the points below it and those above it (R54). -/
theorem insertPoint_between (ascending : points.Pairwise fun p q => p.freq < q.freq)
    (new : ∀ p ∈ points, p.freq ≠ x.freq) :
    ∃ front rest, points = front ++ rest ∧ (∀ p ∈ front, p.freq < x.freq) ∧ (∀ p ∈ rest, x.freq < p.freq) ∧
      insertPoint x points = front ++ x :: rest := by
  induction points with
  | nil => exact ⟨[], [], rfl, nofun, nofun, rfl⟩
  | cons q l ih =>
    obtain ⟨first, ascends⟩ := List.pairwise_cons.1 ascending
    rcases Nat.lt_or_gt_of_ne (new q List.mem_cons_self) with below | above
    · obtain ⟨front, rest, rfl, low, high, e⟩ := ih ascends fun p hp => new p (List.mem_cons_of_mem _ hp)
      refine ⟨q :: front, rest, rfl, List.forall_mem_cons.2 ⟨below, low⟩, high, ?_⟩
      rw [insertPoint, if_neg (by omega), e, List.cons_append]
    · refine ⟨[], q :: l, rfl, nofun, List.forall_mem_cons.2 ⟨above, fun p hp => above.trans (first p hp)⟩, ?_⟩
      exact if_pos above

/-- With no point in the band the search finds none (R53). -/
theorem nearestInBand_eq_none {f : Nat} (far : ∀ p ∈ points, inBand f p.freq = false) :
    nearestInBand f points = none := by
  obtain ⟨none, -⟩ | ⟨q, hq, -, near, -⟩ := nearestInBand_cases f points
  · exact none
  · exact absurd near (by simp [far q hq])

/-- A deletion removes the point of its frequency, and no other point of a curve (R55). -/
theorem deletePoint_removes (h : legalCurve (front ++ p :: rest)) :
    deletePoint p.freq (front ++ p :: rest) = .ok (front ++ rest) := by
  obtain ⟨lower, higher⟩ := h.around
  have held : ((front ++ p :: rest).any fun q => q.freq == p.freq) = true := by simp
  have keeps {l : List CurvePoint} (other : ∀ q ∈ l, q.freq ≠ p.freq) : (l.filter fun q => q.freq != p.freq) = l :=
    List.filter_eq_self.2 fun q hq => bne_iff_ne.2 (other q hq)
  rw [deletePoint, if_pos held, List.filter_append, List.filter_cons_of_neg (by simp),
    keeps fun q hq => (lower q hq).ne, keeps fun q hq => (higher q hq).ne']

theorem deletePoint_eq_noPoint {f : Nat} (other : ∀ p ∈ points, p.freq ≠ f) : deletePoint f points = .error .noPoint :=
  if_neg (by simpa using other)

end

/-- Settles O41: the search finds the nearest point of the band or none, and the point changed goes to its place. -/
theorem curvePointChanges : Obligations.CurvePointChanges := by
  intro points x legal hx away band
  have away_eq (p : CurvePoint) : away p = freqDistance p.freq x.freq := (freqDistance_eq_natAbs ..).symm
  have band_iff (p : CurvePoint) : band p ↔ inBand x.freq p.freq = true := by rw [inBand_iff, ← away_eq]
  have none (far : ∀ p ∈ points, ¬ band p) : nearestInBand x.freq points = none :=
    nearestInBand_eq_none fun p hp => by simpa [band_iff] using far p hp
  refine ⟨?_, fun far room => ?_, fun far full => ?_, ?_, deletePoint_eq_noPoint, fun l e => legal.applyPoint hx e,
    fun l e => legal.deletePoint e⟩
  · rintro front p rest rfl near nearest
    refine applyPoint_replaces legal ((band_iff p).1 near) fun q hq hb => ?_
    rw [← away_eq, ← away_eq]
    exact nearest q hq ((band_iff q).2 hb)
  · obtain ⟨-, ascending, -⟩ := legal
    have new (p) (hp : p ∈ points) : p.freq ≠ x.freq := fun same =>
      far p hp ((band_iff p).2 (same ▸ inBand_self _))
    obtain ⟨front, rest, split, low, high, e⟩ := insertPoint_between ascending new
    refine ⟨front, rest, split, low, high, ?_⟩
    rw [applyPoint, none far, ← e]
    exact if_pos room
  · rw [applyPoint, none far]
    exact if_neg (by omega)
  · rintro front p rest rfl same
    rw [← same]
    exact deletePoint_removes legal

end Sys2Proof.Machine
end

section
/-! PROOFS. The place and the id of a posting (R131, R132, R134, R135). -/

namespace Sys2Proof.Machine

/-! ### The next id (R132) -/

/-- The `k`-th id after `i`: 0 is passed over, and 1 follows 65 535. -/
def idAfter (i k : Nat) : Nat := (i - 1 + k) % 65535 + 1

theorem idAfter_one {i : Nat} (h : legalId i) : idAfter i 1 = if 65535 ≤ i then 1 else i + 1 := by
  obtain ⟨low, high⟩ := h
  unfold idAfter
  split <;> omega

theorem idAfter_legal (i k : Nat) : legalId (idAfter i k) := by
  unfold legalId idAfter
  omega

theorem idAfter_idAfter (i j k : Nat) : idAfter (idAfter i j) k = idAfter i (j + k) := by
  unfold idAfter
  omega

/-- The counter stops at the first id after it that is not in use, if it may pass over enough of them. -/
theorem advanceId_first_free {used : List Nat} {n i m : Nat} (h : legalId i) (low : 1 ≤ m) (high : m ≤ n)
    (free : idAfter i m ∉ used) :
    ∃ k, 1 ≤ k ∧ advanceId used n i = idAfter i k ∧ idAfter i k ∉ used ∧ ∀ j, 1 ≤ j → j < k → idAfter i j ∈ used := by
  induction n generalizing i m with
  | zero => omega
  | succ n ih =>
    have unfolds : advanceId used (n + 1) i =
        if idAfter i 1 ∈ used then advanceId used n (idAfter i 1) else idAfter i 1 := by
      rw [idAfter_one h]; rfl
    by_cases taken : idAfter i 1 ∈ used
    · have later : m ≠ 1 := fun e => free (e ▸ taken)
      obtain ⟨k, -, e, unused, passed⟩ := ih (m := m - 1) (idAfter_legal i 1) (by omega) (by omega)
        (by rwa [idAfter_idAfter, Nat.add_sub_cancel' low])
      rw [idAfter_idAfter] at e unused
      refine ⟨1 + k, by omega, by rw [unfolds, if_pos taken, e], unused, fun j hj less => ?_⟩
      rcases Nat.eq_or_lt_of_le hj with rfl | hj
      · exact taken
      · have := passed (j - 1) (by omega) (by omega)
        rwa [idAfter_idAfter, Nat.add_sub_cancel' (by omega)] at this
    · exact ⟨1, Nat.le_refl _, by rw [unfolds, if_neg taken], taken, fun j hj less => by omega⟩

/-- Of the seven ids after one, fewer than seven ids in use leave one free. -/
theorem exists_idAfter_free (i : Nat) {used : List Nat} (few : used.length < 7) :
    ∃ m, 1 ≤ m ∧ m ≤ 7 ∧ idAfter i m ∉ used := by
  by_contra! all
  have distinct : ((List.range 7).map fun m => idAfter i (m + 1)).Nodup := by
    refine (List.nodup_map_iff_inj_on List.nodup_range).2 fun a ha b hb same => ?_
    rw [List.mem_range] at ha hb
    unfold idAfter at same
    omega
  have within : ((List.range 7).map fun m => idAfter i (m + 1)) ⊆ used := by
    intro x hx
    obtain ⟨m, hm, rfl⟩ := List.mem_map.1 hx
    rw [List.mem_range] at hm
    exact all (m + 1) (by omega) (by omega)
  have := (distinct.subperm within).length_le
  rw [List.length_map, List.length_range] at this
  omega

/-! ### The slot (R134) -/

theorem Proposal.isOpen_iff {p : Proposal} : p.isOpen = true ↔ p.state = .opened := beq_iff_eq

/-- One step of the search for the terminal proposal with the oldest end (R134). -/
def olderEnded (now : Seconds) (best : Option (Nat × Nat)) (x : Option Proposal × Nat) : Option (Nat × Nat) :=
  match x.1 with
  | some p => if p.isOpen then best else olderSlot best x.2 (secondsBetween p.ended now)
  | none => best

theorem olderEnded_unused (now : Seconds) (best : Option (Nat × Nat)) (n : Nat) :
    olderEnded now best (none, n) = best := rfl

theorem olderEnded_used (now : Seconds) (best : Option (Nat × Nat)) (p : Proposal) (n : Nat) :
    olderEnded now best (some p, n) = if p.isOpen then best else olderSlot best n (secondsBetween p.ended now) := rfl

theorem ChangeControl.oldestEnded_eq (c : ChangeControl) (now : Seconds) :
    c.oldestEnded now = (c.slots.zipIdx.foldl (olderEnded now) none).map Prod.fst := rfl

/-- What the search has found among numbered slots: none that ended, or one whose end is of the greatest age, the lowest of
equally old ones. -/
def foundOldest (now : Seconds) (slots : List (Option Proposal × Nat)) : Option (Nat × Nat) → Prop
  | none => ∀ p i, (some p, i) ∈ slots → p.state = .opened
  | some (i, age) => ∃ p, (some p, i) ∈ slots ∧ p.state ≠ .opened ∧ secondsBetween p.ended now = age ∧
      ∀ q j, (some q, j) ∈ slots → q.state ≠ .opened →
        secondsBetween q.ended now < age ∨ (secondsBetween q.ended now = age ∧ i ≤ j)

/-- A slot that did not end changes nothing of what was found. -/
theorem foundOldest.skip {now : Seconds} {slots : List (Option Proposal × Nat)} {best : Option (Nat × Nat)}
    {x : Option Proposal × Nat} (h : foundOldest now slots best) (opened : ∀ p, x.1 = some p → p.state = .opened) :
    foundOldest now (slots ++ [x]) best := by
  have old {p : Proposal} {i : Nat} (mem : (some p, i) ∈ slots ++ [x]) : (some p, i) ∈ slots ∨ p.state = .opened := by
    rcases List.mem_append.1 mem with mem | mem
    · exact .inl mem
    · rcases List.mem_singleton.1 mem with rfl
      exact .inr (opened p rfl)
  match best, h with
  | none, all => exact fun p i mem => (old mem).elim (all p i) id
  | some (i, age), ⟨p, held, ended, e, most⟩ =>
    exact ⟨p, List.mem_append_left _ held, ended, e, fun q j mem hq => most q j ((old mem).resolve_right hq) hq⟩

/-- A slot of a higher number that ended takes the place of what was found only if its end is of a greater age. -/
theorem foundOldest.compare {now : Seconds} {slots : List (Option Proposal × Nat)} {best : Option (Nat × Nat)}
    {p : Proposal} {n : Nat} (h : foundOldest now slots best) (ended : p.state ≠ .opened) (last : ∀ y ∈ slots, y.2 < n) :
    foundOldest now (slots ++ [(some p, n)]) (olderSlot best n (secondsBetween p.ended now)) := by
  have either {q : Proposal} {j : Nat} (mem : (some q, j) ∈ slots ++ [(some p, n)]) :
      (some q, j) ∈ slots ∨ (q = p ∧ j = n) := by simpa using mem
  have here : (some p, n) ∈ slots ++ [(some p, n)] := by simp
  match best, h with
  | none, all =>
    refine ⟨p, here, ended, rfl, fun q j mem hq => ?_⟩
    rcases either mem with mem | ⟨rfl, rfl⟩
    · exact absurd (all q j mem) hq
    · exact .inr ⟨rfl, Nat.le_refl _⟩
  | some (i, age), ⟨x, held, hx, e, most⟩ =>
    by_cases older : age < secondsBetween p.ended now
    · rw [olderSlot, if_pos older]
      refine ⟨p, here, ended, rfl, fun q j mem hq => ?_⟩
      rcases either mem with mem | ⟨rfl, rfl⟩
      · have := most q j mem hq
        omega
      · exact .inr ⟨rfl, Nat.le_refl _⟩
    · rw [olderSlot, if_neg older]
      refine ⟨x, List.mem_append_left _ held, hx, e, fun q j mem hq => ?_⟩
      rcases either mem with mem | ⟨rfl, rfl⟩
      · exact most q j mem hq
      · have := last _ held
        omega

theorem foldl_olderEnded (now : Seconds) {slots : List (Option Proposal × Nat)}
    (ascending : slots.Pairwise fun x y => x.2 < y.2) : foundOldest now slots (slots.foldl (olderEnded now) none) := by
  induction slots using List.reverseRecOn with
  | nil =>
    rw [List.foldl_nil]
    exact fun p i mem => absurd mem List.not_mem_nil
  | append_singleton slots x ih =>
    obtain ⟨before, -, last⟩ := List.pairwise_append.1 ascending
    rw [List.foldl_append, List.foldl_cons, List.foldl_nil]
    generalize slots.foldl (olderEnded now) none = best at ih
    have found := ih before
    obtain ⟨_ | p, n⟩ := x
    · rw [olderEnded_unused]
      exact found.skip fun q e => absurd e.symm (Option.some_ne_none q)
    · by_cases opened : p.state = .opened
      · rw [olderEnded_used, if_pos (Proposal.isOpen_iff.2 opened)]
        exact found.skip fun q e => Option.some.inj e ▸ opened
      · rw [olderEnded_used, if_neg (Proposal.isOpen_iff.not.2 opened)]
        exact found.compare opened fun y hy => last y hy _ List.mem_cons_self

theorem ChangeControl.foundOldest_slots (c : ChangeControl) (now : Seconds) :
    foundOldest now c.slots.zipIdx (c.slots.zipIdx.foldl (olderEnded now) none) := by
  refine foldl_olderEnded now (List.pairwise_iff_getElem.2 fun i j hi hj less => ?_)
  simpa using less

theorem ChangeControl.unusedSlot_eq_some {c : ChangeControl} {slot : Nat} (h : c.unusedSlot = some slot) :
    c.slots[slot]? = some none ∧ ∀ i, i < slot → c.slots[i]? ≠ some none := by
  obtain ⟨inside, unused, first⟩ := List.findIdx?_eq_some_iff_getElem.1 h
  refine ⟨by simpa [List.getElem?_eq_getElem inside] using unused, fun i less => ?_⟩
  have used := first i less
  rw [List.getElem?_eq_getElem (less.trans inside)]
  intro e
  simp [Option.some.inj e] at used

theorem ChangeControl.unusedSlot_eq_none {c : ChangeControl} : c.unusedSlot = none ↔ none ∉ c.slots := by
  rw [ChangeControl.unusedSlot, List.findIdx?_eq_none_iff]
  refine ⟨fun used mem => absurd (used _ mem) (by decide), fun used x mem => ?_⟩
  cases x
  · exact absurd mem used
  · rfl

/-- The slot that a posting is given is the one of R134. -/
theorem takesSlot_of_chooseSlot {s : State} {slot : Nat} (h : s.control.chooseSlot s.uptime = some slot) :
    takesSlot s slot := by
  unfold ChangeControl.chooseSlot at h
  split at h
  · rename_i unused
    cases h
    exact .inl (ChangeControl.unusedSlot_eq_some unused)
  · rename_i used
    have found := s.control.foundOldest_slots s.uptime
    rw [ChangeControl.oldestEnded_eq] at h
    obtain ⟨⟨i, age⟩, e, rfl⟩ := Option.map_eq_some_iff.1 h
    rw [e] at found
    obtain ⟨x, held, ended, rfl, most⟩ := found
    exact .inr ⟨ChangeControl.unusedSlot_eq_none.1 used, x, List.mk_mem_zipIdx_iff_getElem?.1 held, ended,
      fun j y mem hy => most y j (List.mk_mem_zipIdx_iff_getElem?.2 mem) hy⟩

/-- No slot is given exactly while the table is full of OPEN proposals (R134). -/
theorem State.chooseSlot_eq_none {s : State} : s.control.chooseSlot s.uptime = none ↔ s.tableFull := by
  constructor
  · intro h q mem
    unfold ChangeControl.chooseSlot at h
    split at h
    · cases h
    · rename_i used
      have found := s.control.foundOldest_slots s.uptime
      rw [ChangeControl.oldestEnded_eq, Option.map_eq_none_iff] at h
      rw [h] at found
      cases q with
      | none => exact absurd mem (ChangeControl.unusedSlot_eq_none.1 used)
      | some p =>
        obtain ⟨i, at_i⟩ := List.mem_iff_getElem?.1 mem
        exact ⟨p, rfl, found p i (List.mk_mem_zipIdx_iff_getElem?.2 at_i)⟩
  · intro full
    by_contra room
    obtain ⟨slot, h⟩ := Option.ne_none_iff_exists'.1 room
    obtain ⟨unused, -⟩ | ⟨-, x, held, ended, -⟩ := takesSlot_of_chooseSlot h
    · obtain ⟨x, e, -⟩ := full _ (List.mem_of_getElem? unused)
      cases e
    · obtain ⟨y, e, opened⟩ := full _ (List.mem_of_getElem? held)
      exact ended (Option.some.inj e ▸ opened)

/-! ### The posting (R134, R135) -/

section
variable {s t : State} {c : Change} {o : Originator} {d : Bool}

theorem State.postProposal_eq_none : s.postProposal c o d = none ↔ s.tableFull := by
  rw [State.postProposal, Option.map_eq_none_iff, State.chooseSlot_eq_none]

/-- The verdicts that a proposal starts with (R135). -/
theorem State.newProposal_eq (s : State) (c : Change) (o : Originator) (d : Bool) : s.newProposal c o d = {
    id := s.control.nextId, change := c, originator := o, created := s.uptime
    oprVerdict := if o = .opr then .concur else .none
    witVerdict := if o = .wit then .concur else .none
    largeDeviation := d, state := .opened, ended := 0 } := by
  cases o <;> rfl

/-- The table once a record is in a slot, with the counter moved on (R132, R134). -/
def State.postedControl (s : State) (slot : Nat) (x : Proposal) : ChangeControl :=
  let c := { s.control with slots := s.control.slots.set slot (some x) }
  { c with nextId := advanceId c.ids 7 x.id }

/-- A posting with room in the table gives the counter's id and raises PROPOSAL once (R134 to R136). -/
theorem State.postProposal_of_room (c : Change) (o : Originator) (d : Bool) (room : ¬ s.tableFull) :
    ∃ slot, takesSlot s slot ∧ s.postProposal c o d =
      some (State.raise .proposal (s.setControl (s.postedControl slot (s.newProposal c o d))), s.control.nextId, slot) := by
  obtain ⟨slot, h⟩ := Option.ne_none_iff_exists'.1 (State.chooseSlot_eq_none.not.2 room)
  refine ⟨slot, takesSlot_of_chooseSlot h, ?_⟩
  rw [State.postProposal, h]
  rfl

/-- The counter's id fits in the two bytes that report it (R130, R166). -/
theorem State.tableLegal.nextId_lt (h : s.tableLegal) : s.control.nextId < 256 ^ 2 := by
  obtain ⟨-, -, -, ⟨-, high⟩, -⟩ := h
  exact Nat.lt_succ_of_le high

/-- A legal table after a posting into a slot of R134 is what R132, R134 and R135 say. -/
theorem State.tableLegal.posts (h : s.tableLegal) {slot : Nat} (takes : takesSlot s slot)
    (ht : t.control = s.postedControl slot (s.newProposal c o d)) : posts s t c o d slot := by
  obtain ⟨six, -, -, legal, -⟩ := h
  have few : t.control.ids.length < 7 := by
    refine (List.length_filterMap_le _ _).trans_lt ?_
    rw [ht, State.postedControl, List.length_set, six]
    decide
  obtain ⟨m, low, high, free⟩ := exists_idAfter_free s.control.nextId few
  obtain ⟨k, pos, e, unused, passed⟩ := advanceId_first_free legal low high free
  have next : t.control.nextId = idAfter s.control.nextId k := by
    refine Eq.trans ?_ e
    rw [ht]
    rfl
  refine ⟨takes, ?_, ?_, next ▸ unused, k, pos, next, passed⟩
  · rw [ht, ← s.newProposal_eq c o d]
    rfl
  · rw [ht]
    rfl

end

end Sys2Proof.Machine
end

section
/-! PROOFS. PROVE_ABORT and PROVE_POST (R119, R123 to R126), and the settled statement. -/

namespace Sys2Proof.Machine

section
variable {s : State} {r : Run}

/-! ### PROVE_ABORT (R119, R123, R124) -/

/-- The end of a session that passed nothing changes the prover alone, and raises PROVING once (R124). -/
theorem State.endSession_aborted_frame (a : AbortReason) (s : State) : s.endSession .resultAborted a 0 0 =
    State.raise .proving { s with prover := (s.endSession .resultAborted a 0 0).prover } := by
  unfold State.endSession
  dsimp only
  split <;> rfl

/-- So does an abort of an active session (R119 to R124). -/
theorem State.abortSession_frame (a : AbortReason) (active : s.prover.session.state.isActive = true) :
    s.abortSession a = State.raise .proving { s with prover := (s.abortSession a).prover } := by
  unfold State.abortSession
  dsimp only
  split
  · exact State.endSession_aborted_frame a s
  · exact State.endSession_aborted_frame a _
  · exact State.endSession_aborted_frame a _
  · rename_i h1 h2 h3
    cases e : s.prover.session.state <;> rw [e] at active
    case waitDet1 => exact absurd e h1
    case inPass => exact absurd e h2
    case waitStop => exact absurd e h3
    all_goals cases active

theorem Session.aborted_eq (x : Session) : x.aborted = { x with
    state := .resultAborted
    passes := if x.state = .waitDet1 then x.passes else x.passes ++ [x.partialRecord .aborted]
    pass := if x.state = .waitDet1 then x.pass else .clear } := by
  unfold Session.aborted
  split <;> rfl

theorem State.proveAbort_of_active (active : s.prover.session.state.isActive = true)
    (run : s.prover.session.run = some r) : s.proveAbort =
      (State.raise .proving { s with prover := s.proverAborted r .requested }, .okWith []) := by
  have holds : s.prover.session.holds r = true := by simp [Session.holds, active, run]
  rw [State.proveAbort, if_pos active, State.abortSession_frame _ active, State.abortSession_of_holds _ holds]

theorem State.proveAbort_of_inactive (inactive : s.prover.session.state.isActive = false) :
    s.proveAbort = refused .wrongState s := by
  rw [State.proveAbort, inactive]
  rfl

/-! ### PROVE_POST (R58, R59, R125, R126) -/

theorem admissibleFreq_iff {f : Nat} : admissibleFreq f = true ↔ 1 ≤ f ∧ f ≤ 50000 := decide_eq_true_iff

theorem State.offerResult_of_inadmissible {x : ProvingResult} (h : ¬(1 ≤ x.freq ∧ x.freq ≤ 50000)) :
    s.offerResult r x = (s.setResult r { x with posting := .notAdmissible }, .notAdmissible) := by
  have no : admissibleFreq x.freq = false := Bool.eq_false_iff.2 (admissibleFreq_iff.not.2 h)
  rw [State.offerResult, no]
  rfl

section
variable {x : ProvingResult} (admissible : 1 ≤ x.freq ∧ x.freq ≤ 50000)
include admissible

theorem State.offerResult_of_full (full : s.tableFull) :
    s.offerResult r x = (s.setResult r { x with posting := .notPosted }, .full) := by
  simp only [State.offerResult, admissibleFreq_iff.2 admissible, State.postProposal_eq_none.2 full, Bool.not_true,
    Bool.false_eq_true, if_false]

/-- A posted result takes the proposal's id and indication (R125). -/
theorem State.offerResult_of_posted {d : Bool} (deviates : deviatesLargely (s.curves.get r) x.freq x.mf = d) {t : State}
    {id slot : Nat} (posted : s.postProposal (.mfPoint r x.freq x.mf) .prover d = some (t, id, slot)) :
    s.offerResult r x =
      (t.setResult r { x with posting := .posted, proposalId := id, largeDeviation := d }, .posted id) := by
  simp only [State.offerResult, admissibleFreq_iff.2 admissible, deviates, posted, Bool.not_true, Bool.false_eq_true,
    if_false]

end

/-- A result that has not passed, or is not waiting to be posted, is not offered (R126). -/
theorem State.provePost_refused
    (h : ∀ y, s.prover.results.get r = some y → y.endState ≠ .resultPass ∨ y.posting ≠ .notPosted) :
    s.provePost (runByte r).toNat = refused .wrongState s := by
  rw [State.provePost, runOfNumber_runByte]
  dsimp only
  cases held : s.prover.results.get r with
  | none => rfl
  | some y => exact if_pos (h y held)

/-- What PROVE_POST leaves and answers when an offer that leaves `t` ends so (R126). -/
def PostOutcome.answered (s t : State) : PostOutcome → State × Answer
  | .notAdmissible => refused .wrongState s
  | .full => refused .full s
  | .posted id => (t, .okWith (field 2 id))

/-- A result that waits to be posted is offered (R126). -/
theorem State.provePost_offered {y : ProvingResult} {t : State} {o : PostOutcome}
    (held : s.prover.results.get r = some y) (passed : y.endState = .resultPass) (waits : y.posting = .notPosted)
    (offer : s.offerResult r y = (t, o)) : s.provePost (runByte r).toNat = o.answered s t := by
  have offered : ¬(y.endState ≠ .resultPass ∨ y.posting ≠ .notPosted) := by simp [passed, waits]
  simp only [State.provePost, runOfNumber_runByte, held, if_neg offered, offer]
  cases o <;> rfl

theorem deviatesLargely_eq (points : List CurvePoint) (f m : Nat) :
    deviatesLargely points f m = decide (2500 < ((m : Int) - (lookupCurve points f).1).natAbs) := by
  rw [deviatesLargely, freqDistance_eq_natAbs]

end

/-- Settles O50: each request passes the checks of R169, and its own rule ends the session or offers the result. -/
theorem proveAbortAndPost : Obligations.ProveAbortAndPost := by
  intro r s ready table x results post wrong
  have abort {t : State} {a : Answer} (e : s.proveAbort = (t, a)) :
      exec (.proveAbort .sup []) s = .next (t.respond .sup 0x33 a) :=
    congrArg Host.Outcome.next (takeRequest_eq ready rfl rfl e)
  have offer {t : State} {a : Answer} (e : s.provePost (runByte r).toNat = (t, a)) :
      post = .next (t.respond .sup 0x34 a) :=
    congrArg Host.Outcome.next (takeRequest_eq ready rfl rfl (by rwa [argument_first]))
  refine ⟨fun inactive => abort (State.proveAbort_of_inactive inactive), fun active run => ?_, fun unset => ?_,
    fun y held => ⟨fun unfit => offer ?_, ?_⟩⟩
  · rw [abort (State.proveAbort_of_active active run), State.proverAborted, Session.aborted_eq]
    rfl
  · exact offer (State.provePost_refused fun y held => absurd (held.symm.trans unset) (Option.some_ne_none y))
  · by_cases offers : y.endState = .resultPass ∧ y.posting = .notPosted
    · obtain ⟨passed, waits⟩ := offers
      have inadmissible : ¬(1 ≤ y.freq ∧ y.freq ≤ 50000) := by
        rcases unfit with h | h | h | h
        · exact absurd passed h
        · exact absurd waits h
        · omega
        · omega
      exact State.provePost_offered held passed waits (State.offerResult_of_inadmissible inadmissible)
    · refine State.provePost_refused fun z hz => ?_
      rw [← Option.some.inj (held.symm.trans hz)]
      tauto
  · intro passed waits low high deviation
    refine ⟨fun full => offer ?_, fun room => ?_⟩
    · exact State.provePost_offered held passed waits (State.offerResult_of_full ⟨low, high⟩ full)
    · obtain ⟨slot, takes, posted⟩ := State.postProposal_of_room (.mfPoint r y.freq y.mf) .prover deviation room
      have offered := State.offerResult_of_posted ⟨low, high⟩ (deviatesLargely_eq ..) posted
      refine ⟨s.setControl _, slot, table.posts takes rfl, ?_⟩
      rw [← field_eq table.nextId_lt]
      exact offer (State.provePost_offered held passed waits offered)

end Sys2Proof.Machine
end

section
/-! PROOFS. The invariants right after reset (R177, R178, R183, R184, R190, R191), and the settled statement. -/

namespace Sys2Proof.Machine

/-! ### What a factory-new store and an empty ring hold (R184, R190) -/

theorem State.reset_retains (P : CheckpointArea → Prop) (Q : BatchRecord → Prop) : State.reset.Retains P Q :=
  { store := {
      first := fun _ h => absurd h.symm (Option.some_ne_none _)
      second := fun _ h => absurd h.symm (Option.some_ne_none _)
      writing := fun _ h => absurd h.symm (Option.some_ne_none _)
      slots := fun r h => absurd (List.eq_of_mem_replicate h) (Option.some_ne_none r)
      queue := fun _ h => absurd h List.not_mem_nil }
    ring := fun _ h => absurd h List.not_mem_nil }

theorem State.reset_everyCheckpoint (P : CheckpointArea → Prop) : State.reset.store.everyCheckpoint P :=
  (State.retains_iff.1 (State.reset_retains P fun _ => True)).1

theorem State.reset_everyRecord (Q : BatchRecord → Prop) : State.reset.everyRecord Q :=
  (State.retains_iff.1 (State.reset_retains (fun _ => True) Q)).2

theorem State.reset_noProposal {p : Proposal} : some p ∉ State.reset.control.slots := by
  intro held
  have replicated : some p ∈ List.replicate 6 (none : Option Proposal) := held
  exact Option.some_ne_none p (List.eq_of_mem_replicate replicated)

/-! ### Block by block -/

/-- The flag sets of R183: RESTARTED alone is set, at level 7, which the threshold 1 lets through to ALERT. -/
theorem State.atReset.eventsLegal {t : State} (h : t.atReset) : t.eventsLegal := by
  obtain ⟨-, -, -, -, -, ports, -⟩ := h
  intro p
  obtain ⟨-, -, -, -, events, threshold, -, alert, -⟩ := ports p
  unfold PortState.eventsLegal
  rw [threshold]
  refine ⟨fun c => ?_, Nat.le_refl _, by decide, fun _ => ⟨.restarted, ?_⟩, fun _ => alert⟩
  · rw [events]
    unfold EventEntry.legal
    split <;> decide
  · rw [events]
    decide

theorem State.reset_totalsLegal : State.reset.totalsLegal := by
  refine ⟨fun r => ?_, fun r on => ?_, nofun, State.reset_everyCheckpoint _, State.reset_everyRecord _⟩
  · exact (PerRun.get_all Totalizer.reset r).symm ▸ Totalizer.reset_legal
  · exact absurd (by cases r <;> rfl) on

theorem State.reset_plansLegal : State.reset.plansLegal :=
  ⟨⟨Nat.zero_le _, List.nodup_nil, nofun, nofun⟩, State.reset_everyCheckpoint _⟩

/-- With an empty ring every cursor stands at the end E (R84, R87). -/
theorem State.reset_historyLegal : State.reset.historyLegal := by
  refine ⟨Nat.zero_le _, .nil, nofun, fun p => .inr ?_, fun p => ?_, List.length_replicate, fun i r h => ?_⟩
  · cases p <;> rfl
  · cases p <;> exact Nat.zero_le _
  · exact absurd (List.eq_of_mem_replicate (List.mem_of_getElem? h)) (Option.some_ne_none r)

theorem State.reset_sessionLegal : State.reset.sessionLegal :=
  ⟨nofun, Nat.zero_le _, Nat.zero_le _, nofun⟩

theorem State.reset_custodyLegal : State.reset.custodyLegal := by
  refine ⟨ParameterArea.unset_legal (fun r => ?_) (fun r => ?_) rfl rfl rfl,
    ⟨Copies.every_unmarked _, fun _ _ _ h => absurd h.symm (Option.some_ne_none _)⟩,
    fun p held => absurd held State.reset_noProposal, fun r x held => ?_⟩
  · cases r <;> rfl
  · cases r <;> rfl
  · cases r <;> cases held

theorem State.reset_tableLegal : State.reset.tableLegal :=
  ⟨rfl, .nil, nofun, by unfold legalId; decide, List.not_mem_nil, fun _ held => absurd held State.reset_noProposal,
    State.reset_everyCheckpoint _⟩

theorem State.reset_samplerLegal : State.reset.samplerLegal :=
  ⟨Nat.zero_le _, nofun, nofun, rfl, fun _ => ⟨rfl, rfl⟩, State.reset_everyCheckpoint _, State.reset_everyRecord _⟩

theorem State.reset_storeLegal : State.reset.storeLegal :=
  ⟨Nat.zero_le _, nofun, fun _ => ⟨rfl, rfl⟩, nofun, fun _ => rfl, nofun⟩

theorem State.reset_recordsLegal : State.reset.recordsLegal := by
  obtain ⟨-, -, queue, writing⟩ := State.reset_everyRecord fun x => x.seq < State.reset.batchSeq
  exact ⟨fun _ => ⟨rfl, rfl⟩, nofun, queue, writing⟩

/-- Settles O4: each block's values after reset meet its invariant, and a factory-new store holds nothing that could not. -/
theorem resetMeetsEveryInvariant : Obligations.ResetMeetsEveryInvariant :=
  ⟨State.reset_atReset.eventsLegal, State.reset_channelsLegal, State.reset_totalsLegal, State.reset_plansLegal,
    State.reset_historyLegal, State.reset_sessionLegal, State.reset_custodyLegal, State.reset_tableLegal,
    State.reset_samplerLegal, State.reset_storeLegal, State.reset_recordsLegal⟩

end Sys2Proof.Machine
end

section
/-! PROOFS. The commands that leave the plans, the open batch but for its flags, the batch sequence counter, the history and the
store as they were, each with the reason. -/

namespace Sys2Proof.Machine

/-- The queue of plans, the open batch but for its flags, the batch sequence counter, the history and the store are as they
were. -/
structure State.SameBooks (s t : State) : Prop where
  queue    : t.queue = s.queue
  batch    : t.bareBatch = s.bareBatch
  batchSeq : t.batchSeq = s.batchSeq
  history  : t.history = s.history
  store    : t.store = s.store

/-- Whether a command may change the queue of plans, the open batch beside its flags, the batch sequence counter, the history or
the store. -/
def touchesBooks : Instr → Bool
  | .reset | .restoreComplete | .windowExpiry .. | .periodicCheckpoint | .jobComplete | .powerFailWarning
  | .powerFailClear | .runEnable .. | .runEnableOff .. | .batchOpen .. | .batchClose .. | .concur .. | .planAdd ..
  | .planRemove .. | .planClear .. | .readRecord .. | .findParcel .. | .setCursor .. => true
  | _ => false

section
variable {s t u : State}

theorem State.SameBooks.refl (s : State) : s.SameBooks s := ⟨rfl, rfl, rfl, rfl, rfl⟩

theorem State.SameBooks.trans (h : s.SameBooks t) (k : t.SameBooks u) : s.SameBooks u :=
  ⟨k.queue.trans h.queue, k.batch.trans h.batch, k.batchSeq.trans h.batchSeq, k.history.trans h.history,
    k.store.trans h.store⟩

theorem State.SameBooks.of_frame (hq : t.queue = s.queue) (hb : t.batch = s.batch) (hn : t.batchSeq = s.batchSeq)
    (hh : t.history = s.history) (hs : t.store = s.store) : s.SameBooks t :=
  ⟨hq, State.bareBatch_congr hb, hn, hh, hs⟩

/-- A request that only reads leaves the books. -/
theorem State.SameBooks.of_read {x : State × Answer} (h : x.1 = s) : s.SameBooks x.1 := h ▸ .refl s

theorem State.setChannel_sameBooks (s : State) (r : Run) (c : Channel) : s.SameBooks (s.setChannel r c) :=
  .of_frame rfl rfl rfl rfl rfl

theorem State.setRunState_sameBooks (s : State) (r : Run) (x : RunState) : s.SameBooks (s.setRunState r x) :=
  .of_frame (by simp) (by simp) (by simp) (by simp) (by simp)

theorem State.abortSession_sameBooks (s : State) (a : AbortReason) : s.SameBooks (s.abortSession a) :=
  .of_frame (by simp) (by simp) (by simp) (by simp) (by simp)

theorem State.evaluateFull_sameBooks (s : State) : s.SameBooks s.evaluateFull :=
  .of_frame (by simp) (by simp) (by simp) (by simp) (by simp)

theorem takeRequest_sameBooks {p : Port} {row : CatalogueRow} {args : List Byte} {body : State → State × Answer}
    {s : State} (h : s.SameBooks (body s).1) : s.SameBooks (takeRequest p row args body s) :=
  takeRequest_induction (I := s.SameBooks) (.refl s) h fun _ _ _ _ k => k.trans (.of_frame rfl rfl rfl rfl rfl)

/-! ### The pulse front end -/

theorem State.countCycle_sameBooks (s : State) (r : Run) (cls : CycleClass) (stamp : Tick) :
    s.SameBooks (s.countCycle r cls stamp) := ⟨by simp, by simp, by simp, by simp, by simp⟩

theorem execEdgeEvent_sameBooks {r : Run} {a b : Bool} {tick : Tick} (e : execEdgeEvent r a b tick s = .next t) :
    s.SameBooks t := by
  have walked (l : Lines) (c : Channel) : s.SameBooks ((s.setLines l).setChannel r c) := .of_frame rfl rfl rfl rfl rfl
  unfold execEdgeEvent at e
  dsimp only at e
  split at e
  · cases e; exact .refl s
  · split at e <;> cases e
    · exact walked _ _
    · exact (walked _ _).trans (State.countCycle_sameBooks ..)

theorem execIntegrityBlockEnd_sameBooks {r : Run} {x : Bool} (e : execIntegrityBlockEnd r x s = .next t) :
    s.SameBooks t := by
  unfold execIntegrityBlockEnd at e
  dsimp only at e
  split at e <;> cases e
  · exact .of_frame (by simp) (by simp) (by simp) (by simp) (by simp)
  · exact .refl s

/-! ### The sampler and the ports -/

theorem execGapEnd_sameBooks (e : execGapEnd s = .next t) : s.SameBooks t := by
  unfold execGapEnd at e
  split at e
  · split at e <;> cases e <;> exact .of_frame (by simp) (by simp) (by simp) (by simp) (by simp)
  · cases e; exact .refl s

theorem execRcvhiChange_sameBooks {level : Bool} (e : execRcvhiChange level s = .next t) : s.SameBooks t := by
  unfold execRcvhiChange at e
  dsimp only at e
  split at e <;> cases e
  · exact .of_frame rfl rfl rfl rfl rfl
  · refine State.SameBooks.trans ?_ (State.evaluateFull_sameBooks _)
    exact .of_frame rfl rfl rfl rfl rfl

theorem State.receiverSwap_sameBooks (s : State) : s.SameBooks s.receiverSwap.1 := by
  unfold State.receiverSwap
  split
  · exact .refl s
  · refine State.SameBooks.trans ?_ (State.evaluateFull_sameBooks _)
    exact .of_frame rfl rfl rfl rfl rfl

/-! ### Proving and the proposal table -/

theorem execNoDetector_sameBooks (e : execNoDetector s = .next t) : s.SameBooks t := by
  unfold execNoDetector at e
  dsimp only at e
  split at e <;> cases e
  · exact s.abortSession_sameBooks _
  · exact .refl s

theorem execPassTimeout_sameBooks {tD1 : Tick} (e : execPassTimeout tD1 s = .next t) : s.SameBooks t := by
  unfold execPassTimeout at e
  dsimp only at e
  split at e <;> cases e
  · exact ⟨by simp, by simp, by simp, by simp, by simp⟩
  · exact .refl s

theorem State.detectorEvent_sameBooks (s : State) (d : Detector) (tick : Tick) :
    s.SameBooks (s.detectorEvent d tick) := ⟨by simp, by simp, by simp, by simp, by simp⟩

theorem execDetectorEvent_sameBooks {d : Detector} {tick : Tick} (e : execDetectorEvent d tick s = .next t) :
    s.SameBooks t := by
  have seen (l : Lines) (x : DetectorInput) : s.SameBooks ((s.setLines l).setDetector d x) := by
    cases d <;> exact .of_frame rfl rfl rfl rfl rfl
  unfold execDetectorEvent at e
  dsimp only at e
  split at e <;> cases e
  · exact seen _ _
  · exact (seen _ _).trans (State.detectorEvent_sameBooks ..)

theorem State.proveStart_sameBooks (s : State) (n p m l post : Nat) : s.SameBooks (s.proveStart n p m l post).1 := by
  unfold State.proveStart
  split
  · exact .refl s
  · split
    · exact .refl s
    · split
      · exact .refl s
      · split <;> exact .of_frame rfl rfl rfl rfl rfl

theorem State.proveAbort_sameBooks (s : State) : s.SameBooks s.proveAbort.1 := by
  unfold State.proveAbort
  split
  · exact s.abortSession_sameBooks _
  · exact .refl s

theorem State.provePost_sameBooks (s : State) (n : Nat) : s.SameBooks (s.provePost n).1 := by
  have offered (r : Run) (x : ProvingResult) : s.SameBooks (s.offerResult r x).1 :=
    .of_frame (by simp) (by simp) (by simp) (by simp) (by simp)
  unfold State.provePost
  split
  · exact .refl s
  · rename_i r _
    split
    · exact .refl s
    · rename_i x _
      split
      · exact .refl s
      · have kept := offered r x
        split
        · exact .refl s
        · exact .refl s
        · rename_i h; rwa [h] at kept

theorem State.propose_sameBooks (s : State) (p : Port) (args : List Byte) : s.SameBooks (s.propose p args).1 := by
  unfold State.propose
  split
  · exact .refl s
  · split
    · exact .refl s
    · rename_i h
      obtain ⟨-, -, c, rfl, -⟩ := State.postProposal_some h
      exact .of_frame rfl rfl rfl rfl rfl

theorem State.withdraw_sameBooks (s : State) (p : Port) (id : Nat) : s.SameBooks (s.withdraw p id).1 := by
  unfold State.withdraw
  split
  · exact .refl s
  · split
    · exact .refl s
    · split <;> exact .of_frame rfl rfl rfl rfl rfl

/-! ### The cursors (R90 to R95) -/

/-- READ_RECORD moves the cursor to a record or the end, or moves nothing (R91). -/
theorem State.readRecord_fst_cases (s : State) (p : Port) (selector part advance : Nat) :
    (s.readRecord p selector part advance).1 = s ∨
      ∃ v, (s.readRecord p selector part advance).1 = s.setCursor p (s.seek v) := by
  unfold State.readRecord
  split
  · exact .inl rfl
  · dsimp only
    split
    · exact .inl rfl
    · split
      · exact .inr ⟨_, rfl⟩
      · exact .inl rfl

/-- FIND_PARCEL moves the cursor to a record, or moves nothing (R95). -/
theorem State.findParcel_fst_cases (s : State) (p : Port) (parcel direction move : Nat) :
    (s.findParcel p parcel direction move).1 = s ∨
      ∃ e ∈ s.history.ring, (s.findParcel p parcel direction move).1 = s.setCursor p e.record.seq := by
  unfold State.findParcel
  split
  · exact .inl rfl
  · dsimp only
    split
    · exact .inl rfl
    · rename_i e found
      have mem : e ∈ s.history.ring := by
        have scanned := List.mem_of_find?_eq_some found
        unfold History.scan at scanned
        split at scanned
        · exact List.mem_of_mem_filter scanned
        · exact List.mem_of_mem_filter (List.mem_reverse.1 scanned)
      dsimp only
      split
      · exact .inr ⟨e, mem, rfl⟩
      · exact .inl rfl

/-- The history with a port's lost count cleared (R93). -/
def History.clearLost (h : History) (p : Port) : History := { h with lost := h.lost.set p 0 }

/-- SET_CURSOR moves the cursor to a record or the end, or moves nothing, and clears the lost count (R92, R93). -/
theorem State.moveCursor_fst_cases (s : State) (p : Port) (v : Nat) :
    ∃ u, (u = s ∨ ∃ v, u = s.setCursor p (s.seek v)) ∧ (s.moveCursor p v).1 = u.setHistory (u.history.clearLost p) := by
  unfold State.moveCursor
  dsimp only
  split
  · exact ⟨s, .inl rfl, rfl⟩
  · exact ⟨_, .inr ⟨_, rfl⟩, rfl⟩

/-! ### All of them -/

/-- Every command outside `touchesBooks` leaves the books. -/
theorem exec_sameBooks {i : Instr} (hi : touchesBooks i = false) (e : exec i s = .next t) : s.SameBooks t := by
  cases i
  case reset | restoreComplete | windowExpiry | periodicCheckpoint | jobComplete | powerFailWarning | powerFailClear
    | runEnable | runEnableOff | batchOpen | batchClose | concur | planAdd | planRemove | planClear | readRecord
    | findParcel | setCursor => cases hi
  case edgeEvent => exact execEdgeEvent_sameBooks e
  case integrityBlockEnd => exact execIntegrityBlockEnd_sameBooks e
  case pulseEnd =>
    simp only [Machine.exec, execPulseEnd] at e
    split at e <;> cases e <;> exact .of_frame rfl rfl rfl rfl rfl
  case gapEnd => exact execGapEnd_sameBooks e
  case rcvhiChange => exact execRcvhiChange_sameBooks e
  case oneSecondEvent => cases e; exact .of_frame rfl rfl rfl rfl rfl
  case proposalExpiry => cases e; exact .of_frame (by simp) (by simp) (by simp) (by simp) (by simp)
  case noDetector => exact execNoDetector_sameBooks e
  case detectorEvent => exact execDetectorEvent_sameBooks e
  case passTimeout => exact execPassTimeout_sameBooks e
  case transactionBegin =>
    simp only [Machine.exec, execTransactionBegin] at e
    split at e <;> cases e <;> exact .of_frame rfl rfl rfl rfl rfl
  case sckEdge =>
    simp only [Machine.exec, execSckEdge] at e
    split at e <;> cases e <;> exact .of_frame rfl rfl rfl rfl rfl
  case frameError | unknownRequest => cases e; exact .of_frame rfl rfl rfl rfl rfl
  all_goals cases e; refine takeRequest_sameBooks ?_
  case nop | identify | readTime | readEvents | topEvent | readSampler => exact .refl s
  case setThreshold | setTime => exact .of_frame rfl rfl rfl rfl rfl
  case clearEvents => unfold State.clearEvents; split <;> exact .of_frame rfl rfl rfl rfl rfl
  case setLevel => unfold State.setLevel; split <;> exact .of_frame rfl rfl rfl rfl rfl
  case setCutoff => unfold State.setCutoff; split <;> exact .of_frame rfl rfl rfl rfl rfl
  case setIntegrityLimit => unfold State.setIntegrityLimit; split <;> exact .of_frame rfl rfl rfl rfl rfl
  case readRun => exact .of_read (s.readRun_fst _ _)
  case readTotals => exact .of_read (s.readTotals_fst _ _)
  case readCurve => exact .of_read (s.readCurve_fst _)
  case readBatch => exact .of_read (s.readBatch_fst _)
  case readQueue => exact .of_read (s.readQueue_fst _)
  case readProving => exact .of_read (s.readProving_fst _)
  case readPass => exact .of_read (s.readPass_fst _)
  case readProposal => exact .of_read (s.readProposal_fst _)
  case proveStart => exact s.proveStart_sameBooks _ _ _ _ _
  case proveAbort => exact s.proveAbort_sameBooks
  case provePost => exact s.provePost_sameBooks _
  case propose => exact s.propose_sameBooks _ _
  case reject => unfold State.reject; split <;> exact .of_frame rfl rfl rfl rfl rfl
  case withdraw => exact s.withdraw_sameBooks _ _
  case samplerHold => unfold State.samplerHold; split <;> exact .of_frame rfl rfl rfl rfl rfl
  case samplerOutput => unfold State.samplerOutput; split <;> exact .of_frame rfl rfl rfl rfl rfl
  case receiverSwap => exact s.receiverSwap_sameBooks

end

end Sys2Proof.Machine
end

section
/-! PROOFS. The queue of plans and the open batch (R60, R61, R66), through every command, and the settled statement that no step
puts a parcel id twice. -/

namespace Sys2Proof.Machine

/-! ### A queue and an open batch -/

/-- What an open batch is held to beside a queue: a legal plan whose parcel id the queue does not hold, and repeats that add up
to the plan's repeat count (R61, R66). -/
def OpenBatch.accounted (queue : List Plan) (b : OpenBatch) : Prop :=
  b.plan.legal ∧ b.plan.parcel ∉ queue.map Plan.parcel ∧ 1 ≤ b.repeatIndex ∧ 1 ≤ b.repeatsRemaining ∧
    b.repeatIndex + b.repeatsRemaining = b.plan.repeatCount + 1

section
variable {queue rest : List Plan} {batch : Option OpenBatch} {plan : Plan} {b : OpenBatch}

theorem plansLegal_iff : plansLegal queue batch ↔
    queue.length ≤ 8 ∧ (queue.map Plan.parcel).Nodup ∧ (∀ p ∈ queue, p.legal) ∧
      ∀ b, batch = some b → b.accounted queue := Iff.rfl

theorem plansLegal.accounted (h : plansLegal queue (some b)) : b.accounted queue := by
  obtain ⟨-, -, -, opened⟩ := plansLegal_iff.1 h
  exact opened b rfl

theorem plansLegal.close (h : plansLegal queue batch) : plansLegal queue none := by
  obtain ⟨size, nodup, legal, -⟩ := h
  exact ⟨size, nodup, legal, nofun⟩

theorem plansLegal.setBatch (h : plansLegal queue batch) (hb : b.accounted queue) : plansLegal queue (some b) := by
  obtain ⟨size, nodup, legal, -⟩ := h
  exact ⟨size, nodup, legal, fun _ e => Option.some.inj e ▸ hb⟩

/-- The flags of the open batch are of no account. -/
theorem plansLegal.of_bare {batch' : Option OpenBatch} (h : plansLegal queue batch)
    (e : batch'.map OpenBatch.bare = batch.map OpenBatch.bare) : plansLegal queue batch' := by
  cases batch' with
  | none => exact h.close
  | some b' =>
    obtain ⟨b, rfl, same⟩ := Option.map_eq_some_iff.1 e.symm
    have bare : b.bare.accounted queue := h.accounted
    rw [same] at bare
    exact h.setBatch bare

/-- Plans taken out of the queue leave the others legal. -/
theorem plansLegal.sublist (h : plansLegal queue batch) (sub : rest.Sublist queue) : plansLegal rest batch := by
  obtain ⟨size, nodup, legal, opened⟩ := h
  refine ⟨sub.length_le.trans size, nodup.sublist (sub.map _), fun p hp => legal p (sub.subset hp), fun b e => ?_⟩
  obtain ⟨plan, free, repeats⟩ := opened b e
  exact ⟨plan, fun held => free ((sub.map _).subset held), repeats⟩

/-- The head plan taken from the queue opens with index 1 and its repeat count remaining (R68). -/
theorem plansLegal.openHead (h : plansLegal (plan :: rest) none) (hp : b.plan = plan) (hi : b.repeatIndex = 1)
    (hr : b.repeatsRemaining = plan.repeatCount) : plansLegal rest (some b) := by
  have left := h.sublist (List.sublist_cons_self plan rest)
  obtain ⟨-, nodup, legal, -⟩ := h
  have head : plan.legal := legal plan List.mem_cons_self
  obtain ⟨free, -⟩ := List.nodup_cons.1 nodup
  refine left.setBatch ⟨hp ▸ head, hp ▸ free, hi.ge, ?_, ?_⟩
  · obtain ⟨-, -, -, -, -, -, -, once, -⟩ := head
    omega
  · rw [hi, hr, hp, Nat.add_comm]

/-- The same plan opens again with the next index and one repeat fewer (R80). -/
theorem OpenBatch.accounted.again {b' : OpenBatch} (h : b.accounted queue) (more : 1 < b.repeatsRemaining)
    (hp : b'.plan = b.plan) (hi : b'.repeatIndex = b.repeatIndex + 1)
    (hr : b'.repeatsRemaining = b.repeatsRemaining - 1) : b'.accounted queue := by
  obtain ⟨plan, free, -, -, sum⟩ := h
  exact ⟨hp ▸ plan, hp ▸ free, by omega, by omega, by rw [hp]; omega⟩

/-- A legal plan with a parcel id of its own joins the tail, where there is room (R62). -/
theorem plansLegal.add (h : plansLegal queue batch) (room : queue.length < 8) (hp : plan.legal)
    (unqueued : plan.parcel ∉ queue.map Plan.parcel) (unopened : ∀ b, batch = some b → b.plan.parcel ≠ plan.parcel) :
    plansLegal (queue ++ [plan]) batch := by
  obtain ⟨-, nodup, legal, opened⟩ := h
  refine ⟨by simpa using room, ?_, fun p mem => ?_, fun b e => ?_⟩
  · rw [List.map_append, List.map_singleton]
    exact nodup.append (List.nodup_singleton _) (List.disjoint_singleton.2 unqueued)
  · rcases List.mem_append.1 mem with mem | mem
    · exact legal p mem
    · rwa [List.mem_singleton.1 mem]
  · obtain ⟨plan, free, repeats⟩ := opened b e
    refine ⟨plan, fun held => ?_, repeats⟩
    rw [List.map_append, List.mem_append, List.map_singleton, List.mem_singleton] at held
    exact held.elim free (unopened b e)

end

/-! ### The plan that PLAN_ADD's arguments spell (R60) -/

theorem argument_lt (args : List Byte) (offset size : Nat) : argument args offset size < 256 ^ size :=
  (numberOf_lt _).trans_le (Nat.pow_le_pow_right (by decide) (List.length_take_le ..))

theorem planOfArguments_legal {args : List Byte} {plan : Plan} (h : planOfArguments args = some plan) : plan.legal := by
  have parcel := argument_lt args 0 4
  have grade := argument_lt args 4 1
  have target := argument_lt args 5 4
  have preTarget := argument_lt args 9 4
  have repeats := argument_lt args 15 1
  unfold planOfArguments at h
  dsimp only at h
  split at h
  · cases h
  · rename_i mode _
    split at h
    · cases h
    · rename_i fields
      simp only [not_or, not_and] at fields
      obtain ⟨parcel0, grade0, runs0, runs15, repeats0⟩ := fields
      cases h
      refine ⟨Nat.pos_of_ne_zero parcel0, Nat.le_of_lt_succ parcel, Nat.pos_of_ne_zero grade0, Nat.le_of_lt_succ grade,
        Nat.le_of_lt_succ target, Nat.le_of_lt_succ preTarget, fun zero => ?_, ?_, ?_, fun once => if_neg once⟩
      · have low := congrArg BitVec.toNat zero
        rw [BitVec.toNat_ofNat, Nat.mod_eq_of_lt (by omega)] at low
        exact runs0 low
      · dsimp only
        split
        · rename_i many; exact Nat.pos_of_ne_zero (repeats0 many)
        · exact Nat.le_refl 1
      · dsimp only
        split <;> omega

/-! ### The invariant through the operations -/

/-- The plans and the open batch of a checkpoint are legal. -/
def CheckpointArea.plansKept (a : CheckpointArea) : Prop := plansLegal a.queue a.batch

/-- The queue and the open batch are legal, and so is every checkpoint that the store holds or writes. -/
structure State.PlansKept (s : State) : Prop where
  plans   : Machine.plansLegal s.queue s.batch
  retains : s.Retains CheckpointArea.plansKept fun _ => True

section
variable {s t : State}

theorem State.plansLegal_iff : s.plansLegal ↔ s.PlansKept := by
  have retains : s.Retains CheckpointArea.plansKept (fun _ => True) ↔ s.store.everyCheckpoint CheckpointArea.plansKept := by
    simp [State.retains_iff, State.everyRecord]
  exact ⟨fun ⟨plans, store⟩ => ⟨plans, retains.2 store⟩, fun ⟨plans, store⟩ => ⟨plans, retains.1 store⟩⟩

/-- The checkpoint of an event holds the event's plans (R184). -/
theorem State.PlansKept.captured (h : s.PlansKept) : s.captureCheckpoint.plansKept := h.plans

theorem State.PlansKept.of_eq (h : s.PlansKept) (hq : t.queue = s.queue) (hb : t.bareBatch = s.bareBatch)
    (hs : t.store = s.store) : t.PlansKept :=
  ⟨hq ▸ h.plans.of_bare hb, ⟨hs ▸ h.retains.store, fun _ _ => trivial⟩⟩

theorem State.PlansKept.sameBooks (h : s.PlansKept) (e : s.SameBooks t) : t.PlansKept := h.of_eq e.queue e.batch e.store

theorem State.PlansKept.respond (h : s.PlansKept) (p : Port) (echo : Byte) (a : Answer) :
    (s.respond p echo a).PlansKept := h.of_eq rfl rfl rfl

/-- A change of the store alone. -/
theorem State.PlansKept.of_retains (h : s.PlansKept) (hq : t.queue = s.queue) (hb : t.batch = s.batch)
    (hr : t.Retains CheckpointArea.plansKept fun _ => True) : t.PlansKept := ⟨by rw [hq, hb]; exact h.plans, hr⟩

/-- A change of the queue and the open batch alone. -/
theorem State.PlansKept.of_plans (h : s.PlansKept) (hp : Machine.plansLegal t.queue t.batch) (hs : t.store = s.store) :
    t.PlansKept := ⟨hp, ⟨hs ▸ h.retains.store, fun _ _ => trivial⟩⟩

theorem State.PlansKept.accounted (h : s.PlansKept) {b : OpenBatch} (hb : s.batch = some b) : b.accounted s.queue := by
  have plans := h.plans
  rw [hb] at plans
  exact plans.accounted

theorem State.PlansKept.setBatch (h : s.PlansKept) {b : OpenBatch} (hb : b.accounted s.queue) :
    (s.setBatch (some b)).PlansKept := h.of_plans (h.plans.setBatch hb) rfl

/-! ### Closing and opening a batch -/

theorem State.afterAppend_queue (r : BatchRecord) (s : State) : (s.afterAppend r).queue = s.queue := by
  simp [State.afterAppend]

theorem State.PlansKept.closeBatch (h : s.PlansKept) (cause : CloseCause) (overshoot : Nat) (b : OpenBatch) :
    (s.closeBatch cause overshoot b).PlansKept := by
  have appended (r : BatchRecord) : (s.afterAppend r).captureCheckpoint.plansKept := by
    show Machine.plansLegal (s.afterAppend r).queue none
    rw [State.afterAppend_queue]
    exact h.plans.close
  exact ⟨by simpa using h.plans.close, h.retains.closeBatch (appended _) trivial⟩

theorem State.openBatch_batch (s : State) (plan : Plan) (index remaining : Nat) :
    (s.openBatch plan index remaining).batch = some (s.newBatch plan index remaining) := rfl

theorem State.PlansKept.openFromQueue {plan : Plan} {rest : List Plan} (h : s.PlansKept) (none_open : s.batch = none)
    (head : s.queue = plan :: rest) : (s.openFromQueue plan rest).PlansKept := by
  have plans := h.plans
  rw [none_open, head] at plans
  refine h.of_plans ?_ (by simp)
  exact plans.openHead (b := (s.setQueue rest).newBatch plan 1 plan.repeatCount) rfl rfl rfl

theorem State.PlansKept.continueAfter (h : s.PlansKept) (none_open : s.batch = none) {b : OpenBatch}
    (hb : b.accounted s.queue) : (s.continueAfter b).PlansKept := by
  unfold State.continueAfter
  split
  · exact h
  · split
    · exact h
    · split
      · exact h
      · rename_i head; exact h.openFromQueue none_open head
    · split
      · rename_i more; exact h.of_plans (h.plans.setBatch (hb.again more rfl rfl rfl)) (by simp)
      · exact h

/-! ### A window's hand-off -/

theorem OpenBatch.accounted.markPreTarget {queue : List Plan} {b : OpenBatch} (h : b.accounted queue) :
    b.markPreTarget.accounted queue := by
  rw [OpenBatch.markPreTarget_eq]
  exact h

theorem State.PlansKept.testTargets (h : s.PlansKept) {b : OpenBatch} (hb : b.accounted s.queue) :
    (s.testTargets b).PlansKept := by
  have tested : (s.afterPreTarget b).PlansKept :=
    (h.setBatch hb.markPreTarget).of_eq (by simp [State.afterPreTarget])
      (State.bareBatch_congr (by simp [State.afterPreTarget])) (by simp [State.afterPreTarget])
  obtain ⟨-, e⟩ | ⟨-, e⟩ := s.testTargets_cases b <;> rw [e]
  · refine (tested.closeBatch _ _ _).continueAfter (by simp) ?_
    simpa [State.afterPreTarget] using hb.markPreTarget
  · exact tested

theorem State.PlansKept.routeWindow (h : s.PlansKept) (r : Run) (w : WindowFigures) : (s.routeWindow r w).PlansKept := by
  unfold State.routeWindow
  split
  · rename_i b hb
    have held : b.accounted s.queue := h.accounted (State.batchOf_some hb).1
    have added : (b.addWindow r w).accounted s.queue := held
    refine State.PlansKept.testTargets (b := b.addWindow r w) ?_ (by simpa using added)
    exact (h.setBatch added).of_eq (by simp) (State.bareBatch_congr (by simp)) (by simp)
  · exact h.of_eq rfl rfl rfl

theorem State.PlansKept.computeWindow (h : s.PlansKept) (r : Run) (f : Nat) (w : WindowCounts) :
    (s.computeWindow r f w).PlansKept := by
  rw [State.computeWindow_eq]
  refine State.PlansKept.routeWindow (h.of_eq ?_ (State.bareBatch_congr ?_) ?_) _ _ <;> simp [State.afterTotals]

/-! ### The pulse front end -/

theorem State.PlansKept.setChannel (h : s.PlansKept) (r : Run) (c : Channel) : (s.setChannel r c).PlansKept :=
  h.sameBooks (s.setChannel_sameBooks r c)

theorem State.PlansKept.setRunState (h : s.PlansKept) (r : Run) (x : RunState) : (s.setRunState r x).PlansKept :=
  h.sameBooks (s.setRunState_sameBooks r x)

theorem execWindowExpiry_plansKept {r : Run} (h : s.PlansKept) (e : execWindowExpiry r s = .next t) : t.PlansKept := by
  unfold execWindowExpiry at e
  dsimp only at e
  split at e
  · cases e; exact h.setChannel _ _
  · split at e <;> cases e
    · exact h.setChannel _ _
    · exact (((h.setChannel _ _).setChannel _ _).setRunState _ _).computeWindow _ _ _

theorem State.PlansKept.runEnable (h : s.PlansKept) (n on : Nat) : (s.runEnable n on).1.PlansKept := by
  have enabled (r : Run) : (s.enableRun r).1.PlansKept := by
    unfold State.enableRun
    dsimp only
    split
    · exact h
    · split
      · exact h
      · exact (h.setChannel _ _).setRunState _ _
  have disabled (r : Run) : (s.disableRun r).1.PlansKept := by
    unfold State.disableRun
    dsimp only
    split
    · exact h
    · exact (((h.setChannel _ _).computeWindow _ _ _).setRunState _ _).setChannel _ _
  unfold State.runEnable
  split
  · exact h
  · split
    · exact disabled _
    · exact enabled _
    · exact h

/-! ### The batch commands (R62 to R64, R67, R74) -/

theorem State.parcelQueued_iff (s : State) (parcel : Nat) :
    s.parcelQueued parcel = true ↔ parcel ∈ s.queue.map Plan.parcel := by
  simp [State.parcelQueued]

theorem State.parcelOpen_iff (s : State) (parcel : Nat) :
    s.parcelOpen parcel = true ↔ ∃ b, s.batch = some b ∧ b.plan.parcel = parcel := by
  simp [State.parcelOpen, Option.any_eq_true]

theorem State.PlansKept.planAdd (h : s.PlansKept) (args : List Byte) : (s.planAdd args).1.PlansKept := by
  unfold State.planAdd
  split
  · exact h
  · rename_i plan spelt
    split
    · exact h
    · rename_i new
      split
      · exact h
      · rename_i room
        rw [Bool.or_eq_true, State.parcelQueued_iff, State.parcelOpen_iff, not_or] at new
        exact h.of_plans (h.plans.add (by omega) (planOfArguments_legal spelt) new.1
          fun b opened same => new.2 ⟨b, opened, same⟩) rfl

theorem State.PlansKept.planRemove (h : s.PlansKept) (parcel : Nat) : (s.planRemove parcel).1.PlansKept := by
  unfold State.planRemove
  split
  · exact h
  · split
    · exact h
    · exact h.of_plans (h.plans.sublist List.filter_sublist) rfl

theorem State.PlansKept.batchOpen (h : s.PlansKept) : s.batchOpen.1.PlansKept := by
  unfold State.batchOpen
  split
  · exact h
  · rename_i idle
    split
    · exact h
    · rename_i head
      split
      · exact h
      · exact h.openFromQueue (by simpa using idle) head

theorem State.PlansKept.batchClose (h : s.PlansKept) : s.batchClose.1.PlansKept := by
  unfold State.batchClose
  split
  · exact h
  · exact h.closeBatch _ _ _

/-! ### A custody change (R43) -/

@[simp] theorem State.applyChange_queue (c : Change) (s : State) : (s.applyChange c).1.queue = s.queue := by
  cases c with
  | kFactor r kx => simp only [State.applyChange, State.ownKFactor]; split <;> simp
  | mfPoint r f m => simp only [State.applyChange, State.ownCurve]; split <;> simp
  | mfPointDelete r f => simp only [State.applyChange, State.ownCurve]; split <;> simp
  | proverVolume bv => simp [State.applyChange, State.ownProverVolume]
  | samplerSetup g size cap => simp [State.applyChange]

/-- A new Kx sets a flag of the open batch (R43). -/
@[simp] theorem State.applyKFactor_bareBatch (r : Run) (kx : Nat) (s : State) :
    (s.applyKFactor r kx).bareBatch = s.bareBatch := by
  unfold State.applyKFactor
  dsimp only
  split
  · rename_i b hb; simp [State.bareBatch, (State.batchOf_some hb).1, OpenBatch.bare]
  · rfl

@[simp] theorem State.applyChange_bareBatch (c : Change) (s : State) : (s.applyChange c).1.bareBatch = s.bareBatch := by
  cases c with
  | kFactor r kx =>
    simp only [State.applyChange, State.ownKFactor]
    split
    · exact (State.bareBatch_congr (State.abortSession_batch ..)).trans (State.applyKFactor_bareBatch ..)
    · exact State.applyKFactor_bareBatch ..
  | mfPoint r f m => simp only [State.applyChange, State.ownCurve]; split <;> rfl
  | mfPointDelete r f => simp only [State.applyChange, State.ownCurve]; split <;> rfl
  | proverVolume bv => exact State.bareBatch_congr (by simp [State.applyChange, State.ownProverVolume])
  | samplerSetup g size cap => exact State.bareBatch_congr (by simp [State.applyChange])

theorem State.PlansKept.applyProposal (h : s.PlansKept) (slot : Nat) (x : Proposal) :
    (s.applyProposal slot x).PlansKept := by
  have owned (c : ChangeControl) : ((s.applyChange x.change).1.setControl c).PlansKept :=
    h.of_eq (by simp) (State.applyChange_bareBatch ..) (by simp)
  obtain ⟨c, e⟩ | ⟨c, d, n, e⟩ := s.applyProposal_cases slot x <;> rw [e]
  · exact (owned c).of_eq rfl rfl rfl
  · have requested := (owned c).of_retains (by simp) (by simp) ((owned c).retains.requestParameters (owned c).captured)
    exact requested.of_eq (by simp) (State.bareBatch_congr (by simp)) (by simp)

theorem State.PlansKept.concur (h : s.PlansKept) (p : Port) (id : Nat) : (s.concur p id).1.PlansKept := by
  have put (slot : Nat) (x : Proposal) : (s.putProposal slot x).PlansKept := h.of_eq rfl rfl rfl
  obtain e | ⟨slot, x, -, e | e⟩ := s.concur_cases p id <;> rw [e]
  · exact h
  · exact put _ _
  · exact (put _ _).applyProposal _ _

/-! ### Reset and the restore (R61, R82, R190) -/

theorem execReset_plansKept (h : s.PlansKept) (e : execReset s = .next t) : t.PlansKept := by
  cases e
  exact ⟨(State.plansLegal_iff.1 State.reset_plansLegal).plans, h.retains.store.restart, fun _ _ => trivial⟩

/-- The plans that a restore takes are those of a checkpoint, its open batch left out if it is stale (R61, R82). -/
theorem Store.Retains.found_plans {x : Store} {Q : BatchRecord → Prop} (h : x.Retains CheckpointArea.plansKept Q) :
    plansLegal ((x.found.checkpoint.map CheckpointArea.queue).getD []) x.found.batch := by
  unfold Found.batch
  cases found : x.found.checkpoint with
  | none => exact ⟨Nat.zero_le _, List.nodup_nil, nofun, nofun⟩
  | some a =>
    have kept : plansLegal a.queue a.batch := h.found_checkpoint found
    rw [Option.map_some, Option.getD_some, Option.bind_some]
    split
    · exact kept.of_bare (by rw [Option.map_map]; rfl)
    · exact kept.close

theorem execRestoreComplete_plansKept (h : s.PlansKept) (e : execRestoreComplete s = .next t) : t.PlansKept := by
  unfold execRestoreComplete at e
  split at e <;> cases e
  · have plans : Machine.plansLegal s.announced.queue s.announced.batch := by
      rw [State.announced_frame]; exact h.retains.store.found_plans
    have queue : s.completeRestore.queue = s.announced.queue := by
      rw [State.completeRestore_eq]; dsimp only; split <;> split <;> simp
    have batch : s.completeRestore.batch = s.announced.batch := by
      rw [State.completeRestore_eq]; dsimp only; split <;> split <;> simp
    exact ⟨by rw [queue, batch]; exact plans, h.retains.completeRestore plans⟩
  · exact h

/-! ### Every step -/

theorem State.PlansKept.tickClock (h : s.PlansKept) : s.tickClock.PlansKept := by
  unfold State.tickClock
  split <;> exact h.of_eq rfl rfl rfl

theorem State.PlansKept.request (h : s.PlansKept) {p : Port} {row : CatalogueRow} {args : List Byte}
    {body : State → State × Answer} (hb : (body s).1.PlansKept) : (takeRequest p row args body s).PlansKept :=
  takeRequest_induction h hb fun _ _ _ _ k => k.respond _ _ _

theorem State.PlansKept.exec {i : Instr} (h : s.PlansKept) (e : exec i s = .next t) : t.PlansKept := by
  by_cases hi : touchesBooks i = false
  · exact h.sameBooks (exec_sameBooks hi e)
  · cases i <;> try exact absurd rfl hi
    case reset => exact execReset_plansKept h e
    case restoreComplete => exact execRestoreComplete_plansKept h e
    case windowExpiry => exact execWindowExpiry_plansKept h e
    case periodicCheckpoint =>
      have retains := h.retains.periodicCheckpoint h.captured e
      simp only [Machine.exec, execPeriodicCheckpoint] at e
      split at e <;> cases e <;> exact h.of_retains (by simp) (by simp) retains
    case jobComplete =>
      have retains := h.retains.jobComplete h.captured e
      simp only [Machine.exec, execJobComplete] at e
      split at e <;> cases e <;> exact h.of_retains (by simp) (by simp) retains
    case powerFailWarning =>
      have retains := h.retains.powerFailWarning h.captured e
      simp only [Machine.exec, execPowerFailWarning] at e
      split at e <;> cases e <;> exact h.of_retains (by simp) (by simp) retains
    case powerFailClear =>
      have retains := h.retains.powerFailClear h.captured e
      simp only [Machine.exec, execPowerFailClear] at e
      split at e
      · split at e <;> cases e <;> exact h.of_retains (by simp) (by simp) retains
      · cases e; exact h
    case runEnable | runEnableOff => cases e; exact h.request (h.runEnable _ _)
    case batchOpen => cases e; exact h.request h.batchOpen
    case batchClose => cases e; exact h.request h.batchClose
    case planAdd => cases e; exact h.request (h.planAdd _)
    case planRemove => cases e; exact h.request (h.planRemove _)
    case planClear => cases e; exact h.request (h.of_plans (h.plans.sublist (List.nil_sublist _)) rfl)
    case readRecord p args =>
      cases e
      refine h.request ?_
      obtain e | ⟨v, e⟩ := s.readRecord_fst_cases p _ _ _ <;> rw [e]
      · exact h
      · exact h.of_eq rfl rfl rfl
    case findParcel p args =>
      cases e
      refine h.request ?_
      obtain e | ⟨x, -, e⟩ := s.findParcel_fst_cases p _ _ _ <;> rw [e]
      · exact h
      · exact h.of_eq rfl rfl rfl
    case setCursor p args =>
      cases e
      refine h.request ?_
      obtain ⟨u, rfl | ⟨v, rfl⟩, e⟩ := s.moveCursor_fst_cases p _ <;> rw [e] <;> exact h.of_eq rfl rfl rfl
    case concur => cases e; exact h.request (h.concur _ _)

/-- Settles O9: PLAN_ADD queues a legal plan under a parcel id that is neither queued nor open, an opening takes the head plan out
of the queue or goes on with the plan just closed, and a restore takes the plans of a checkpoint. -/
theorem stepKeepsPlansAndParcels : Obligations.StepKeepsPlansAndParcels := by
  intro s t legal e
  have kept := State.plansLegal_iff.1 legal
  have queued (l : List Instr) : ({ s with pending := l } : State).PlansKept := kept.of_eq rfl rfl rfl
  exact State.plansLegal_iff.2 (step_induction kept.tickClock (fun _ l => (queued l).exec) e)

end

end Sys2Proof.Machine
end

section
/-! PROOFS. The history ring (R84 to R93): what the operations of the store leave of it, and what a closed record does to the
ring, the cursors and the lost counts. -/

namespace Sys2Proof.Machine

/-! ### Record slots in their places (R185) -/

theorem slotsLegal.erase {slots : List (Option BatchRecord)} (h : slotsLegal slots) (i : Nat) :
    slotsLegal (slots.set i none) := by
  obtain ⟨size, own⟩ := h
  refine ⟨by rw [List.length_set, size], fun j r hr => ?_⟩
  rw [List.getElem?_set] at hr
  split at hr
  · split at hr <;> cases hr
  · exact own j r hr

/-- A record's marker is put in its own slot (R185). -/
theorem slotsLegal.put {slots : List (Option BatchRecord)} (h : slotsLegal slots) (r : BatchRecord) :
    slotsLegal (slots.set (slotOf r.seq) (some r)) := by
  obtain ⟨size, own⟩ := h
  refine ⟨by rw [List.length_set, size], fun j q hq => ?_⟩
  rw [List.getElem?_set] at hq
  split at hq
  · rename_i place
    split at hq <;> cases hq
    exact place
  · exact own j q hq

section
variable {s t u : State}

/-! ### The operations of the store leave the ring's records, the cursors and the lost counts -/

theorem History.seqs_eq_records (h : History) : h.seqs = h.records.map BatchRecord.seq := by
  rw [History.seqs, History.records, List.map_map]
  rfl

/-- The ring's records, the cursors and the lost counts are as they were, and each record slot still holds its own record. -/
structure State.SameRing (s t : State) : Prop where
  records : t.history.records = s.history.records
  cursors : t.history.cursors = s.history.cursors
  lost    : t.history.lost = s.history.lost
  slots   : slotsLegal s.store.slots → slotsLegal t.store.slots

theorem State.SameRing.of_history (hh : t.history = s.history) (hs : t.store.slots = s.store.slots) : s.SameRing t :=
  ⟨by rw [hh], by rw [hh], by rw [hh], fun h => hs ▸ h⟩

theorem State.SameRing.refl (s : State) : s.SameRing s := .of_history rfl rfl

theorem State.SameRing.trans (h : s.SameRing t) (k : t.SameRing u) : s.SameRing u :=
  ⟨k.records.trans h.records, k.cursors.trans h.cursors, k.lost.trans h.lost, fun l => k.slots (h.slots l)⟩

/-- Retention states are not among what stays (R85). -/
theorem State.SameRing.lose (seqs : List Nat) (hh : t.history = s.history.lose seqs) (hs : t.store.slots = s.store.slots) :
    s.SameRing t :=
  ⟨by rw [hh, History.records_lose], by rw [hh]; rfl, by rw [hh]; rfl, fun h => hs ▸ h⟩

theorem State.beginJob_sameRing (s : State) : s.SameRing s.beginJob := by
  unfold State.beginJob
  dsimp only
  split
  · exact .of_history rfl rfl
  · exact .of_history rfl rfl
  · exact .of_history rfl rfl
  · split
    · refine ⟨by simp, by simp [History.lose], by simp [History.lose], fun h => ?_⟩
      rw [State.raiseRetentionTimes_store]
      exact (((h.erase _).erase _).erase _).erase _
    · exact ⟨rfl, rfl, rfl, fun h => h.erase _⟩

theorem State.joinQueue_sameRing (j : Job) (s : State) : s.SameRing (s.joinQueue j) := by
  have joined : s.SameRing (s.setStore { s.store with queue := s.store.queue ++ [j] }) := .of_history rfl rfl
  unfold State.joinQueue
  dsimp only
  split
  · exact joined.trans (State.beginJob_sameRing _)
  · exact joined

theorem State.requestRecord_sameRing (r : BatchRecord) (s : State) : s.SameRing (s.requestRecord r) := by
  unfold State.requestRecord
  split
  · exact s.joinQueue_sameRing _
  · exact .lose [r.seq] rfl rfl

theorem State.requestParameters_sameRing (s : State) : s.SameRing s.requestParameters := by
  unfold State.requestParameters
  split
  · exact .of_history rfl rfl
  · split
    · exact .refl s
    · split
      · exact s.joinQueue_sameRing _
      · exact .of_history rfl rfl

theorem State.requestCheckpoint_sameRing (s : State) : s.SameRing s.requestCheckpoint := by
  unfold State.requestCheckpoint
  split
  · exact .refl s
  · split
    · exact s.joinQueue_sameRing _
    · exact .of_history rfl rfl

theorem Store.joinOwed_slots (x : Store) : x.joinOwed.slots = x.slots := by
  unfold Store.joinOwed
  dsimp only
  split <;> split <;> rfl

theorem State.afterCompletion_sameRing (s : State) : s.SameRing s.afterCompletion := by
  unfold State.afterCompletion
  split
  · exact .of_history rfl rfl
  · exact s.beginJob_sameRing

theorem Store.commit_slotsLegal {x : Store} (h : slotsLegal x.slots) (p : Payload) : slotsLegal (x.commit p).slots := by
  cases p with
  | record r => exact h.put r
  | parameters | checkpoint => exact h

theorem execJobComplete_sameRing (e : execJobComplete s = .next t) : s.SameRing t := by
  unfold execJobComplete at e
  split at e <;> cases e
  · exact .refl s
  · rename_i w _
    refine State.SameRing.trans ⟨History.records_complete .., ?_, ?_, fun h => ?_⟩ (State.afterCompletion_sameRing _)
    · show (s.history.complete w.payload).cursors = _
      cases w.payload <;> rfl
    · show (s.history.complete w.payload).lost = _
      cases w.payload <;> rfl
    · dsimp only
      split
      · exact Store.commit_slotsLegal h _
      · rw [Store.joinOwed_slots]
        exact Store.commit_slotsLegal h _

theorem State.actOnPowerFail_sameRing (s : State) : s.SameRing s.actOnPowerFail := by
  have dropped (n : Nat) (l : List Nat) (x : Store) (hx : x.slots = s.store.slots) :
      s.SameRing (State.raiseRetentionTimes .recordNotRetained n
        ((s.setStore x).setHistory ((s.setStore x).history.lose l))) :=
    .lose l (by simp) (by simpa using hx)
  unfold State.actOnPowerFail
  split
  · refine State.SameRing.trans ?_ (.of_history (State.raiseRetention_history ..) (by rw [State.raiseRetention_store]))
    dsimp only
    split
    · refine State.SameRing.trans (dropped _ _ _ ?_) (State.joinQueue_sameRing _ _)
      rfl
    · exact dropped _ _ _ rfl
  · exact .refl s

theorem execPowerFailWarning_sameRing (e : execPowerFailWarning s = .next t) : s.SameRing t := by
  unfold execPowerFailWarning at e
  split at e <;> cases e
  · exact .refl s
  · exact State.SameRing.trans (t := { s with
      lines := { s.lines with pfail := s.lines.pfail.report true false }
      store := { s.store with pfailActive := true } }) (.of_history rfl rfl) (State.actOnPowerFail_sameRing _)

theorem execPowerFailClear_sameRing (e : execPowerFailClear s = .next t) : s.SameRing t := by
  unfold execPowerFailClear at e
  dsimp only at e
  split at e
  · split at e <;> cases e
    · refine State.SameRing.trans (.of_history ?_ ?_) (State.beginJob_sameRing _)
      · rfl
      · exact Store.joinOwed_slots _
    · exact .of_history rfl rfl
  · cases e; exact .refl s

/-! ### A full ring drops its oldest record (R84, R88) -/

/-- A cursor below the new oldest record is moved up to it. -/
theorem State.dropFor_cursors (oldest : Nat) (s : State) (p : Port) :
    (State.dropFor oldest s p).history.cursors =
      s.history.cursors.set p (max (s.history.cursors.get p) oldest) := by
  unfold State.dropFor
  split
  · rename_i low; simp [Nat.max_eq_right low.le]
  · rename_i high; rw [Nat.max_eq_left (Nat.le_of_not_lt high), PerPort.set_get]

theorem State.dropFor_lost (oldest : Nat) (s : State) (p : Port) :
    (State.dropFor oldest s p).history.lost = s.history.lost.set p
      (if s.history.cursors.get p < oldest then min (s.history.lost.get p + 1) 255 else s.history.lost.get p) := by
  unfold State.dropFor
  split
  · simp [satAdd, max8]
  · rw [PerPort.set_get]

/-- The sequence numbers that a ring keeps when a record is to join it (R84). -/
def History.keptSeqs (h : History) : List Nat := h.seqs.drop (if 24 ≤ h.ring.length then 1 else 0)

theorem State.dropOldest_seqs (s : State) : s.dropOldest.history.seqs = s.history.keptSeqs := by
  rw [History.seqs, State.dropOldest_history_ring, History.keptSeqs, History.seqs]
  split
  · exact List.map_drop
  · rfl

theorem State.dropOldest_oldestSeq (s : State) (full : 24 ≤ s.history.ring.length) : s.dropOldest.oldestSeq =
    (s.setHistory { s.history with ring := s.history.ring.drop 1 }).oldestSeq := by
  rw [State.oldestSeq, State.oldestSeq, State.dropOldest_batchSeq, State.dropOldest_seqs, History.keptSeqs, if_pos full,
    History.seqs, ← List.map_drop]
  rfl

/-- What a full ring's new oldest record does to the cursors and the lost counts. -/
theorem State.dropOldest_full (s : State) (full : 24 ≤ s.history.ring.length) (p : Port) :
    s.dropOldest.history.cursors.get p = max (s.history.cursors.get p) s.dropOldest.oldestSeq ∧
    s.dropOldest.history.lost.get p = (if s.history.cursors.get p < s.dropOldest.oldestSeq
      then min (s.history.lost.get p + 1) 255 else s.history.lost.get p) := by
  rw [s.dropOldest_oldestSeq full, State.dropOldest, if_pos full]
  simp only [allPorts, List.foldl_cons, List.foldl_nil, State.dropFor_cursors, State.dropFor_lost]
  cases p <;> exact ⟨rfl, rfl⟩

theorem State.dropOldest_room (s : State) (room : s.history.ring.length < 24) : s.dropOldest = s :=
  if_neg (Nat.not_le.2 room)

/-! ### A legal ring (R84, R87) -/

theorem State.historyLegal.of_eq (h : s.historyLegal) (hh : t.history = s.history) (hn : t.batchSeq = s.batchSeq)
    (hs : t.store.slots = s.store.slots) : t.historyLegal := by
  unfold State.historyLegal State.endSeq
  rw [hh, hn, hs]
  exact h

theorem State.historyLegal.sameRing (h : s.historyLegal) (e : s.SameRing t) (hn : t.batchSeq = s.batchSeq) :
    t.historyLegal := by
  obtain ⟨size, ascending, below, cursors, lost, slots⟩ := h
  have seqs : t.history.seqs = s.history.seqs := by
    rw [History.seqs_eq_records, History.seqs_eq_records, e.records]
  have length : t.history.ring.length = s.history.ring.length := by
    have := congrArg List.length e.records
    simpa [History.records] using this
  unfold State.historyLegal State.endSeq
  rw [length, seqs, hn, e.cursors, e.lost]
  exact ⟨size, ascending, below, cursors, lost, e.slots slots⟩

theorem State.historyLegal.ascending (h : s.historyLegal) : s.history.seqs.Pairwise (· < ·) := by
  obtain ⟨-, ascending, -⟩ := h
  exact ascending

theorem State.historyLegal.below (h : s.historyLegal) : ∀ q ∈ s.history.seqs, q < s.batchSeq := by
  obtain ⟨-, -, below, -⟩ := h
  exact below

theorem History.length_seqs (h : History) : h.seqs.length = h.ring.length := List.length_map _

/-- The end E is above every record of the ring, and no record's number (R84). -/
theorem State.historyLegal.lt_endSeq (h : s.historyLegal) {q : Nat} (hq : q ∈ s.history.seqs) : q < s.endSeq := by
  obtain ⟨front, last, seqs⟩ := List.eq_nil_or_concat s.history.seqs |>.resolve_left (List.ne_nil_of_mem hq)
  rw [List.concat_eq_append] at seqs
  have ascending := h.ascending
  rw [seqs] at hq ascending
  rw [State.endSeq, seqs, List.getLast?_concat, Option.map_some, Option.getD_some]
  rcases List.mem_append.1 hq with hq | hq
  · obtain ⟨-, -, less⟩ := List.pairwise_append.1 ascending
    exact (less q hq last (List.mem_singleton_self _)).trans (Nat.lt_succ_self _)
  · rw [List.mem_singleton.1 hq]
    exact Nat.lt_succ_self _

theorem History.keptSeqs_sublist (h : History) : h.keptSeqs.Sublist h.seqs := List.drop_sublist ..

/-- The end does not move when the oldest record is dropped: a full ring has others. -/
theorem State.dropOldest_endSeq (s : State) : s.dropOldest.endSeq = s.endSeq := by
  rw [State.endSeq, State.endSeq, State.dropOldest_batchSeq, State.dropOldest_seqs, History.keptSeqs]
  split
  · rename_i full
    rw [List.getLast?_drop, if_neg (by rw [History.length_seqs]; omega)]
  · rfl

/-- What the ring keeps is at or above its oldest record, and so is the end. -/
theorem State.historyLegal.oldest_le (h : s.historyLegal) {q : Nat} (hq : q ∈ s.history.keptSeqs ∨ q = s.endSeq) :
    s.dropOldest.oldestSeq ≤ q := by
  have kept := h.ascending.sublist s.history.keptSeqs_sublist
  rw [State.oldestSeq, State.dropOldest_batchSeq, State.dropOldest_seqs]
  cases ring : s.history.keptSeqs with
  | nil =>
    have empty : s.history.seqs = [] := by
      rw [History.keptSeqs, List.drop_eq_nil_iff, History.length_seqs] at ring
      rw [← List.length_eq_zero_iff, History.length_seqs]
      split at ring <;> omega
    rcases hq with hq | rfl
    · rw [ring] at hq; cases hq
    · rw [State.endSeq, empty]; exact Nat.le_refl _
  | cons first rest =>
    rw [ring] at kept hq
    have least : ∀ q ∈ first :: rest, first ≤ q := fun q hq =>
      (List.mem_cons.1 hq).elim (fun e => e.ge) fun hq => ((List.pairwise_cons.1 kept).1 q hq).le
    have end_above : first < s.endSeq :=
      h.lt_endSeq (s.history.keptSeqs_sublist.subset (ring ▸ List.mem_cons_self))
    rcases hq with hq | rfl
    · exact least q hq
    · exact end_above.le

/-- A cursor on a record that the ring keeps, or at the end, stays where it is, and nothing is lost. -/
theorem State.historyLegal.dropOldest_stays (h : s.historyLegal) {p : Port}
    (hp : s.history.cursors.get p ∈ s.history.keptSeqs ∨ s.history.cursors.get p = s.endSeq) :
    s.dropOldest.history.cursors.get p = s.history.cursors.get p ∧
      s.dropOldest.history.lost.get p = s.history.lost.get p := by
  rcases Nat.lt_or_ge s.history.ring.length 24 with room | full
  · rw [State.dropOldest_room s room]
    exact ⟨rfl, rfl⟩
  · have high := h.oldest_le hp
    obtain ⟨cursor, lost⟩ := s.dropOldest_full full p
    exact ⟨cursor.trans (Nat.max_eq_left high), lost.trans (if_neg (Nat.not_lt.2 high))⟩

/-- A cursor on the record that a full ring drops moves to the new oldest, and its port has lost one more (R88). -/
theorem State.historyLegal.dropOldest_moves (h : s.historyLegal) {p : Port} {oldest second : Nat} {rest : List Nat}
    (ring : s.history.seqs = oldest :: second :: rest) (full : 24 ≤ s.history.ring.length)
    (hp : s.history.cursors.get p = oldest) :
    s.history.cursors.get p < s.dropOldest.oldestSeq ∧ s.dropOldest.history.cursors.get p = second ∧
      s.dropOldest.history.lost.get p = min (s.history.lost.get p + 1) 255 := by
  have less : oldest < second := by
    have ascending := h.ascending
    rw [ring] at ascending
    exact (List.pairwise_cons.1 ascending).1 second List.mem_cons_self
  have new : s.dropOldest.oldestSeq = second := by
    rw [State.oldestSeq, State.dropOldest_seqs, History.keptSeqs, if_pos full, ring]
    rfl
  obtain ⟨cursor, lost⟩ := s.dropOldest_full full p
  rw [new, hp] at cursor lost
  exact ⟨by rw [new, hp]; exact less, cursor.trans (Nat.max_eq_right less.le), lost.trans (if_pos less)⟩

/-! ### A record joins the ring (R79, R84, R89) -/

theorem State.appendRecord_seqs (r : BatchRecord) (s : State) :
    (s.appendRecord r).history.seqs = s.history.keptSeqs ++ [r.seq] := by
  rw [History.seqs, State.appendRecord_history_ring, List.map_append, ← History.seqs, State.dropOldest_seqs]
  rfl

theorem State.appendRecord_cursors (r : BatchRecord) (s : State) (p : Port) :
    (s.appendRecord r).history.cursors.get p = catchUp s.endSeq r.seq (s.dropOldest.history.cursors.get p) := by
  rw [← State.dropOldest_endSeq]
  exact PerPort.get_ofFn _ p

/-- A cursor in a legal ring is at the end, on a record that the ring keeps, or on the one that a full ring drops. -/
theorem State.historyLegal.cursor_cases (h : s.historyLegal) (p : Port) :
    s.history.cursors.get p = s.endSeq ∨ s.history.cursors.get p ∈ s.history.keptSeqs ∨
      ∃ second rest, s.history.seqs = s.history.cursors.get p :: second :: rest ∧ 24 ≤ s.history.ring.length := by
  obtain ⟨-, -, -, cursors, -⟩ := h
  rcases cursors p with mem | e
  · rcases Nat.lt_or_ge s.history.ring.length 24 with room | full
    · rw [History.keptSeqs, if_neg (by omega)]
      exact .inr (.inl mem)
    · rw [History.keptSeqs, if_pos full]
      have length := s.history.length_seqs
      match ring : s.history.seqs with
      | [] | [_] => rw [ring] at length; simp only [List.length_nil, List.length_cons] at length; omega
      | oldest :: second :: rest =>
        rw [ring] at mem
        rcases List.mem_cons.1 mem with same | mem
        · exact .inr (.inr ⟨second, rest, by rw [same], full⟩)
        · exact .inr (.inl mem)
  · exact .inl e

/-- Once a record has joined, every cursor names a record (R87, R89). -/
theorem State.historyLegal.appendRecord_cursor_mem (h : s.historyLegal) (r : BatchRecord) (p : Port) :
    (s.appendRecord r).history.cursors.get p ∈ (s.appendRecord r).history.seqs := by
  rw [State.appendRecord_seqs, State.appendRecord_cursors, catchUp]
  split
  · exact List.mem_append_right _ (List.mem_singleton_self _)
  · rename_i off
    refine List.mem_append_left _ ?_
    rcases h.cursor_cases p with atEnd | kept | ⟨second, rest, ring, full⟩
    · obtain ⟨cursor, -⟩ := h.dropOldest_stays (.inr atEnd)
      exact absurd (cursor.trans atEnd) off
    · obtain ⟨cursor, -⟩ := h.dropOldest_stays (.inl kept)
      rwa [cursor]
    · obtain ⟨-, cursor, -⟩ := h.dropOldest_moves ring full rfl
      rw [cursor, History.keptSeqs, if_pos full, ring]
      exact List.mem_cons_self

/-- Lost counts stay within 8 bits (R88). -/
theorem State.dropOldest_lost_le (s : State) (p : Port) (h : s.history.lost.get p ≤ max8) :
    s.dropOldest.history.lost.get p ≤ max8 := by
  rcases Nat.lt_or_ge s.history.ring.length 24 with room | full
  · rwa [State.dropOldest_room s room]
  · obtain ⟨-, lost⟩ := s.dropOldest_full full p
    rw [lost]
    split
    · exact Nat.min_le_right ..
    · exact h

/-- A batch's record, numbered by the counter, joins a legal ring, and the counter moves on (R78, R79). -/
theorem State.historyLegal.afterAppend (h : s.historyLegal) {r : BatchRecord} (number : r.seq = s.batchSeq) :
    (s.afterAppend r).historyLegal := by
  have seqs : (s.afterAppend r).history.seqs = s.history.keptSeqs ++ [s.batchSeq] :=
    number ▸ s.appendRecord_seqs r
  have next : (s.afterAppend r).batchSeq = s.batchSeq + 1 := congrArg (· + 1) (s.appendRecord_batchSeq r)
  have below (q : Nat) (hq : q ∈ s.history.keptSeqs) : q < s.batchSeq :=
    h.below q (s.history.keptSeqs_sublist.subset hq)
  have ascending := h.ascending.sublist s.history.keptSeqs_sublist
  have cursors := h.appendRecord_cursor_mem r
  obtain ⟨size, -, -, -, lost, slots⟩ := h
  refine ⟨?_, ?_, fun q hq => ?_, fun p => .inl (cursors p), fun p => s.dropOldest_lost_le p (lost p), ?_⟩
  · rw [← History.length_seqs, seqs, List.length_append, History.keptSeqs, List.length_drop, History.length_seqs,
      List.length_singleton]
    split <;> omega
  · rw [seqs, List.pairwise_append]
    exact ⟨ascending, List.pairwise_singleton .., fun x hx y hy => List.mem_singleton.1 hy ▸ below x hx⟩
  · rw [seqs] at hq
    rw [next, Nat.lt_succ_iff]
    exact (List.mem_append.1 hq).elim (fun hq => (below q hq).le) fun hq => (List.mem_singleton.1 hq).le
  · show slotsLegal (s.appendRecord r).store.slots
    rwa [State.appendRecord_store]

/-- The requests of a close leave the ring's records, the cursors and the lost counts as the record's joining left them. -/
theorem State.closeBatch_sameRing (cause : CloseCause) (overshoot : Nat) (b : OpenBatch) (s : State) :
    (s.afterAppend (s.assembleRecord b cause overshoot)).SameRing (s.closeBatch cause overshoot b) := by
  rw [State.closeBatch_eq]
  exact ((State.requestRecord_sameRing _ _).trans (State.requestCheckpoint_sameRing _)).trans
    (.of_history (State.raise_history _ _) (by rw [State.raise_store]))

theorem State.closeBatch_batchSeq (cause : CloseCause) (overshoot : Nat) (b : OpenBatch) (s : State) :
    (s.closeBatch cause overshoot b).batchSeq = s.batchSeq + 1 := by
  simp [State.closeBatch]

theorem State.historyLegal.closeBatch (h : s.historyLegal) (cause : CloseCause) (overshoot : Nat) (b : OpenBatch) :
    (s.closeBatch cause overshoot b).historyLegal := by
  refine (h.afterAppend (r := s.assembleRecord b cause overshoot) rfl).sameRing
    (State.closeBatch_sameRing cause overshoot b s) ?_
  rw [State.closeBatch_batchSeq]
  exact (congrArg (· + 1) (s.appendRecord_batchSeq _)).symm

end

end Sys2Proof.Machine
end

section
/-! PROOFS. Records numbered below the batch sequence counter (R78, R185, R190), through the operations of the store; the step of
an invariant on the history, the counter and the store; and the settled statement on the ring and the cursors. -/

namespace Sys2Proof.Machine

/-! ### Records below a number -/

/-- Outside RESTORING every record that a store holds, waits to write or is writing is numbered below `n`; a store that is
RESTORING has no job. -/
structure Store.Below (n : Nat) (x : Store) : Prop where
  idle    : x.status = .restoring → x.queue = [] ∧ x.writing = none
  slots   : x.status ≠ .restoring → ∀ r, some r ∈ x.slots → r.seq < n
  queue   : ∀ j ∈ x.queue, j.has fun r => r.seq < n
  writing : ∀ w, x.writing = some w → w.payload.has (fun _ => True) fun r => r.seq < n

section
variable {s t : State} {x y : Store} {n m : Nat}

theorem State.isRestoring_iff (s : State) : s.isRestoring = true ↔ s.store.status = .restoring := beq_iff_eq

theorem State.isRestoring_eq_false (s : State) : s.isRestoring = false ↔ s.store.status ≠ .restoring := beq_eq_false_iff_ne

theorem State.recordsLegal_iff : s.recordsLegal ↔ s.store.Below s.batchSeq := by
  unfold State.recordsLegal
  rw [State.isRestoring_iff, State.isRestoring_eq_false]
  constructor
  · rintro ⟨idle, slots, queue, writing⟩
    refine ⟨idle, slots, fun j hj => ?_, fun w hw => ?_⟩
    · cases j with
      | record r => exact queue r hj
      | parameters | checkpoint => trivial
    · cases payload : w.payload with
      | record r => exact writing w r hw payload
      | parameters | checkpoint => trivial
  · rintro ⟨idle, slots, queue, writing⟩
    refine ⟨idle, slots, fun r hr => queue _ hr, fun w r hw payload => ?_⟩
    have has := writing w hw
    rwa [payload] at has

theorem Store.Below.mono (h : x.Below n) (le : n ≤ m) : x.Below m where
  idle := h.idle
  slots run r hr := (h.slots run r hr).trans_le le
  queue j hj := by
    have has := h.queue j hj
    cases j with
    | record r => exact has.trans_le le
    | parameters | checkpoint => trivial
  writing w hw := by
    have has := h.writing w hw
    cases payload : w.payload with
    | record r => rw [payload] at has; exact has.trans_le le
    | parameters | checkpoint => trivial

/-- Changes of what no clause speaks of. -/
theorem Store.Below.of_eq (h : x.Below n) (status : y.status = x.status) (slots : y.slots = x.slots)
    (queue : y.queue = x.queue) (writing : y.writing = x.writing) : y.Below n :=
  ⟨by rw [status, queue, writing]; exact h.idle, by rw [status, slots]; exact h.slots, by rw [queue]; exact h.queue,
    by rw [writing]; exact h.writing⟩

/-! ### Jobs -/

/-- A store that leaves RESTORING, or has left it, with jobs and slots below the number. -/
theorem Store.Below.of_running (run : x.status ≠ .restoring) (slots : ∀ r, some r ∈ x.slots → r.seq < n)
    (queue : ∀ j ∈ x.queue, j.has fun r => r.seq < n)
    (writing : ∀ w, x.writing = some w → w.payload.has (fun _ => True) fun r => r.seq < n) : x.Below n :=
  ⟨fun restoring => absurd restoring run, fun _ => slots, queue, writing⟩

theorem State.beginJob_below (h : s.store.Below n) (run : s.store.status ≠ .restoring) : s.beginJob.store.Below n := by
  have kept := h.slots run
  have queue := h.queue
  have erased {l : List (Option BatchRecord)} {i : Nat} {r : BatchRecord} (held : some r ∈ l.set i none) : some r ∈ l :=
    (List.mem_or_eq_of_mem_set held).resolve_right nofun
  unfold State.beginJob
  dsimp only
  split
  · exact .of_running nofun kept queue fun _ hw => absurd hw.symm (Option.some_ne_none _)
  · exact .of_running nofun kept queue fun w hw => by cases hw; trivial
  · exact .of_running nofun kept queue fun w hw => by cases hw; trivial
  · rename_i r rest jobs
    have first : r.seq < n := queue (.record r) (jobs ▸ List.mem_cons_self)
    split
    · rw [State.raiseRetentionTimes_store]
      exact .of_running nofun (fun q hq => kept q (mem_of_mem_eraseSector hq)) queue fun w hw => by cases hw; exact first
    · exact .of_running nofun (fun q hq => kept q (erased hq)) queue fun w hw => by cases hw; exact first

/-- A job joins the queue of a store that runs. -/
theorem Store.Below.join (h : x.Below n) (run : x.status ≠ .restoring) {j : Job} (hj : j.has fun r => r.seq < n) :
    Store.Below n { x with queue := x.queue ++ [j] } := by
  refine .of_running run (h.slots run) (fun i hi => ?_) h.writing
  rcases List.mem_append.1 hi with hi | hi
  · exact h.queue i hi
  · rwa [List.mem_singleton.1 hi]

theorem State.joinQueue_below {j : Job} (h : s.store.Below n) (run : s.store.status ≠ .restoring)
    (hj : j.has fun r => r.seq < n) : (s.joinQueue j).store.Below n := by
  have joined : (s.setStore { s.store with queue := s.store.queue ++ [j] }).store.Below n := h.join run hj
  unfold State.joinQueue
  dsimp only
  split
  · exact State.beginJob_below joined run
  · exact joined

theorem Store.takesJobs_run (h : x.takesJobs = true) : x.status ≠ .restoring := by
  rintro restoring
  simp [Store.takesJobs, restoring] at h

theorem State.requestRecord_below {r : BatchRecord} (h : s.store.Below n) (hr : r.seq < n) :
    (s.requestRecord r).store.Below n := by
  unfold State.requestRecord
  split
  · rename_i taken; exact State.joinQueue_below h (Store.takesJobs_run taken.1) hr
  · exact h

theorem State.requestParameters_below (h : s.store.Below n) : s.requestParameters.store.Below n := by
  unfold State.requestParameters
  split
  · exact h.of_eq rfl rfl rfl rfl
  · split
    · exact h
    · split
      · rename_i taken; exact State.joinQueue_below h (Store.takesJobs_run taken.1) trivial
      · exact h.of_eq rfl rfl rfl rfl

theorem State.requestCheckpoint_below (h : s.store.Below n) : s.requestCheckpoint.store.Below n := by
  unfold State.requestCheckpoint
  split
  · exact h
  · split
    · rename_i taken; exact State.joinQueue_below h (Store.takesJobs_run taken.1) trivial
    · exact h.of_eq rfl rfl rfl rfl

theorem Store.joinOwed_status (x : Store) : x.joinOwed.status = x.status := by
  unfold Store.joinOwed
  dsimp only
  split <;> split <;> rfl

theorem Store.Below.joinOwed (h : x.Below n) (run : x.status ≠ .restoring) : x.joinOwed.Below n := by
  have parameters := h.join run (j := .parameters) trivial
  unfold Store.joinOwed
  dsimp only
  split <;> split
  · exact (parameters.join run (j := .checkpoint) trivial).of_eq rfl rfl rfl rfl
  · exact parameters.of_eq rfl rfl rfl rfl
  · exact (h.join run (j := .checkpoint) trivial).of_eq rfl rfl rfl rfl
  · exact h

theorem State.afterCompletion_below (h : s.store.Below n) (run : s.store.status ≠ .restoring) :
    s.afterCompletion.store.Below n := by
  unfold State.afterCompletion
  split
  · exact .of_running nofun (h.slots run) h.queue fun _ hw => absurd hw.symm (Option.some_ne_none _)
  · exact State.beginJob_below h run

/-- A job that is done has put its marker in place, and leaves the queue (R184 to R186). -/
theorem Store.Below.finish (h : x.Below n) (run : x.status ≠ .restoring) {p : Payload}
    (hp : p.has (fun _ => True) fun r => r.seq < n) :
    Store.Below n { x.commit p with queue := x.queue.drop 1, writing := none } := by
  have queue : ∀ j ∈ x.queue.drop 1, j.has fun r => r.seq < n := fun j hj => h.queue j (List.mem_of_mem_drop hj)
  have none_writing (w : Writing) (hw : none = some w) : w.payload.has (fun _ => True) fun r => r.seq < n :=
    absurd hw.symm (Option.some_ne_none _)
  cases p with
  | parameters | checkpoint => exact .of_running run (h.slots run) queue none_writing
  | record r =>
    refine .of_running run (fun q hq => ?_) queue none_writing
    rcases List.mem_or_eq_of_mem_set hq with hq | hq
    · exact h.slots run q hq
    · cases hq; exact hp

theorem Store.commit_status (x : Store) (p : Payload) : (x.commit p).status = x.status := by cases p <;> rfl

theorem execJobComplete_below (h : s.store.Below n) (e : execJobComplete s = .next t) : t.store.Below n := by
  unfold execJobComplete at e
  split at e <;> cases e
  · exact h
  · rename_i w writing
    have run : s.store.status ≠ .restoring := fun restoring => by
      obtain ⟨-, none_writing⟩ := h.idle restoring
      rw [writing] at none_writing
      cases none_writing
    have done := h.finish run (h.writing w writing)
    have still : (s.store.commit w.payload).status ≠ .restoring := by rwa [Store.commit_status]
    have owed : ∀ z : Store, z.Below n → z.status ≠ .restoring →
        (if z.powerFail then z else z.joinOwed).Below n ∧ (if z.powerFail then z else z.joinOwed).status ≠ .restoring := by
      intro z hz run
      split
      · exact ⟨hz, run⟩
      · exact ⟨hz.joinOwed run, by rwa [Store.joinOwed_status]⟩
    obtain ⟨below, running⟩ := owed _ done still
    exact State.afterCompletion_below below running

/-! ### Power fail (R188, R189) -/

theorem State.actOnPowerFail_below (h : s.store.Below n) : s.actOnPowerFail.store.Below n := by
  have lost (k : Nat) (l : List Nat) (u : State) :
      (State.raiseRetentionTimes .recordNotRetained k (u.setHistory (u.history.lose l))).store = u.store := by simp
  unfold State.actOnPowerFail
  split
  · rename_i taken
    have run := Store.takesJobs_run taken
    have dropped (kept : Job → Bool) (owed : Bool) : Store.Below n { s.store with
        powerFail := true, queue := s.store.queue.take 1 ++ s.store.waiting.filter kept, owedParameters := owed } := by
      refine .of_running run (h.slots run) (fun j hj => h.queue j ?_) h.writing
      rcases List.mem_append.1 hj with hj | hj
      · exact List.mem_of_mem_take hj
      · exact List.mem_of_mem_drop (List.mem_of_mem_filter hj)
    rw [State.raiseRetention_store]
    dsimp only
    split
    · refine State.joinQueue_below ?_ ?_ trivial <;> rw [lost]
      · exact dropped _ _
      · exact run
    · rw [lost]
      exact dropped _ _
  · exact h

theorem execPowerFailWarning_below (h : s.store.Below n) (e : execPowerFailWarning s = .next t) : t.store.Below n := by
  unfold execPowerFailWarning at e
  split at e <;> cases e
  · exact h
  · exact State.actOnPowerFail_below (h.of_eq rfl rfl rfl rfl)

theorem execPowerFailClear_below (h : s.store.Below n) (e : execPowerFailClear s = .next t) : t.store.Below n := by
  have cleared : Store.Below n { s.store with pfailActive := false, powerFail := false } := h.of_eq rfl rfl rfl rfl
  unfold execPowerFailClear at e
  dsimp only at e
  split at e
  · split at e <;> cases e
    · rename_i halted
      have run : s.store.status ≠ .restoring := by rw [halted]; nofun
      refine State.beginJob_below (cleared.joinOwed run) ?_
      rw [Store.joinOwed_status]
      exact run
    · exact cleared
  · cases e; exact h

/-! ### The restore (R78, R190) -/

theorem sortedRecords_le (slots : List (Option BatchRecord)) : (sortedRecords slots).Pairwise fun x y => x.seq ≤ y.seq := by
  have insert (r : BatchRecord) (l : List BatchRecord) (h : l.Pairwise fun x y => x.seq ≤ y.seq) :
      (insertRecord r l).Pairwise fun x y => x.seq ≤ y.seq := by
    induction l with
    | nil => exact List.pairwise_singleton ..
    | cons q l ih =>
      obtain ⟨first, rest⟩ := List.pairwise_cons.1 h
      rw [insertRecord]
      split
      · rename_i less
        exact List.pairwise_cons.2 ⟨List.forall_mem_cons.2 ⟨less.le, fun x hx => less.le.trans (first x hx)⟩, h⟩
      · rename_i more
        refine List.pairwise_cons.2 ⟨fun x hx => ?_, ih rest⟩
        rcases mem_insertRecord.1 hx with rfl | hx
        · exact Nat.le_of_not_lt more
        · exact first x hx
  unfold sortedRecords
  induction slots.filterMap id with
  | nil => exact .nil
  | cons r l ih => exact insert r _ ih

/-- The restored counter is above every marked record, wherever its slot is (R78). -/
theorem Store.lt_found_batchSeq {r : BatchRecord} (held : some r ∈ x.slots) : r.seq < x.found.batchSeq := by
  have mem : r ∈ x.found.records := mem_sortedRecords.2 held
  obtain ⟨front, newest, records⟩ := (List.eq_nil_or_concat x.found.records).resolve_left (List.ne_nil_of_mem mem)
  rw [List.concat_eq_append] at records
  have ascending : x.found.records.Pairwise fun x y => x.seq ≤ y.seq := sortedRecords_le _
  rw [records] at mem ascending
  have le : r.seq ≤ newest.seq := by
    rcases List.mem_append.1 mem with mem | mem
    · obtain ⟨-, -, below⟩ := List.pairwise_append.1 ascending
      exact below r mem newest (List.mem_singleton_self _)
    · rw [List.mem_singleton.1 mem]
  have last : x.found.newest = some newest := by rw [Found.newest, records, List.getLast?_concat]
  rw [Found.batchSeq, last]
  exact (Nat.lt_succ_of_le le).trans_le (Nat.le_max_right ..)

theorem State.completeRestore_batchSeq (s : State) : s.completeRestore.batchSeq = s.store.found.batchSeq := by
  have announced : s.announced.batchSeq = s.store.found.batchSeq := by rw [State.announced_frame]; rfl
  rw [State.completeRestore_eq, ← announced]
  dsimp only
  split <;> split <;> simp

theorem execRestoreComplete_recordsLegal (h : s.recordsLegal) (e : execRestoreComplete s = .next t) :
    t.recordsLegal := by
  unfold execRestoreComplete at e
  split at e <;> cases e
  · rename_i restoring
    have below := State.recordsLegal_iff.1 h
    obtain ⟨queue, writing⟩ := below.idle ((State.isRestoring_iff s).1 restoring)
    have announced : s.announced.store.Below s.store.found.batchSeq := by
      rw [State.announced_store]
      refine .of_running nofun (fun r held => Store.lt_found_batchSeq held) ?_ ?_
      · rw [queue]; exact fun _ hj => absurd hj List.not_mem_nil
      · rw [writing]; exact fun _ hw => absurd hw.symm (Option.some_ne_none _)
    rw [State.recordsLegal_iff, State.completeRestore_batchSeq, State.completeRestore_eq]
    dsimp only
    split <;> split
    · exact State.actOnPowerFail_below (State.requestCheckpoint_below announced)
    · exact State.requestCheckpoint_below announced
    · exact State.actOnPowerFail_below announced
    · exact announced
  · exact h

/-- The restored ring is legal: the newest marked records, every cursor at the oldest or the end (R78, R97). -/
theorem execRestoreComplete_historyLegal (h : s.historyLegal) (e : execRestoreComplete s = .next t) :
    t.historyLegal := by
  unfold execRestoreComplete at e
  split at e <;> cases e
  · obtain ⟨-, -, -, -, -, slots⟩ := h
    obtain ⟨size, ascending, held, -⟩ := Store.found_ring slots
    have history : s.announced.history = s.store.found.history := by rw [State.announced_frame]; rfl
    have batchSeq : s.announced.batchSeq = s.store.found.batchSeq := by rw [State.announced_frame]; rfl
    have announced : s.announced.historyLegal := by
      unfold State.historyLegal State.endSeq
      rw [history, batchSeq, State.announced_store]
      refine ⟨size, ascending, fun q hq => ?_, fun p => ?_, fun p => by simp [Found.history], slots⟩
      · obtain ⟨x, hx, rfl⟩ := List.mem_map.1 hq
        exact Store.lt_found_batchSeq (held x hx).1
      · simp only [Found.history, History.seqs, PerPort.get_all]
        cases s.store.found.ring with
        | nil => exact .inr rfl
        | cons first rest => exact .inl List.mem_cons_self
    have requested := announced.sameRing (State.requestCheckpoint_sameRing _) (by simp)
    rw [State.completeRestore_eq]
    dsimp only
    split <;> split
    · exact requested.sameRing (State.actOnPowerFail_sameRing _) (by simp)
    · exact requested
    · exact announced.sameRing (State.actOnPowerFail_sameRing _) (by simp)
    · exact announced
  · exact h

/-! ### The step of an invariant on the history, the counter and the store -/

/-- An invariant that speaks of the history, the batch sequence counter and the store alone, and that every operation on them
keeps. -/
structure KeptByBooks (I : State → Prop) : Prop where
  of_eq             : ∀ {s t}, I s → t.history = s.history → t.batchSeq = s.batchSeq → t.store = s.store → I t
  closeBatch        : ∀ {s} cause overshoot b, I s → I (s.closeBatch cause overshoot b)
  requestParameters : ∀ {s}, I s → I s.requestParameters
  requestCheckpoint : ∀ {s}, I s → I s.requestCheckpoint
  setCursor         : ∀ {s} p v, I s → v ∈ s.history.seqs ∨ v = s.endSeq → I (s.setCursor p v)
  clearLost         : ∀ {s} p, I s → I (s.setHistory (s.history.clearLost p))
  reset             : ∀ {s t}, I s → execReset s = .next t → I t
  restoreComplete   : ∀ {s t}, I s → execRestoreComplete s = .next t → I t
  jobComplete       : ∀ {s t}, I s → execJobComplete s = .next t → I t
  powerFailWarning  : ∀ {s t}, I s → execPowerFailWarning s = .next t → I t
  powerFailClear    : ∀ {s t}, I s → execPowerFailClear s = .next t → I t

/-- A cursor value sought is a record's number or the end (R87, R92). -/
theorem State.seek_mem (s : State) (v : Nat) : s.seek v ∈ s.history.seqs ∨ s.seek v = s.endSeq := by
  unfold State.seek
  cases found : s.history.seqs.find? fun q => decide (v ≤ q) with
  | none => exact .inr rfl
  | some q => exact .inl (List.mem_of_find?_eq_some found)

section
variable {I : State → Prop} (kept : KeptByBooks I)
include kept

theorem KeptByBooks.sameBooks (h : I s) (e : s.SameBooks t) : I t := kept.of_eq h e.history e.batchSeq e.store

theorem KeptByBooks.computeWindow (h : I s) (r : Run) (f : Nat) (w : WindowCounts) : I (s.computeWindow r f w) := by
  have totals : I (s.afterTotals r f w.pulses) :=
    kept.of_eq h (by simp [State.afterTotals]) (by simp [State.afterTotals]) (by simp [State.afterTotals])
  have tested {u : State} (hu : I u) (b : OpenBatch) : I (u.testTargets b) := by
    have open_still : I (u.afterPreTarget b) :=
      kept.of_eq hu (by simp [State.afterPreTarget]) (by simp [State.afterPreTarget]) (by simp [State.afterPreTarget])
    obtain ⟨-, e⟩ | ⟨-, e⟩ := u.testTargets_cases b <;> rw [e]
    · have closed := kept.closeBatch .target (b.markPreTarget.runningGross - b.markPreTarget.plan.target)
        b.markPreTarget open_still
      exact kept.of_eq closed (by simp) (by simp) (by simp)
    · exact open_still
  rw [State.computeWindow_eq]
  unfold State.routeWindow State.batchWindow
  split
  · exact tested (kept.of_eq totals (by simp) (by simp) (by simp)) _
  · exact kept.of_eq totals rfl rfl rfl

theorem KeptByBooks.windowExpiry {r : Run} (h : I s) (e : execWindowExpiry r s = .next t) : I t := by
  have channel {u : State} (hu : I u) (c : Channel) : I (u.setChannel r c) := kept.sameBooks hu (u.setChannel_sameBooks r c)
  unfold execWindowExpiry at e
  dsimp only at e
  split at e
  · cases e; exact channel h _
  · split at e <;> cases e
    · exact channel h _
    · exact kept.computeWindow (kept.sameBooks (channel (channel h _) _) (State.setRunState_sameBooks ..)) _ _ _

theorem KeptByBooks.runEnable (h : I s) (n on : Nat) : I (s.runEnable n on).1 := by
  have channel {u : State} (hu : I u) (r : Run) (c : Channel) : I (u.setChannel r c) :=
    kept.sameBooks hu (u.setChannel_sameBooks r c)
  have runState {u : State} (hu : I u) (r : Run) (x : RunState) : I (u.setRunState r x) :=
    kept.sameBooks hu (u.setRunState_sameBooks r x)
  unfold State.runEnable
  split
  · exact h
  · rename_i r _
    split
    · unfold State.disableRun
      dsimp only
      split
      · exact h
      · exact channel (runState (kept.computeWindow (channel h _ _) _ _ _) _ _) _ _
    · unfold State.enableRun
      dsimp only
      split
      · exact h
      · split
        · exact h
        · exact runState (channel h _ _) _ _
    · exact h

theorem KeptByBooks.batchOpen (h : I s) : I s.batchOpen.1 := by
  unfold State.batchOpen
  split
  · exact h
  · split
    · exact h
    · split
      · exact h
      · exact kept.of_eq h (by simp) (by simp) (by simp)

theorem KeptByBooks.batchClose (h : I s) : I s.batchClose.1 := by
  unfold State.batchClose
  split
  · exact h
  · exact kept.closeBatch _ _ _ h

omit kept in
@[simp] theorem State.applyChange_batchSeq (c : Change) (s : State) : (s.applyChange c).1.batchSeq = s.batchSeq := by
  cases c with
  | kFactor r kx => simp only [State.applyChange, State.ownKFactor]; split <;> simp
  | mfPoint r f m => simp only [State.applyChange, State.ownCurve]; split <;> simp
  | mfPointDelete r f => simp only [State.applyChange, State.ownCurve]; split <;> simp
  | proverVolume bv => simp [State.applyChange, State.ownProverVolume]
  | samplerSetup g size cap => simp [State.applyChange]

theorem KeptByBooks.concur (h : I s) (p : Port) (id : Nat) : I (s.concur p id).1 := by
  obtain e | ⟨slot, x, -, e | e⟩ := s.concur_cases p id <;> rw [e]
  · exact h
  · exact kept.of_eq h rfl rfl rfl
  · have owned (c : ChangeControl) : I ((State.applyChange (x.setVerdict .concur p).change
        (s.putProposal slot (x.setVerdict .concur p))).1.setControl c) := by
      refine kept.of_eq h ?_ ?_ ?_
      · exact State.applyChange_history ..
      · exact State.applyChange_batchSeq ..
      · exact State.applyChange_store ..
    obtain ⟨c, e⟩ | ⟨c, d, n, e⟩ := State.applyProposal_cases slot (x.setVerdict .concur p)
      (s.putProposal slot (x.setVerdict .concur p)) <;> rw [e]
    · exact kept.of_eq (owned c) rfl rfl rfl
    · exact kept.of_eq (kept.requestParameters (owned c)) (by simp) (by simp) (by simp)

theorem KeptByBooks.readRecord (h : I s) (p : Port) (x y z : Nat) : I (s.readRecord p x y z).1 := by
  obtain e | ⟨v, e⟩ := s.readRecord_fst_cases p x y z <;> rw [e]
  · exact h
  · exact kept.setCursor p _ h (s.seek_mem v)

theorem KeptByBooks.findParcel (h : I s) (p : Port) (x y z : Nat) : I (s.findParcel p x y z).1 := by
  obtain e | ⟨q, mem, e⟩ := s.findParcel_fst_cases p x y z <;> rw [e]
  · exact h
  · exact kept.setCursor p _ h (.inl (List.mem_map_of_mem mem))

theorem KeptByBooks.moveCursor (h : I s) (p : Port) (v : Nat) : I (s.moveCursor p v).1 := by
  obtain ⟨u, rfl | ⟨v, rfl⟩, e⟩ := s.moveCursor_fst_cases p v <;> rw [e]
  · exact kept.clearLost p h
  · exact kept.clearLost p (kept.setCursor p _ h (s.seek_mem v))

theorem KeptByBooks.request (h : I s) {p : Port} {row : CatalogueRow} {args : List Byte}
    {body : State → State × Answer} (hb : I (body s).1) : I (takeRequest p row args body s) :=
  takeRequest_induction h hb fun _ _ _ _ k => kept.of_eq k rfl rfl rfl

theorem KeptByBooks.exec {i : Instr} (h : I s) (e : exec i s = .next t) : I t := by
  by_cases hi : touchesBooks i = false
  · exact kept.sameBooks h (exec_sameBooks hi e)
  · cases i <;> try exact absurd rfl hi
    case reset => exact kept.reset h e
    case restoreComplete => exact kept.restoreComplete h e
    case windowExpiry => exact kept.windowExpiry h e
    case periodicCheckpoint =>
      simp only [Machine.exec, execPeriodicCheckpoint] at e
      split at e <;> cases e
      · exact kept.requestCheckpoint h
      · exact h
    case jobComplete => exact kept.jobComplete h e
    case powerFailWarning => exact kept.powerFailWarning h e
    case powerFailClear => exact kept.powerFailClear h e
    case runEnable | runEnableOff => cases e; exact kept.request h (kept.runEnable h _ _)
    case batchOpen => cases e; exact kept.request h (kept.batchOpen h)
    case batchClose => cases e; exact kept.request h (kept.batchClose h)
    case planAdd =>
      cases e
      have same := s.planAdd_sameFigures
      refine kept.request h (kept.of_eq h ?_ ?_ (same _).store)
      · unfold State.planAdd; split; rfl; split; rfl; split <;> rfl
      · unfold State.planAdd; split; rfl; split; rfl; split <;> rfl
    case planRemove =>
      cases e
      refine kept.request h (kept.of_eq h ?_ ?_ (s.planRemove_sameFigures _).store)
      · unfold State.planRemove; split; rfl; split <;> rfl
      · unfold State.planRemove; split; rfl; split <;> rfl
    case planClear => cases e; exact kept.request h (kept.of_eq h rfl rfl rfl)
    case readRecord => cases e; exact kept.request h (kept.readRecord h _ _ _ _)
    case findParcel => cases e; exact kept.request h (kept.findParcel h _ _ _ _)
    case setCursor => cases e; exact kept.request h (kept.moveCursor h _ _)
    case concur => cases e; exact kept.request h (kept.concur h _ _)

theorem KeptByBooks.step (h : I s) (e : step s = .next t) : I t := by
  refine step_induction (kept.of_eq h ?_ ?_ ?_) (fun _ l => kept.exec (s := { s with pending := l }) ?_) e
  · unfold State.tickClock; split <;> rfl
  · unfold State.tickClock; split <;> rfl
  · unfold State.tickClock; split <;> rfl
  · exact kept.of_eq h rfl rfl rfl

end

/-! ### The two invariants -/

theorem State.historyLegal.setCursor (h : s.historyLegal) (p : Port) {v : Nat}
    (hv : v ∈ s.history.seqs ∨ v = s.endSeq) : (s.setCursor p v).historyLegal := by
  obtain ⟨size, ascending, below, cursors, lost, slots⟩ := h
  refine ⟨size, ascending, below, fun q => ?_, lost, slots⟩
  show (s.history.cursors.set p v).get q ∈ s.history.seqs ∨ (s.history.cursors.set p v).get q = s.endSeq
  rw [PerPort.get_set]
  split
  · exact hv
  · exact cursors q

theorem State.historyLegal.clearLost (h : s.historyLegal) (p : Port) :
    (s.setHistory (s.history.clearLost p)).historyLegal := by
  obtain ⟨size, ascending, below, cursors, lost, slots⟩ := h
  refine ⟨size, ascending, below, cursors, fun q => ?_, slots⟩
  show (s.history.lost.set p 0).get q ≤ max8
  rw [PerPort.get_set]
  split
  · exact Nat.zero_le _
  · exact lost q

theorem execReset_historyLegal (h : s.historyLegal) (e : execReset s = .next t) : t.historyLegal := by
  cases e
  obtain ⟨-, -, -, -, -, slots⟩ := h
  obtain ⟨size, ascending, below, cursors, lost, -⟩ := State.reset_historyLegal
  exact ⟨size, ascending, below, cursors, lost, slots⟩

theorem execReset_recordsLegal (e : execReset s = .next t) : t.recordsLegal := by
  cases e
  exact State.recordsLegal_iff.2 ⟨fun _ => ⟨rfl, rfl⟩, fun run => absurd rfl run,
    fun _ hj => absurd hj List.not_mem_nil, fun _ hw => absurd hw.symm (Option.some_ne_none _)⟩

theorem historyLegal_keptByBooks : KeptByBooks State.historyLegal where
  of_eq h hh hn hs := h.of_eq hh hn (by rw [hs])
  closeBatch cause overshoot b h := h.closeBatch cause overshoot b
  requestParameters h := h.sameRing (State.requestParameters_sameRing _) (by simp)
  requestCheckpoint h := h.sameRing (State.requestCheckpoint_sameRing _) (by simp)
  setCursor p _ h hv := h.setCursor p hv
  clearLost p h := h.clearLost p
  reset h e := execReset_historyLegal h e
  restoreComplete h e := execRestoreComplete_historyLegal h e
  jobComplete h e := by
    refine h.sameRing (execJobComplete_sameRing e) ?_
    unfold execJobComplete at e
    split at e <;> cases e <;> simp
  powerFailWarning h e := by
    refine h.sameRing (execPowerFailWarning_sameRing e) ?_
    unfold execPowerFailWarning at e
    split at e <;> cases e <;> simp
  powerFailClear h e := by
    refine h.sameRing (execPowerFailClear_sameRing e) ?_
    unfold execPowerFailClear at e
    dsimp only at e
    split at e
    · split at e <;> cases e <;> simp
    · cases e; rfl

theorem State.recordsLegal.closeBatch (h : s.recordsLegal) (cause : CloseCause) (overshoot : Nat) (b : OpenBatch) :
    (s.closeBatch cause overshoot b).recordsLegal := by
  have below := State.recordsLegal_iff.1 h
  have appended : (s.afterAppend (s.assembleRecord b cause overshoot)).store.Below (s.batchSeq + 1) := by
    show (s.appendRecord (s.assembleRecord b cause overshoot)).store.Below _
    rw [State.appendRecord_store]
    exact below.mono (Nat.le_succ _)
  rw [State.recordsLegal_iff, State.closeBatch_batchSeq, State.closeBatch_eq, State.raise_store]
  exact State.requestCheckpoint_below (State.requestRecord_below appended (Nat.lt_succ_self s.batchSeq))

theorem recordsLegal_keptByBooks : KeptByBooks State.recordsLegal where
  of_eq h _ hn hs := by
    rw [State.recordsLegal_iff, hn, hs]
    exact State.recordsLegal_iff.1 h
  closeBatch cause overshoot b h := h.closeBatch cause overshoot b
  requestParameters h := by
    rw [State.recordsLegal_iff, State.requestParameters_batchSeq]
    exact State.requestParameters_below (State.recordsLegal_iff.1 h)
  requestCheckpoint h := by
    rw [State.recordsLegal_iff, State.requestCheckpoint_batchSeq]
    exact State.requestCheckpoint_below (State.recordsLegal_iff.1 h)
  setCursor _ _ h _ := h
  clearLost _ h := h
  reset _ e := execReset_recordsLegal e
  restoreComplete h e := execRestoreComplete_recordsLegal h e
  jobComplete {s t} h e := by
    have below := execJobComplete_below (State.recordsLegal_iff.1 h) e
    have counter : t.batchSeq = s.batchSeq := by
      unfold execJobComplete at e
      split at e <;> cases e <;> simp
    rwa [State.recordsLegal_iff, counter]
  powerFailWarning {s t} h e := by
    have below := execPowerFailWarning_below (State.recordsLegal_iff.1 h) e
    have counter : t.batchSeq = s.batchSeq := by
      unfold execPowerFailWarning at e
      split at e <;> cases e <;> simp
    rwa [State.recordsLegal_iff, counter]
  powerFailClear {s t} h e := by
    have below := execPowerFailClear_below (State.recordsLegal_iff.1 h) e
    have counter : t.batchSeq = s.batchSeq := by
      unfold execPowerFailClear at e
      dsimp only at e
      split at e
      · split at e <;> cases e <;> simp
      · cases e; rfl
    rwa [State.recordsLegal_iff, counter]

/-- Settles O10: a close puts the record numbered by the counter at the ring's end and the cursors follow, a restore rebuilds the
ring from the slots under a counter above them all, and the store's own operations change retention states alone. -/
theorem stepKeepsRingAndCursors : Obligations.StepKeepsRingAndCursors := fun _ _ =>
  ⟨historyLegal_keptByBooks.step, recordsLegal_keptByBooks.step⟩

end

end Sys2Proof.Machine
end

section
/-! PROOFS. PLAN_ADD, PLAN_REMOVE and PLAN_CLEAR (R60, R62 to R64), and the settled statement. -/

namespace Sys2Proof.Machine

/-! ### The plan that PLAN_ADD spells (R60) -/

/-- The mode that a mode byte stands for, if it stands for one (R60). -/
def modeOfByte (md : Byte) : Mode := if md = 0 then .single else if md = 1 then .chain else .repeating

/-- The mode byte's three values (R60). -/
theorem modeOfCode_byte (md : Byte) :
    (2 < md.toNat ∧ modeOfCode md.toNat = none) ∨
      (¬ 2 < md.toNat ∧ modeOfCode md.toNat = some (modeOfByte md) ∧ (modeOfByte md = .repeating ↔ md = 2)) := by
  have is {n : Nat} (h : md.toNat = n) : md = BitVec.ofNat 8 n := by rw [← h, BitVec.ofNat_toNat, BitVec.setWidth_eq]
  match h : md.toNat with
  | 0 => rw [is h]; decide
  | 1 => rw [is h]; decide
  | 2 => rw [is h]; decide
  | n + 3 => exact .inl ⟨by omega, rfl⟩

theorem byte_toNat_eq_zero {x : Byte} : x.toNat = 0 ↔ x = 0 := BitVec.toNat_inj (y := 0#8)

theorem planOfArguments_of_mode {args : List Byte} {mode : Mode} (h : modeOfCode (argument args 14 1) = some mode) :
    planOfArguments args =
      if argument args 0 4 = 0 ∨ argument args 4 1 = 0 ∨ argument args 13 1 = 0 ∨ 15 < argument args 13 1 ∨
        (mode = .repeating ∧ argument args 15 1 = 0) then none
      else some {
        parcel := argument args 0 4, grade := argument args 4 1, target := argument args 5 4
        preTarget := argument args 9 4, runSet := BitVec.ofNat 4 (argument args 13 1), mode := mode
        repeatCount := if mode = .repeating then argument args 15 1 else 1 } := by
  simp only [planOfArguments, h]

theorem planOfArguments_of_no_mode {args : List Byte} (h : modeOfCode (argument args 14 1) = none) :
    planOfArguments args = none := by
  simp only [planOfArguments, h]

/-! ### Each command's own rule (R62 to R64) -/

theorem State.planAdd_badArgument {s : State} {args : List Byte} (h : planOfArguments args = none) :
    s.planAdd args = refused .badArgument s := by
  simp only [State.planAdd, h]

section
variable {s : State} {args : List Byte} {plan : Plan} (spelt : planOfArguments args = some plan)
include spelt

theorem State.planAdd_duplicate
    (h : plan.parcel ∈ s.queue.map Plan.parcel ∨ ∃ b, s.batch = some b ∧ b.plan.parcel = plan.parcel) :
    s.planAdd args = refused .duplicate s := by
  rw [← State.parcelQueued_iff, ← State.parcelOpen_iff] at h
  simp [State.planAdd, spelt, h]

section
variable (notQueued : plan.parcel ∉ s.queue.map Plan.parcel)
  (notOpen : ¬ ∃ b, s.batch = some b ∧ b.plan.parcel = plan.parcel)
include notQueued notOpen

theorem State.planAdd_new : s.planAdd args =
    if 8 ≤ s.queue.length then refused .full s
    else (s.setQueue (s.queue ++ [plan]), .okWith (field 1 (s.queue.length + 1))) := by
  rw [← State.parcelQueued_iff] at notQueued
  rw [← State.parcelOpen_iff] at notOpen
  simp [State.planAdd, spelt, notQueued, notOpen]

theorem State.planAdd_full (h : s.queue.length = 8) : s.planAdd args = refused .full s := by
  rw [State.planAdd_new spelt notQueued notOpen, if_pos h.ge]

theorem State.planAdd_ok (h : s.queue.length < 8) :
    s.planAdd args = (s.setQueue (s.queue ++ [plan]), ⟨.ok, [byteOf (s.queue.length + 1)]⟩) := by
  rw [State.planAdd_new spelt notQueued notOpen, if_neg (by omega), field_one (by omega)]
  rfl

end
end

theorem State.planRemove_open {s : State} {parcel : Nat} (h : ∃ b, s.batch = some b ∧ b.plan.parcel = parcel) :
    s.planRemove parcel = refused .wrongState s := by
  rw [State.planRemove, if_pos ((s.parcelOpen_iff parcel).2 h)]

section
variable {s : State} {parcel : Nat} (notOpen : ¬ ∃ b, s.batch = some b ∧ b.plan.parcel = parcel)
include notOpen

theorem State.planRemove_notFound (h : parcel ∉ s.queue.map Plan.parcel) :
    s.planRemove parcel = refused .notFound s := by
  rw [← State.parcelOpen_iff] at notOpen
  rw [← State.parcelQueued_iff] at h
  simp [State.planRemove, notOpen, h]

/-- No other plan of the queue has the parcel id, so the filter takes out the one plan (R61, R63). -/
theorem State.planRemove_ok {front rest : List Plan} {plan : Plan} (distinct : (s.queue.map Plan.parcel).Nodup)
    (size : s.queue.length ≤ 8) (queue : s.queue = front ++ plan :: rest) (named : plan.parcel = parcel) :
    s.planRemove parcel = (s.setQueue (front ++ rest), ⟨.ok, [byteOf (front ++ rest).length]⟩) := by
  subst named
  have queued : s.parcelQueued plan.parcel = true := by rw [State.parcelQueued_iff, queue]; simp
  have removed : (s.queue.filter fun p => p.parcel != plan.parcel) = front ++ rest := by
    rw [queue, List.map_append, List.map_cons, List.nodup_middle, List.nodup_cons, ← List.map_append] at distinct
    obtain ⟨other, -⟩ := distinct
    have others {p : Plan} (hp : p ∈ front ++ rest) : (p.parcel != plan.parcel) = true :=
      bne_iff_ne.2 fun e => other (e ▸ List.mem_map_of_mem hp)
    rw [queue, List.filter_append, List.filter_cons_of_neg (by simp), ← List.filter_append,
      List.filter_eq_self.2 fun p => others]
  have short : (front ++ rest).length < 256 := by
    rw [queue] at size
    simp only [List.length_append, List.length_cons] at size ⊢
    omega
  rw [← State.parcelOpen_iff] at notOpen
  simp only [State.planRemove, notOpen, queued, removed, field_one short]
  rfl

end

/-- Settles O43: each command passes the checks of R169, and its own rule takes one branch for each case named. -/
theorem planCommandsChangeTheQueue : Obligations.PlanCommandsChangeTheQueue := by
  intro s ready size distinct ok no isOpen isQueued
  refine ⟨?_, fun a b c d => ?_, congrArg Host.Outcome.next (takeRequest_eq ready rfl rfl rfl)⟩
  · intro a b c d g t0 t1 t2 t3 q0 q1 q2 q3 rs md rp args parcel bad plan
    have add {t : State} {x : Answer} (e : s.planAdd args = (t, x)) :
        exec (.planAdd .sup args) s = .next (t.respond .sup 0x22 x) :=
      congrArg Host.Outcome.next (takeRequest_eq ready rfl rfl e)
    have spells : planOfArguments args = if bad then none else some plan := by
      have parcelField : argument args 0 4 = parcel := numberOf_four a b c d
      have gradeField : argument args 4 1 = g.toNat := numberOf_one g
      have targetField : argument args 5 4 = (t0 ++ t1 ++ t2 ++ t3).toNat := numberOf_four t0 t1 t2 t3
      have preTargetField : argument args 9 4 = (q0 ++ q1 ++ q2 ++ q3).toNat := numberOf_four q0 q1 q2 q3
      have runSetField : argument args 13 1 = rs.toNat := numberOf_one rs
      have modeField : argument args 14 1 = md.toNat := numberOf_one md
      have repeatField : argument args 15 1 = rp.toNat := numberOf_one rp
      obtain ⟨high, none⟩ | ⟨low, mode, repeating⟩ := modeOfCode_byte md
      · rw [planOfArguments_of_no_mode (modeField ▸ none), if_pos (by simp [bad, high])]
      · rw [planOfArguments_of_mode (modeField ▸ mode)]
        simp only [parcelField, gradeField, targetField, preTargetField, runSetField, repeatField, repeating,
          byte_toNat_eq_zero]
        exact if_congr (by simp only [bad, low, false_or]) rfl rfl
    refine ⟨fun h => ?_, fun h known => ?_, fun h new unopened full => ?_, fun h new unopened room => ?_⟩
    · exact add (State.planAdd_badArgument (by rw [spells, if_pos h]))
    · exact add (State.planAdd_duplicate (by rw [spells, if_neg h]) known)
    · exact add (State.planAdd_full (by rw [spells, if_neg h]) new unopened full)
    · exact add (State.planAdd_ok (by rw [spells, if_neg h]) new unopened room)
  · intro parcel
    have remove {t : State} {x : Answer} (e : s.planRemove parcel = (t, x)) :
        exec (.planRemove .sup [a, b, c, d]) s = .next (t.respond .sup 0x23 x) :=
      by
      have field : argument [a, b, c, d] 0 4 = parcel := numberOf_four a b c d
      exact congrArg Host.Outcome.next (takeRequest_eq ready rfl rfl (by rw [field, e]))
    exact ⟨fun h => remove (State.planRemove_open h), fun h new => remove (State.planRemove_notFound h new),
      fun front plan rest h queue named => remove (State.planRemove_ok h distinct size queue named)⟩

end Sys2Proof.Machine
end

section
/-! PROOFS. BATCH_OPEN (R67 to R69), and the settled statement. -/

namespace Sys2Proof.Machine

/-- The opening carries the mark of any run's unbatched accumulators (R40, R69). -/
theorem anyUnbatchedSaturated_iff (s : State) :
    (allRuns.any fun r => (s.totalizers.get r).unbatchedSaturated) = true ↔
      ∃ r, (s.totalizers.get r).unbatchedSaturated = true := by
  rw [List.any_eq_true]
  exact ⟨fun ⟨r, _, h⟩ => ⟨r, h⟩, fun ⟨r, h⟩ => ⟨r, mem_allRuns r, h⟩⟩

theorem State.batchOpen_open {s : State} (h : ∃ b, s.batch = some b) : s.batchOpen = refused .wrongState s := by
  obtain ⟨b, h⟩ := h
  simp [State.batchOpen, h]

theorem State.batchOpen_noPlan {s : State} (h : s.batch = none) (empty : s.queue = []) :
    s.batchOpen = refused .notFound s := by
  simp [State.batchOpen, h, empty]

section
variable {s : State} {plan : Plan} {rest : List Plan} (h : s.batch = none) (queue : s.queue = plan :: rest)
include h queue

theorem State.batchOpen_full (high : max32 < s.batchSeq) : s.batchOpen = refused .full s := by
  simp [State.batchOpen, h, queue, State.seqExhausted, high]

theorem State.batchOpen_ok (low : s.batchSeq ≤ max32) (parcel : plan.parcel ≤ max32) :
    s.batchOpen = (s.openFromQueue plan rest, ⟨.ok, bytesOf 4 plan.parcel ++ [1]⟩) := by
  have counter : s.seqExhausted = false := decide_eq_false (by omega)
  have field : field 4 plan.parcel = bytesOf 4 plan.parcel := field_eq (parcel.trans_lt (by decide))
  simp only [State.batchOpen, h, queue, counter, field]
  rfl

end

/-- Settles O44: BATCH_OPEN passes the checks of R169, and its own rule takes one branch for each case named; what the
opening sets is the model's opening written out. -/
theorem batchOpenTakesTheHeadPlan : Obligations.BatchOpenTakesTheHeadPlan := by
  intro s ready
  have opens {t : State} {x : Answer} (e : s.batchOpen = (t, x)) :
      exec (.batchOpen .sup []) s = .next (t.respond .sup 0x25 x) :=
    congrArg Host.Outcome.next (takeRequest_eq ready rfl rfl e)
  refine ⟨fun h => opens (State.batchOpen_open h), fun h empty => opens (State.batchOpen_noPlan h empty),
    fun plan rest h queue => ⟨fun high => opens (State.batchOpen_full h queue high), fun low parcel => ?_⟩⟩
  exact ⟨_, anyUnbatchedSaturated_iff s, opens (State.batchOpen_ok h queue low parcel)⟩

end Sys2Proof.Machine
end

section
/-! PROOFS. READ_QUEUE and READ_BATCH (R65, R83), and the settled statement. -/

namespace Sys2Proof.Machine

/-! ### READ_QUEUE (R60, R65) -/

theorem Plan.legal.planFields_eq {plan : Plan} (h : plan.legal) : planFields plan =
    bytesOf 4 plan.parcel ++ [byteOf plan.grade] ++ bytesOf 4 plan.target ++ bytesOf 4 plan.preTarget ++
      [byteOf plan.runSet.toNat, byteOf (modeCode plan.mode), byteOf plan.repeatCount] := by
  obtain ⟨-, parcel, -, grade, target, preTarget, -, -, repeats, -⟩ := h
  have most : max32 < 256 ^ 4 := by decide
  have runSet := plan.runSet.isLt
  have mode : modeCode plan.mode < 256 := by cases plan.mode <;> decide
  rw [planFields, field_eq (parcel.trans_lt most), field_one (by omega), field_eq (target.trans_lt most),
    field_eq (preTarget.trans_lt most), field_one (by omega), field_one mode, field_one (by omega)]
  simp

theorem State.readQueue_plan {s : State} {n : Byte} {plan : Plan} (size : s.queue.length ≤ 8)
    (h : s.queue[n.toNat]? = some plan) (legal : plan.legal) : s.readQueue (argument [n] 0 1) =
      (s, ⟨.ok, [n, byteOf s.queue.length] ++ bytesOf 4 plan.parcel ++ [byteOf plan.grade] ++ bytesOf 4 plan.target ++
        bytesOf 4 plan.preTarget ++
          [byteOf plan.runSet.toNat, byteOf (modeCode plan.mode), byteOf plan.repeatCount]⟩) := by
  have index : field 1 n.toNat = [n] := by rw [field_one n.isLt, byteOf, BitVec.ofNat_toNat, BitVec.setWidth_eq]
  simp only [State.readQueue, argument_first, h, index, field_one (show s.queue.length < 256 by omega),
    legal.planFields_eq]
  simp [reads, Answer.okWith]

theorem State.readQueue_beyond {s : State} {n : Byte} (h : s.queue.length ≤ n.toNat) :
    s.readQueue (argument [n] 0 1) = refused .notFound s := by
  simp only [State.readQueue, argument_first, List.getElem?_eq_none h]

/-! ### READ_BATCH (R83) -/

/-- The counter's field of part 0: 0 once the counter is exhausted (R78, R83). -/
theorem State.counterField_eq (s : State) : field 4 (if s.seqExhausted then 0 else s.batchSeq) =
    bytesOf 4 (if s.batchSeq ≤ max32 then s.batchSeq else 0) := by
  by_cases low : s.batchSeq ≤ max32
  · have counter : s.seqExhausted = false := decide_eq_false (by omega)
    simp only [counter, Bool.false_eq_true, if_false, if_pos low]
    exact field_eq (low.trans_lt (by decide))
  · have counter : s.seqExhausted = true := decide_eq_true (by omega)
    simp only [counter, if_true, if_neg low]
    rfl

theorem OpenBatch.grossSum_le {b : OpenBatch} (h : ∀ r, (b.acc.get r).main.volume.gross ≤ max32) :
    b.grossSum ≤ 4 * max32 := by
  have h1 := h .run1
  have h2 := h .run2
  have h3 := h .run3
  have h4 := h .run4
  simp only [OpenBatch.grossSum, allRuns, List.map_cons, List.map_nil, List.sum_cons, List.sum_nil]
  omega

theorem OpenBatch.fits.runningGross_lt {b : OpenBatch} (h : b.fits) : b.runningGross < 256 ^ 6 := by
  obtain ⟨-, ⟨accumulators, -, sum⟩, -⟩ := h
  have gross (r : Run) : (b.acc.get r).main.volume.gross ≤ max32 := by
    obtain ⟨⟨⟨-, -, gross⟩, -⟩, -⟩ := accumulators r
    exact Nat.le_of_lt_succ gross
  rw [sum]
  exact (OpenBatch.grossSum_le gross).trans_lt (by decide)

/-- Part 0 of an open batch, its flags given (R83). -/
theorem OpenBatch.fits.batchHeaderFields_eq {b : OpenBatch} (h : b.fits) {flags : Byte}
    (hf : flagsByte [b.flags.saturated, b.flags.powerInterrupted, b.flags.kChanged, b.flags.provedDuring,
      b.flags.preTargetReached, b.openTimeValid] = [flags]) :
    batchHeaderFields (some b) = [1] ++ bytesOf 4 b.plan.parcel ++
      [byteOf b.plan.grade, byteOf (modeCode b.plan.mode), byteOf b.repeatIndex, byteOf b.repeatsRemaining, flags] ++
      bytesOf 4 b.openTime.toNat ++ bytesOf 4 b.plan.target ++ bytesOf 4 b.plan.preTarget ++
      [byteOf b.plan.runSet.toNat] ++ bytesOf 6 b.runningGross ++ bytesOf 4 b.changeCountAtOpen := by
  have gross := h.runningGross_lt
  obtain ⟨⟨-, parcel, -, grade, target, preTarget, -⟩, -, index, remaining, changes, -⟩ := h
  have most : max32 < 256 ^ 4 := by decide
  have runSet := b.plan.runSet.isLt
  have mode : modeCode b.plan.mode < 256 := by cases b.plan.mode <;> decide
  rw [batchHeaderFields, hf, field_eq (parcel.trans_lt most), field_one (by omega),
    field_one (by omega), field_one mode, field_one (by omega),
    field_one (by omega), secondsField_eq, field_eq (target.trans_lt most), field_eq (preTarget.trans_lt most),
    field_one (by omega), field_eq gross, field_eq (changes.trans_lt most)]
  simp [byteOf]

theorem OpenBatch.fits.batchRunFields_eq {b : OpenBatch} (h : b.fits) (r : Run) : batchRunFields b r =
    [runByte r] ++ tripleBytes 4 (b.acc.get r).main.volume ++ bytesOf 4 (b.acc.get r).outsideCurve ++
      faultBytes 4 (b.acc.get r).main.faults ++ [byteOf (b.acc.get r).mfChanges] ++
      bytesOf 4 (b.preceding.get r).indicated ++ bytesOf 4 (b.preceding.get r).gross ++
      tripleBytes 6 (b.opening.get r) := by
  obtain ⟨-, ⟨accumulators, -⟩, -, -, -, snapshots⟩ := h
  obtain ⟨⟨volume, faults⟩, outside, changes⟩ := accumulators r
  obtain ⟨opening, indicated, gross⟩ := snapshots r
  have most : max32 < 256 ^ 4 := by decide
  rw [batchRunFields, field_runNumber, tripleFields_eq volume (by decide), field_eq (outside.trans_lt most),
    faultFields_eq faults most, field_one (changes.trans_lt (by decide)), field_eq (indicated.trans_lt most),
    field_eq (gross.trans_lt most), tripleFields_eq opening (by decide)]

theorem State.readBatch_header (s : State) : s.readBatch (argument [0] 0 1) =
    reads (batchHeaderFields s.batch ++ field 1 s.queue.length ++
      field 4 (if s.seqExhausted then 0 else s.batchSeq)) s := rfl

theorem State.readBatch_refused (s : State) {n : Byte} (h : 4 < n.toNat) :
    s.readBatch (argument [n] 0 1) = refused .badArgument s := by
  rw [argument_first, State.readBatch, if_pos h]

theorem State.readBatch_noBatch {s : State} (h : s.batch = none) (r : Run) :
    s.readBatch (argument [runByte r] 0 1) = refused .wrongState s := by
  have small : ¬ 4 < (runByte r).toNat := by cases r <;> decide
  simp only [argument_first, State.readBatch, if_neg small, runOfNumber_runByte, h]

theorem State.readBatch_run {s : State} {b : OpenBatch} (h : s.batch = some b) (r : Run) :
    s.readBatch (argument [runByte r] 0 1) = reads (batchRunFields b r) s := by
  have small : ¬ 4 < (runByte r).toNat := by cases r <;> decide
  simp only [argument_first, State.readBatch, if_neg small, runOfNumber_runByte, h]

/-- Settles O46: each request passes the checks of R169, and its own rule reads figures that fit in their fields. -/
theorem batchReadsAnswerTheFigures : Obligations.BatchReadsAnswerTheFigures := by
  intro p s ready size counter
  have queued {n : Byte} {t : State} {x : Answer} (e : s.readQueue (argument [n] 0 1) = (t, x)) :
      exec (.readQueue p [n]) s = .next (t.respond p 0x21 x) :=
    congrArg Host.Outcome.next (takeRequest_eq ready rfl rfl e)
  have batched {n : Byte} {t : State} {x : Answer} (e : s.readBatch (argument [n] 0 1) = (t, x)) :
      exec (.readBatch p [n]) s = .next (t.respond p 0x20 x) :=
    congrArg Host.Outcome.next (takeRequest_eq ready rfl rfl e)
  have tail : field 1 s.queue.length ++ field 4 (if s.seqExhausted then 0 else s.batchSeq) =
      [byteOf s.queue.length] ++ bytesOf 4 counter := by
    rw [field_one (by omega), s.counterField_eq]
    rfl
  refine ⟨fun n plan h legal => queued (State.readQueue_plan size h legal), fun n h => queued (State.readQueue_beyond h),
    fun h => batched ?_, fun h r => batched (State.readBatch_noBatch h r), fun n h => batched (s.readBatch_refused h),
    fun b h fits => ⟨?_, fun r => batched ?_⟩⟩
  · rw [s.readBatch_header, List.append_assoc, tail, h, List.append_assoc]
    rfl
  · obtain ⟨flags, holds, byte⟩ := flagsByte_holds [b.flags.saturated, b.flags.powerInterrupted, b.flags.kChanged,
      b.flags.provedDuring, b.flags.preTargetReached, b.openTimeValid]
    refine ⟨flags, holds, batched ?_⟩
    rw [s.readBatch_header, List.append_assoc, tail, h, fits.batchHeaderFields_eq byte, ← List.append_assoc]
    rfl
  · rw [State.readBatch_run h, fits.batchRunFields_eq r]
    rfl

end Sys2Proof.Machine
end

section
/-! PROOFS. The window that reaches the target (R70 to R72, R76 to R81), and the settled statement. -/

namespace Sys2Proof.Machine

/-! ### What follows a close at the target (R80, R81) -/

/-- What follows a close takes the unbatched accumulators, not the totals (R40, R69). -/
theorem State.continueAfter_total (b : OpenBatch) (s : State) (q : Run) :
    ((s.continueAfter b).totalizers.get q).total = (s.totalizers.get q).total := by
  have kept := congrArg Totalizer.total (s.continueAfter_emptyUnbatched b q)
  exact kept

/-- The snapshots and the run of the batch that an opening from the queue makes (R68). -/
theorem State.openFromQueue_opens (s : State) (plan : Plan) (rest : List Plan) :
    ∃ b, (s.openFromQueue plan rest).batch = some b ∧ b.plan = plan ∧ b.repeatIndex = 1 ∧
      b.repeatsRemaining = plan.repeatCount ∧ b.runningGross = 0 ∧
      ∀ q, b.opening.get q = (s.totalizers.get q).total :=
  ⟨_, State.openBatch_batch .., rfl, rfl, rfl, rfl, fun q => PerRun.get_ofFn _ q⟩

theorem State.continueAfter_exhausted {s : State} (b : OpenBatch) (high : max32 < s.batchSeq) : s.continueAfter b = s :=
  if_pos (decide_eq_true high)

section
variable {s : State} {b : OpenBatch} (low : s.batchSeq ≤ max32)
include low

theorem State.seqExhausted_of_le : s.seqExhausted = false := decide_eq_false (by omega)

theorem State.continueAfter_single (mode : b.plan.mode = .single) : s.continueAfter b = s := by
  simp only [State.continueAfter, State.seqExhausted_of_le low, mode]
  rfl

theorem State.continueAfter_chain_nil (mode : b.plan.mode = .chain) (queue : s.queue = []) : s.continueAfter b = s := by
  simp only [State.continueAfter, State.seqExhausted_of_le low, mode, queue]
  rfl

theorem State.continueAfter_chain_cons {plan : Plan} {rest : List Plan} (mode : b.plan.mode = .chain)
    (queue : s.queue = plan :: rest) : s.continueAfter b = s.openFromQueue plan rest := by
  simp only [State.continueAfter, State.seqExhausted_of_le low, mode, queue]
  rfl

theorem State.continueAfter_repeating_last (mode : b.plan.mode = .repeating) (last : b.repeatsRemaining ≤ 1) :
    s.continueAfter b = s := by
  simp only [State.continueAfter, State.seqExhausted_of_le low, mode, if_neg last.not_gt]
  rfl

theorem State.continueAfter_repeating_again (mode : b.plan.mode = .repeating) (more : 1 < b.repeatsRemaining) :
    s.continueAfter b = s.openBatch b.plan (b.repeatIndex + 1) (b.repeatsRemaining - 1) := by
  simp only [State.continueAfter, State.seqExhausted_of_le low, mode, if_pos more]
  rfl

end

/-! ### The close itself (R70, R72) -/

/-- The state that the close at an expiry leaves, before anything follows it (R72, R79). -/
def State.expiredClosed (b : OpenBatch) (r : Run) (s : State) : State :=
  (s.expiredJoined b r).closeBatch .target ((b.closing s r).runningGross - (b.closing s r).plan.target) (b.closing s r)

theorem State.expiredWindow_reached {s : State} {b : OpenBatch} {r : Run} (opened : s.batch = some b)
    (member : inRunSet b.plan.runSet r = true) (set : b.plan.target ≠ 0)
    (reached : b.plan.target ≤ b.runningGross + grossTaken s r b) :
    s.expiredWindow r = (s.expiredClosed b r).continueAfter (b.closing s r) := by
  have routed : (s.expiredTotals r).batchOf r = some b := by simp [State.batchOf, opened, member]
  have routes : s.expiredWindow r = State.testTargets (b.addWindow r (closingFigures s r))
      (((s.expiredTotals r).setBatch (some (b.addWindow r (closingFigures s r)))).sampleVolume (closingGross s r)) := by
    rw [State.expiredWindow_eq, State.routeWindow, routed]
    rfl
  have meets : (b.closing s r).meetsTarget = true := (b.closing_meetsTarget s r).2 ⟨set, reached⟩
  obtain ⟨-, e⟩ | ⟨below, -⟩ := State.testTargets_cases (b.addWindow r (closingFigures s r))
    (((s.expiredTotals r).setBatch (some (b.addWindow r (closingFigures s r)))).sampleVolume (closingGross s r))
  · exact routes.trans e
  · exact absurd (below.symm.trans meets) Bool.false_ne_true

section
variable (s : State) (b : OpenBatch) (r : Run)

/-- What the closing window leaves of the batch as it was opened (R68, R70). -/
theorem OpenBatch.closing_keeps : (b.closing s r).plan = b.plan ∧ (b.closing s r).repeatIndex = b.repeatIndex ∧
    (b.closing s r).repeatsRemaining = b.repeatsRemaining ∧ (b.closing s r).opening = b.opening ∧
    (b.closing s r).runningGross = b.runningGross + grossTaken s r b := by
  rw [OpenBatch.closing, OpenBatch.markPreTarget_eq]
  exact ⟨rfl, rfl, rfl, rfl, rfl⟩

theorem State.expiredClosed_batch : (s.expiredClosed b r).batch = none := State.closeBatch_batch ..

theorem State.expiredClosed_batchSeq : (s.expiredClosed b r).batchSeq = s.batchSeq + 1 := by
  obtain ⟨-, -, batchSeq, -⟩ := s.expiredJoined_leaves b r
  rw [State.expiredClosed, State.closeBatch_batchSeq, batchSeq]

theorem State.expiredClosed_queue : (s.expiredClosed b r).queue = s.queue := by
  obtain ⟨-, queue, -⟩ := s.expiredJoined_leaves b r
  simp [State.expiredClosed, queue]

theorem State.expiredClosed_totalizers : (s.expiredClosed b r).totalizers = (s.expiredJoined b r).totalizers := by
  simp [State.expiredClosed]

/-- The close's record is the ring's newest, and its figures are those of the batch with the window added (R76, R77). -/
theorem State.expiredClosed_newest (fits : (b.acc.get r).main.volume.gross ≤ max32) :
    ∃ e, (s.expiredClosed b r).history.ring.getLast? = some e ∧ e.record.seq = s.batchSeq ∧ e.record.cause = .target ∧
      e.record.parcel = b.plan.parcel ∧ e.record.repeatIndex = b.repeatIndex ∧ e.record.target = b.plan.target ∧
      e.record.overshoot = b.runningGross + grossTaken s r b - b.plan.target ∧
      (e.record.runs.get r).volume.gross = (b.acc.get r).main.volume.gross + grossTaken s r b ∧
      ∀ q, (e.record.runs.get q).closing = ((s.expiredClosed b r).totalizers.get q).total ∧
        (e.record.runs.get q).opening = b.opening.get q := by
  obtain ⟨e, newest, record⟩ := State.closeBatch_newest .target
    ((b.closing s r).runningGross - (b.closing s r).plan.target) (b.closing s r) (s.expiredJoined b r)
  obtain ⟨plan, index, -, opening, gross⟩ := b.closing_keeps s r
  obtain ⟨-, -, batchSeq, -⟩ := s.expiredJoined_leaves b r
  have part (q : Run) : e.record.runs.get q = (s.expiredJoined b r).assembleRun (b.closing s r) q := by
    rw [record]; exact PerRun.get_ofFn _ _
  refine ⟨e, newest, ?_, ?_, ?_, ?_, ?_, ?_, ?_, fun q => ⟨?_, ?_⟩⟩
  · rw [record]; exact batchSeq
  · rw [record]; rfl
  · rw [record, ← plan]; rfl
  · rw [record, ← index]; rfl
  · rw [record, ← plan]; rfl
  · rw [record, ← gross, ← plan]; rfl
  · rw [part, ← OpenBatch.closing_gross b s r fits]; rfl
  · rw [part, State.expiredClosed_totalizers]; rfl
  · rw [part, ← opening]; rfl

theorem State.expiredClosed_flag (p : Port) :
    (((s.expiredClosed b r).ports.get p).events.get .batchClosed).flag = true := by
  simp [State.expiredClosed, State.closeBatch_eq]

end

/-- Settles O35: the close leaves its record as the ring's newest, and what follows it opens from the state it leaves. -/
theorem targetWindowClosesTheBatch : Obligations.TargetWindowClosesTheBatch := by
  intro r s b took on _ opened member fits set reached last
  obtain ⟨e, newest, seq, cause, parcel, index, target, overshoot, gross, totals⟩ := s.expiredClosed_newest b r fits
  obtain ⟨plan, repeatIndex, remaining, -⟩ := b.closing_keeps s r
  let closed := s.expiredClosed b r
  let t := closed.continueAfter (b.closing s r)
  have counter : closed.batchSeq = s.batchSeq + 1 := s.expiredClosed_batchSeq b r
  have none : closed.batch = none := s.expiredClosed_batch b r
  have queue : closed.queue = s.queue := s.expiredClosed_queue b r
  refine ⟨t, e, (exec_windowExpiry r on).trans (congrArg _ (State.expiredWindow_reached opened member set reached)),
    (State.continueAfter_history ..).symm ▸ newest, (State.continueAfter_batchSeq ..).trans counter, seq, cause, parcel,
    index, target, overshoot, gross, fun q => ?_,
    fun p => (State.raises_continueAfter _ _).flags p _ (s.expiredClosed_flag b r p), fun high => ?_,
    fun room => ⟨fun mode => ?_, fun mode empty => ?_, fun plan' rest mode head => ?_, fun mode least => ?_,
      fun mode more => ?_⟩⟩
  · obtain ⟨closing, opening⟩ := totals q
    exact ⟨closing.trans (State.continueAfter_total ..).symm, opening⟩
  · have e : t = closed := State.continueAfter_exhausted _ (by rw [counter, high]; decide)
    exact e ▸ ⟨none, queue⟩
  all_goals have low : closed.batchSeq ≤ max32 := counter ▸ room
  · have e : t = closed := State.continueAfter_single low (plan ▸ mode)
    exact e ▸ ⟨none, queue⟩
  · have e : t = closed := State.continueAfter_chain_nil low (plan ▸ mode) (queue.trans empty)
    exact e ▸ ⟨none, queue.trans empty⟩
  · have e : t = closed.openFromQueue plan' rest :=
      State.continueAfter_chain_cons low (plan ▸ mode) (queue.trans head)
    obtain ⟨b', opens, its, first, repeats, empty, opening⟩ := closed.openFromQueue_opens plan' rest
    exact ⟨e ▸ State.openBatch_queue .., b', e ▸ opens, its, first, repeats, empty,
      fun q => (opening q).trans (closed.continueAfter_total (b.closing s r) q).symm⟩
  · have e : t = closed := State.continueAfter_repeating_last low (plan ▸ mode) (remaining ▸ least)
    exact e ▸ ⟨none, queue⟩
  · have e : t = closed.openBatch _ _ _ := State.continueAfter_repeating_again low (plan ▸ mode) (remaining ▸ more)
    exact e ▸ ⟨(State.openBatch_queue ..).trans queue, _, State.openBatch_batch .., plan,
      congrArg (· + 1) repeatIndex, congrArg (· - 1) remaining, rfl⟩

end Sys2Proof.Machine
end

section
/-! PROOFS. A RECORD job begins (R85, R177, R185): its sector and what an erase destroys, the entries of the ring that lose their
record, and the RETENTION occurrences. -/

namespace Sys2Proof.Machine

/-! ### The sector of a sequence number (R185) -/

theorem sectorStart_le_iff {seq i : Nat} :
    (sectorStart seq ≤ i ∧ i < sectorStart seq + 4) ↔ i / 4 = (seq - 1) % 28 / 4 := by
  unfold sectorStart slotOf
  omega

section
variable {slots : List (Option BatchRecord)} {seq : Nat}

theorem mem_sector {x : Option BatchRecord} : x ∈ (slots.drop (sectorStart seq)).take 4 ↔
    ∃ i : Nat, i / 4 = (seq - 1) % 28 / 4 ∧ slots[i]? = some x := by
  simp only [List.mem_iff_getElem?, List.getElem?_take, List.getElem?_drop]
  constructor
  · rintro ⟨i, at_i⟩
    split at at_i
    · exact ⟨_, sectorStart_le_iff.1 ⟨Nat.le_add_right .., by omega⟩, at_i⟩
    · cases at_i
  · rintro ⟨i, sector, at_i⟩
    obtain ⟨low, high⟩ := sectorStart_le_iff.2 sector
    exact ⟨i - sectorStart seq, by rw [if_pos (by omega), Nat.add_sub_cancel' low, at_i]⟩

theorem mem_sectorSeqs {q : Nat} : q ∈ sectorSeqs slots seq ↔ ∃ r, inSectorOf slots seq r ∧ r.seq = q := by
  simp only [sectorSeqs, List.mem_filterMap, mem_sector, Option.map_eq_some_iff, inSectorOf]
  exact ⟨fun ⟨_, ⟨i, sector, at_i⟩, r, is, e⟩ => ⟨r, ⟨i, sector, is ▸ at_i⟩, e⟩,
    fun ⟨r, place, e⟩ => ⟨some r, place, r, rfl, e⟩⟩

/-- A RECORD job erases its sector first exactly if the sector holds a record of an earlier wrap (R185). -/
theorem needsErase_iff : needsErase slots seq = true ↔
    ∃ r, inSectorOf slots seq r ∧ r.seq < seq - (seq - 1) % 28 % 4 := by
  simp only [needsErase, List.any_eq_true, mem_sectorSeqs, decide_eq_true_eq]
  exact ⟨fun ⟨_, ⟨r, sector, e⟩, less⟩ => ⟨r, sector, e ▸ less⟩, fun ⟨r, sector, less⟩ => ⟨_, ⟨r, sector, rfl⟩, less⟩⟩

theorem eraseSector_outside {i : Nat} (h : i / 4 ≠ (seq - 1) % 28 / 4) : (eraseSector slots seq)[i]? = slots[i]? := by
  rw [ne_eq, ← sectorStart_le_iff] at h
  rw [eraseSector, List.getElem?_set_ne (by omega), List.getElem?_set_ne (by omega), List.getElem?_set_ne (by omega),
    List.getElem?_set_ne (by omega)]

theorem eraseSector_inside {i : Nat} (size : i < slots.length) (h : i / 4 = (seq - 1) % 28 / 4) :
    (eraseSector slots seq)[i]? = some none := by
  have place : i = sectorStart seq ∨ i = sectorStart seq + 1 ∨ i = sectorStart seq + 2 ∨ i = sectorStart seq + 3 := by
    rw [← sectorStart_le_iff] at h
    omega
  unfold eraseSector
  rcases place with rfl | rfl | rfl | rfl <;> simp [size]

theorem eraseSector_length : (eraseSector slots seq).length = slots.length := by simp [eraseSector]

end

/-! ### The entries that lose their record (R85) -/

theorem ringLoses_of_lose {s t : State} {seqs : List Nat} {lost : Nat → Prop}
    (ring : t.history.ring = s.history.ring.map (RingEntry.lose seqs)) (mem : ∀ q, q ∈ seqs ↔ lost q) :
    ringLoses s t lost := by
  refine ⟨by rw [ring, List.length_map], fun i e at_i => ?_⟩
  simp only [ring, List.getElem?_map, at_i, Option.map_some, RingEntry.lose, ← mem]
  exact ⟨fun h => by rw [if_pos h], fun h => by rw [if_neg h]⟩

/-- The losses are counted entry by entry of the ring (R185). -/
theorem History.losses_eq_length {h : History} {seqs places : List Nat} (distinct : places.Nodup)
    (mem : ∀ i, i ∈ places ↔ ∃ e, h.ring[i]? = some e ∧ e.record.seq ∈ seqs ∧ e.retention ≠ .notRetained) :
    h.losses seqs = places.length := by
  have found : places.Perm (h.ring.findIdxs fun e => decide (e.record.seq ∈ seqs ∧ e.retention ≠ .notRetained)) := by
    refine (List.perm_ext_iff_of_nodup distinct List.nodup_findIdxs).2 fun i => ?_
    rw [mem, List.mem_findIdxs_iff_exists_getElem_pos]
    simp only [decide_eq_true_eq, List.getElem?_eq_some_iff]
    exact ⟨fun ⟨_, ⟨low, rfl⟩, lost⟩ => ⟨low, lost⟩, fun ⟨low, lost⟩ => ⟨_, ⟨low, rfl⟩, lost⟩⟩
  rw [found.length_eq, List.length_findIdxs]
  rfl

/-! ### RETENTION raised several times (R177) -/

theorem PortState.occurRetention_retention (c : RetentionCause) (x : PortState) :
    (x.occurRetention c).events.get .retention =
      { x.events.get .retention with flag := true, count := min ((x.events.get .retention).count + 1) 255 } :=
  PortState.occur_get_self ..

theorem PortState.occurRetention_causes (c : RetentionCause) (x : PortState) :
    (x.occurRetention c).causes = x.causes.insert c := rfl

theorem State.raiseRetentionTimes_succ (c : RetentionCause) (n : Nat) (s : State) :
    s.raiseRetentionTimes c (n + 1) = (s.raiseRetentionTimes c n).raiseRetention c := by
  induction n generalizing s with
  | zero => rfl
  | succ n ih => rw [State.raiseRetentionTimes, ih]; rfl

theorem retentionTimes.succ {s t : State} {n : Nat} (h : retentionTimes s t n) (c : RetentionCause) :
    retentionTimes s (t.raiseRetention c) (n + 1) := by
  intro p
  obtain ⟨frame, others, -, count⟩ := h p
  rw [State.raiseRetention_get]
  refine ⟨?_, fun d hd => (PortState.occur_get_ne _ hd).trans (others d hd), fun _ => ?_, fun low => ?_⟩
  · rw [PortState.occurRetention, PortState.occur_frame, frame]
  · rw [PortState.occurRetention_retention]
  · rw [PortState.occurRetention_retention]
    show min (((t.ports.get p).events.get .retention).count + 1) 255 = _
    rw [count low]
    omega

theorem retentionTimes_raiseRetentionTimes (c : RetentionCause) (n : Nat) (s : State) :
    retentionTimes s (s.raiseRetentionTimes c n) n := by
  induction n with
  | zero => exact fun p => ⟨rfl, fun _ _ => rfl, fun h => absurd rfl h, fun low => (Nat.min_eq_left low).symm⟩
  | succ n ih => rw [State.raiseRetentionTimes_succ]; exact ih.succ c

/-- The cause joins the retention cause set (R177). -/
theorem State.raiseRetentionTimes_causes (c : RetentionCause) {n : Nat} (some : n ≠ 0) (s : State) (p : Port) :
    ((s.raiseRetentionTimes c n).ports.get p).causes = (s.ports.get p).causes.insert c := by
  induction n with
  | zero => exact absurd rfl some
  | succ n ih =>
    rw [State.raiseRetentionTimes_succ, State.raiseRetention_get, PortState.occurRetention_causes]
    by_cases first : n = 0
    · rw [first]; rfl
    · rw [ih first]; cases c <;> rfl

/-! ### The job begins (R185, R186) -/

/-- The sector of a record's slot erased, before RETENTION is raised (R185). -/
def State.erasedFor (r : BatchRecord) (s : State) : State :=
  { s with
    history := s.history.lose (sectorSeqs s.store.slots r.seq)
    store := { s.store with
      status := .writing
      slots := eraseSector s.store.slots r.seq
      writing := some ⟨.record r, s.tick + 750000⟩ } }

/-- How many records of the ring an erase of the sector destroys (R185). -/
def State.lossesFor (r : BatchRecord) (s : State) : Nat := s.history.losses (sectorSeqs s.store.slots r.seq)

section
variable {s : State} {r : BatchRecord} {rest : List Job} (queue : s.store.queue = .record r :: rest)
include queue

theorem State.beginJob_erase (old : needsErase s.store.slots r.seq = true) :
    s.beginJob = (s.erasedFor r).raiseRetentionTimes .recordNotRetained (s.lossesFor r) := by
  simp only [State.beginJob, queue, old, if_true, State.erasedFor, State.lossesFor]

theorem State.beginJob_plain (new : needsErase s.store.slots r.seq = false) :
    s.beginJob = { s with store := { s.store with
      status := .writing
      slots := s.store.slots.set (slotOf r.seq) none
      writing := some ⟨.record r, s.tick + 300000⟩ } } := by
  simp only [State.beginJob, queue, new]
  rfl

theorem State.beginJob_record : jobBegins s s.beginJob (.record r) := by
  refine ⟨fun new => ?_, fun old => ?_⟩
  · exact State.beginJob_plain queue (by rwa [← Bool.not_eq_true, needsErase_iff])
  · intro destroyed
    have raised := State.beginJob_erase queue (needsErase_iff.2 old)
    have store : s.beginJob.store = (s.erasedFor r).store := by rw [raised, State.raiseRetentionTimes_store]
    have history : s.beginJob.history = (s.erasedFor r).history := by rw [raised, State.raiseRetentionTimes_history]
    refine ⟨by rw [store]; rfl, ?_, fun i size sector => ?_, fun i other => ?_, ?_, fun places distinct mem => ?_, ?_⟩
    · rw [store]; exact eraseSector_length
    · rw [store]; exact eraseSector_inside size sector
    · rw [store]; exact eraseSector_outside other
    · exact ringLoses_of_lose (congrArg History.ring history) fun q => mem_sectorSeqs
    · have count : s.lossesFor r = places.length :=
        History.losses_eq_length distinct fun i => by simp only [mem, mem_sectorSeqs, destroyed]
      rw [raised, count]
      refine ⟨retentionTimes_raiseRetentionTimes .recordNotRetained _ (s.erasedFor r), fun none => ?_, fun some p => ?_⟩
      · rw [none]; rfl
      · exact State.raiseRetentionTimes_causes .recordNotRetained (mt List.length_eq_zero_iff.1 some) (s.erasedFor r) p
    · rw [raised, State.raiseRetentionTimes_frame]
      rfl

end

end Sys2Proof.Machine
end

section
/-! PROOFS. The RECORD and CHECKPOINT requests of a close (R79, R85, R186, R187): when a job begins, what a request leaves of the
ring, and what is said of RETENTION in the ports. -/

namespace Sys2Proof.Machine

section
variable {s t u : State}

/-! ### A request that begins no job (R186) -/

theorem Store.takesJobs_iff (x : Store) : x.takesJobs = true ↔ x.status = .ready ∨ x.status = .writing := by
  rw [Store.takesJobs, Bool.or_eq_true, beq_iff_eq, beq_iff_eq]

theorem State.joinQueue_of_not_ready {j : Job} (busy : s.store.status ≠ .ready) :
    s.joinQueue j = s.setStore { s.store with queue := s.store.queue ++ [j] } :=
  if_neg busy

/-- A store with no room is full, or its power is failing (R186, R188). -/
def Store.hasRoom (x : Store) : Prop := x.powerFail = false ∧ x.queue.length < 4

/-- What a CHECKPOINT request that begins nothing leaves of the store: merged, joined or owed (R186). -/
def Store.askCheckpoint (x : Store) : Store :=
  if .checkpoint ∈ x.waiting then x
  else if x.takesJobs ∧ x.powerFail = false ∧ x.queue.length < 4 then { x with queue := x.queue ++ [.checkpoint] }
  else { x with owedCheckpoint := true }

theorem State.requestCheckpoint_unbegun (busy : s.store.status = .ready → ¬ s.store.hasRoom) :
    s.requestCheckpoint = s.setStore s.store.askCheckpoint := by
  unfold State.requestCheckpoint Store.askCheckpoint
  split
  · rfl
  · split
    · rename_i room
      obtain ⟨-, room⟩ := room
      exact State.joinQueue_of_not_ready fun ready => busy ready room
    · rfl

/-- The request is taken as the statements say it (R186, R187). -/
theorem Store.askCheckpoint_jobAsked (now : State) {x : Store}
    (busy : x.status = .ready → ¬ x.hasRoom) : jobAsked now x x.askCheckpoint .checkpoint := by
  unfold Store.askCheckpoint
  refine ⟨fun waits _ => if_pos waits, fun new room writing => ?_, fun room ready _ => absurd room (busy ready),
    fun new no => ?_, fun other => by cases other⟩
  · exact (if_neg new).trans (if_pos ⟨x.takesJobs_iff.2 (.inr writing), room⟩)
  · refine (if_neg new).trans (if_neg ?_)
    rintro ⟨takes, room⟩
    rcases no with none | halted
    · exact none room
    · rw [Store.takesJobs_iff, halted] at takes
      rcases takes with h | h <;> cases h

/-! ### A RECORD request (R85, R186) -/

theorem State.requestRecord_refused {r : BatchRecord}
    (h : s.store.status = .halted ∨ s.store.powerFail = true ∨ s.store.queue.length = 4) :
    s.requestRecord r = s.loseRecord r.seq := by
  refine if_neg ?_
  rintro ⟨takes, power, room⟩
  rcases h with halted | fail | full
  · rw [Store.takesJobs_iff, halted] at takes
    rcases takes with h | h <;> cases h
  · rw [fail] at power; cases power
  · omega

theorem State.requestRecord_taken {r : BatchRecord} (takes : s.store.status = .ready ∨ s.store.status = .writing)
    (room : s.store.hasRoom) : s.requestRecord r = s.joinQueue (.record r) :=
  if_pos ⟨s.store.takesJobs_iff.2 takes, room⟩

/-! ### Losses in the ring (R85) -/

/-- Entries of the ring became NOT_RETAINED, and nothing else of it changed. -/
def State.RingLost (s t : State) : Prop := ∃ seqs, t.history.ring = s.history.ring.map (RingEntry.lose seqs)

theorem RingEntry.lose_lose (l m : List Nat) (e : RingEntry) : (e.lose l).lose m = e.lose (l ++ m) := by
  unfold RingEntry.lose
  by_cases hl : e.record.seq ∈ l <;> by_cases hm : e.record.seq ∈ m <;> simp [hl, hm]

@[simp] theorem RingEntry.lose_record (l : List Nat) (e : RingEntry) : (e.lose l).record = e.record := by
  unfold RingEntry.lose
  split <;> rfl

theorem RingEntry.lose_of_not_mem {l : List Nat} {e : RingEntry} (h : e.record.seq ∉ l) : e.lose l = e := if_neg h

/-- No loss makes an entry RETAINED, and an entry that is NOT_RETAINED stays so. -/
theorem RingEntry.lose_retention (l : List Nat) (e : RingEntry) :
    (e.lose l).retention = e.retention ∨ (e.lose l).retention = .notRetained := by
  unfold RingEntry.lose
  split
  · exact .inr rfl
  · exact .inl rfl

theorem map_lose_of_not_mem {l : List Nat} {ring : List RingEntry} (h : ∀ e ∈ ring, e.record.seq ∉ l) :
    ring.map (RingEntry.lose l) = ring :=
  (List.map_congr_left fun e he => RingEntry.lose_of_not_mem (h e he)).trans (List.map_id ring)

theorem State.RingLost.of_ring (h : t.history.ring = s.history.ring) : s.RingLost t :=
  ⟨[], by rw [h, map_lose_of_not_mem fun _ _ => List.not_mem_nil]⟩

theorem State.RingLost.trans (h : s.RingLost t) (k : t.RingLost u) : s.RingLost u := by
  obtain ⟨l, hl⟩ := h
  obtain ⟨m, hm⟩ := k
  exact ⟨l ++ m, by rw [hm, hl, List.map_map]; exact List.map_congr_left fun e _ => e.lose_lose l m⟩

theorem State.beginJob_ringLost (s : State) : s.RingLost s.beginJob := by
  unfold State.beginJob
  dsimp only
  split
  · exact .of_ring rfl
  · exact .of_ring rfl
  · exact .of_ring rfl
  · split
    · exact ⟨_, by rw [State.raiseRetentionTimes_history]; rfl⟩
    · exact .of_ring rfl

theorem State.joinQueue_ringLost (j : Job) (s : State) : s.RingLost (s.joinQueue j) := by
  unfold State.joinQueue
  dsimp only
  split
  · exact State.RingLost.trans (.of_ring rfl) (State.beginJob_ringLost _)
  · exact .of_ring rfl

theorem State.requestRecord_ringLost (r : BatchRecord) (s : State) : s.RingLost (s.requestRecord r) := by
  unfold State.requestRecord
  split
  · exact s.joinQueue_ringLost _
  · exact ⟨[r.seq], rfl⟩

theorem State.requestCheckpoint_ringLost (s : State) : s.RingLost s.requestCheckpoint := by
  unfold State.requestCheckpoint
  split
  · exact .of_ring rfl
  · split
    · exact s.joinQueue_ringLost _
    · exact .of_ring rfl

/-! ### RETENTION in the ports (R177) -/

/-- A port's RETENTION entry and retention causes are as another's. -/
structure PortState.SameRetention (x y : PortState) : Prop where
  entry  : y.events.get .retention = x.events.get .retention
  causes : y.causes = x.causes

/-- Every port's RETENTION entry and retention causes are as they were. -/
def State.SameRetention (s t : State) : Prop := ∀ p, (s.ports.get p).SameRetention (t.ports.get p)

theorem PortState.occur_sameRetention {c : EventClass} (other : c ≠ .retention) (x : PortState) :
    x.SameRetention (x.occur c) :=
  ⟨PortState.occur_get_ne _ other.symm, rfl⟩

theorem PortState.SameRetention.occurRetention {x y : PortState} (h : x.SameRetention y) (c : RetentionCause) :
    (x.occurRetention c).SameRetention (y.occurRetention c) :=
  ⟨by rw [PortState.occurRetention_retention, PortState.occurRetention_retention, h.entry],
    by rw [PortState.occurRetention_causes, PortState.occurRetention_causes, h.causes]⟩

theorem State.SameRetention.of_ports (h : t.ports = s.ports) : s.SameRetention t := fun _ => h ▸ ⟨rfl, rfl⟩

theorem State.SameRetention.trans (h : s.SameRetention t) (k : t.SameRetention u) : s.SameRetention u :=
  fun p => ⟨(k p).entry.trans (h p).entry, (k p).causes.trans (h p).causes⟩

theorem State.raise_sameRetention {c : EventClass} (other : c ≠ .retention) (s : State) : s.SameRetention (s.raise c) :=
  fun p => by rw [State.raise_get]; exact PortState.occur_sameRetention other _

theorem State.respond_sameRetention (p : Port) (code : Byte) (a : Answer) (s : State) :
    s.SameRetention (s.respond p code a) := by
  refine fun q => ⟨by rw [State.respond_events], ?_⟩
  by_cases h : q = p
  · subst h; rw [State.respond_get_self]
  · rw [State.respond_get_ne _ _ _ h]

theorem State.SameRetention.raiseRetentionTimes (h : s.SameRetention t) (c : RetentionCause) (n : Nat) :
    (s.raiseRetentionTimes c n).SameRetention (t.raiseRetentionTimes c n) := by
  induction n with
  | zero => exact h
  | succ n ih =>
    intro p
    rw [State.raiseRetentionTimes_succ, State.raiseRetentionTimes_succ, State.raiseRetention_get,
      State.raiseRetention_get]
    exact (ih p).occurRetention c

theorem State.raiseFor_sameRetention {c : EventClass} (other : c ≠ .retention) (p : Port) (s : State) :
    s.SameRetention (s.raiseFor p c) := by
  intro q
  rw [State.raiseFor, State.setPort_ports, PerPort.get_set]
  split
  · rename_i same; rw [same]; exact PortState.occur_sameRetention other _
  · exact ⟨rfl, rfl⟩

theorem State.dropFor_sameRetention (oldest : Nat) (s : State) (p : Port) :
    s.SameRetention (State.dropFor oldest s p) := by
  unfold State.dropFor
  split
  · exact State.SameRetention.trans (.of_ports rfl) (State.raiseFor_sameRetention (by decide) p _)
  · exact .of_ports rfl

theorem State.foldl_dropFor_sameRetention (oldest : Nat) (l : List Port) (s : State) :
    s.SameRetention (l.foldl (State.dropFor oldest) s) := by
  induction l generalizing s with
  | nil => exact .of_ports rfl
  | cons p l ih => exact (s.dropFor_sameRetention oldest p).trans (ih _)

theorem State.dropOldest_sameRetention (s : State) : s.SameRetention s.dropOldest := by
  unfold State.dropOldest
  split
  · exact State.foldl_dropFor_sameRetention _ _ (s.setHistory { s.history with ring := s.history.ring.drop 1 })
  · exact .of_ports rfl

/-! ### A RECORD job begins in two states alike (R185) -/

/-- Two states alike in all that the beginning of a RECORD job reads and leaves but for other events of the ports. -/
structure State.SameStore (s t : State) : Prop where
  tick      : t.tick = s.tick
  store     : t.store = s.store
  ring      : t.history.ring = s.history.ring
  retention : s.SameRetention t

theorem State.SameStore.beginJob {r : BatchRecord} {rest : List Job} (h : s.SameStore t)
    (queue : s.store.queue = .record r :: rest) : s.beginJob.SameStore t.beginJob := by
  obtain ⟨tick, store, ring, retention⟩ := h
  have queue' : t.store.queue = .record r :: rest := store ▸ queue
  cases old : needsErase s.store.slots r.seq
  · rw [State.beginJob_plain queue old, State.beginJob_plain queue' (store ▸ old), store, tick]
    exact ⟨rfl, rfl, ring, retention⟩
  · have losses : t.lossesFor r = s.lossesFor r := by
      rw [State.lossesFor, State.lossesFor, History.losses, History.losses, store, ring]
    have erased : (s.erasedFor r).SameRetention (t.erasedFor r) := retention
    rw [State.beginJob_erase queue old, State.beginJob_erase queue' (store ▸ old), losses]
    refine ⟨?_, ?_, ?_, erased.raiseRetentionTimes _ _⟩
    · rw [State.raiseRetentionTimes_tick, State.raiseRetentionTimes_tick]; exact tick
    · simp only [State.raiseRetentionTimes_store, State.erasedFor, store, tick]
    · simp only [State.raiseRetentionTimes_history, State.erasedFor, History.lose, store, ring]

/-- A record numbered above every record in the slots is not destroyed by its own job (R185). -/
theorem State.beginJob_keeps {r : BatchRecord} {rest : List Job} {front : List RingEntry} {e : RingEntry}
    (queue : s.store.queue = .record r :: rest) (below : ∀ q, some q ∈ s.store.slots → q.seq < e.record.seq)
    (ring : s.history.ring = front ++ [e]) : ∃ front', s.beginJob.history.ring = front' ++ [e] := by
  cases old : needsErase s.store.slots r.seq
  · rw [State.beginJob_plain queue old]
    exact ⟨front, ring⟩
  · have kept : e.record.seq ∉ sectorSeqs s.store.slots r.seq := by
      rw [mem_sectorSeqs]
      rintro ⟨q, ⟨i, -, at_i⟩, same⟩
      exact absurd same (below q (List.mem_of_getElem? at_i)).ne
    rw [State.beginJob_erase queue old, State.raiseRetentionTimes_history]
    refine ⟨front.map (RingEntry.lose (sectorSeqs s.store.slots r.seq)), ?_⟩
    simp only [State.erasedFor, History.lose, ring, List.map_append, List.map_cons, List.map_nil,
      RingEntry.lose_of_not_mem kept]

end

end Sys2Proof.Machine
end

section
/-! PROOFS. BATCH_CLOSE (R74, R76 to R79, R84 to R89, R158, R185 to R187), and the settled statement. -/

namespace Sys2Proof.Machine

section
variable {s t : State}

/-! ### RECORD_LOST in the port that loses the oldest record (R88) -/

theorem State.raises_dropFor (oldest : Nat) (s : State) (p : Port) :
    s.Raises [.recordLost] (State.dropFor oldest s p) := by
  unfold State.dropFor
  split
  · exact (State.raises_raiseFor (by decide) p _).from_ports rfl
  · exact .refl s

theorem State.raises_foldl_dropFor (oldest : Nat) (l : List Port) (s : State) :
    s.Raises [.recordLost] (l.foldl (State.dropFor oldest) s) := by
  induction l generalizing s with
  | nil => exact .refl s
  | cons p l ih => exact (s.raises_dropFor oldest p).trans (ih _)

theorem State.dropFor_flag {oldest : Nat} {p : Port} (low : s.history.cursors.get p < oldest) :
    (((State.dropFor oldest s p).ports.get p).events.get .recordLost).flag = true := by
  rw [State.dropFor, if_pos low, State.raiseFor, State.setPort_ports, PerPort.get_set_self, PortState.occur_get_self]

theorem State.foldl_dropFor_flag {oldest : Nat} {l : List Port} {p : Port} (mem : p ∈ l)
    (low : s.history.cursors.get p < oldest) :
    (((l.foldl (State.dropFor oldest) s).ports.get p).events.get .recordLost).flag = true := by
  induction l generalizing s with
  | nil => cases mem
  | cons q l ih =>
    by_cases own : p = q
    · subst own
      exact (State.raises_foldl_dropFor oldest l _).flags p _ (State.dropFor_flag low)
    · refine ih ((List.mem_cons.1 mem).resolve_left own) ?_
      rwa [State.dropFor_cursors, PerPort.get_set_ne _ _ own]

theorem State.dropOldest_flag {p : Port} (full : 24 ≤ s.history.ring.length)
    (low : s.history.cursors.get p < s.dropOldest.oldestSeq) :
    ((s.dropOldest.ports.get p).events.get .recordLost).flag = true := by
  rw [s.dropOldest_oldestSeq full] at low
  rw [State.dropOldest, if_pos full]
  exact State.foldl_dropFor_flag (by cases p <;> decide) low

/-! ### The record joins the ring (R79, R84) -/

/-- The entries that a legal ring keeps when a record is to join it (R84). -/
def History.keptRing (h : History) : List RingEntry := h.ring.drop (if h.ring.length = 24 then 1 else 0)

theorem State.historyLegal.dropFull_iff (h : s.historyLegal) :
    24 ≤ s.history.ring.length ↔ s.history.ring.length = 24 := by
  obtain ⟨size, -⟩ := h
  omega

theorem State.historyLegal.keptSeqs_eq (h : s.historyLegal) :
    s.history.keptSeqs = s.history.seqs.drop (if s.history.ring.length = 24 then 1 else 0) := by
  simp only [History.keptSeqs, h.dropFull_iff]

theorem State.historyLegal.appendRecord_ring (h : s.historyLegal) (r : BatchRecord) :
    (s.appendRecord r).history.ring = s.history.keptRing ++ [⟨r, .pending⟩] := by
  simp only [State.appendRecord_history_ring, State.dropOldest_history_ring, h.dropFull_iff, History.keptRing]
  split <;> rfl

theorem State.historyLegal.keptRing_below (h : s.historyLegal) : ∀ e ∈ s.history.keptRing, e.record.seq < s.batchSeq :=
  fun _ he => h.below _ (List.mem_map_of_mem (List.mem_of_mem_drop he))

theorem State.afterAppend_sameRetention (r : BatchRecord) (s : State) : s.SameRetention (s.afterAppend r) :=
  s.dropOldest_sameRetention.trans (.of_ports rfl)

theorem State.afterAppend_store (r : BatchRecord) (s : State) : (s.afterAppend r).store = s.store :=
  s.appendRecord_store r

/-! ### The cursors (R87 to R89) -/

section
variable (h : s.historyLegal) (cause : CloseCause) (overshoot : Nat) (b : OpenBatch) {p : Port}

theorem State.closeBatch_cursors (p : Port) : (s.closeBatch cause overshoot b).history.cursors.get p =
    catchUp s.endSeq s.batchSeq (s.dropOldest.history.cursors.get p) := by
  rw [(State.closeBatch_sameRing cause overshoot b s).cursors]
  exact s.appendRecord_cursors _ p

theorem State.closeBatch_lost : (s.closeBatch cause overshoot b).history.lost = s.dropOldest.history.lost :=
  (State.closeBatch_sameRing cause overshoot b s).lost

include h

/-- A port that had read everything finds the new record (R89). -/
theorem State.historyLegal.closeBatch_atEnd (hp : s.history.cursors.get p = s.endSeq) :
    (s.closeBatch cause overshoot b).history.cursors.get p = s.batchSeq ∧
      (s.closeBatch cause overshoot b).history.lost.get p = s.history.lost.get p := by
  obtain ⟨cursor, lost⟩ := h.dropOldest_stays (.inr hp)
  rw [State.closeBatch_cursors, State.closeBatch_lost, cursor]
  exact ⟨if_pos hp, lost⟩

/-- A port whose next record is kept finds it still (R87). -/
theorem State.historyLegal.closeBatch_onKept (hp : s.history.cursors.get p ∈ s.history.keptSeqs) :
    (s.closeBatch cause overshoot b).history.cursors.get p = s.history.cursors.get p ∧
      (s.closeBatch cause overshoot b).history.lost.get p = s.history.lost.get p := by
  obtain ⟨cursor, lost⟩ := h.dropOldest_stays (.inl hp)
  rw [State.closeBatch_cursors, State.closeBatch_lost, cursor]
  exact ⟨if_neg (h.lt_endSeq (s.history.keptSeqs_sublist.subset hp)).ne, lost⟩

/-- A port whose next record is dropped moves to the new oldest, with one more record lost and RECORD_LOST raised (R88). -/
theorem State.historyLegal.closeBatch_onDropped {oldest second : Nat} {rest : List Nat}
    (ring : s.history.seqs = oldest :: second :: rest) (full : 24 ≤ s.history.ring.length)
    (hp : s.history.cursors.get p = oldest) :
    (s.closeBatch cause overshoot b).history.cursors.get p = second ∧
      (s.closeBatch cause overshoot b).history.lost.get p = min (s.history.lost.get p + 1) 255 ∧
      (((s.closeBatch cause overshoot b).ports.get p).events.get .recordLost).flag = true := by
  obtain ⟨low, cursor, lost⟩ := h.dropOldest_moves ring full hp
  have other : second < s.endSeq := h.lt_endSeq (by rw [ring]; exact List.mem_cons_of_mem _ List.mem_cons_self)
  rw [State.closeBatch_cursors, State.closeBatch_lost, cursor, State.closeBatch_eq]
  refine ⟨if_neg other.ne, lost, ?_⟩
  have appended : (((s.afterAppend (s.assembleRecord b cause overshoot)).ports.get p).events.get .recordLost).flag =
      true := State.dropOldest_flag full low
  exact ((State.raises_requestRecord (C := windowClasses) (by decide) _ _).trans
    ((State.raises_requestCheckpoint (by decide) _).trans (State.raises_raise (by decide) _))).flags p _ appended

end

/-! ### The requests of a close (R79, R85, R186, R187) -/

/-- The state of a close once its RECORD request is made (R79 steps 1 and 2). -/
def State.afterRecord (r : BatchRecord) (s : State) : State := (s.afterAppend r).requestRecord r

/-- What the close leaves when its CHECKPOINT request begins no job. -/
theorem State.closed_of_unbegun (now : State) {v : State} (busy : v.store.status = .ready → ¬ v.store.hasRoom) :
    (v.requestCheckpoint.raise .batchClosed).history = v.history ∧
      jobAsked now v.store (v.requestCheckpoint.raise .batchClosed).store .checkpoint ∧
      v.SameRetention (v.requestCheckpoint.raise .batchClosed) := by
  rw [State.requestCheckpoint_unbegun busy]
  exact ⟨rfl, Store.askCheckpoint_jobAsked now busy, State.raise_sameRetention (by decide) _⟩

section
variable {r : BatchRecord} (h : s.historyLegal) (number : r.seq = s.batchSeq)
include h

theorem State.historyLegal.afterAppend_ring (r : BatchRecord) :
    (s.afterAppend r).history.ring = s.history.keptRing ++ [⟨r, .pending⟩] :=
  h.appendRecord_ring r

include number in
/-- A record that the store refuses is NOT_RETAINED, with RETENTION raised (R85, R186). -/
theorem State.historyLegal.afterRecord_refused
    (refused : s.store.status = .halted ∨ s.store.powerFail = true ∨ s.store.queue.length = 4) :
    (s.afterRecord r).history.ring = s.history.keptRing ++ [⟨r, .notRetained⟩] ∧ (s.afterRecord r).store = s.store ∧
      ∀ p, (((s.afterRecord r).ports.get p).events.get .retention).flag = true ∧
        ((s.afterRecord r).ports.get p).causes.recordNotRetained = true := by
  have lost : s.afterRecord r = (s.afterAppend r).loseRecord r.seq :=
    State.requestRecord_refused (by rwa [State.afterAppend_store])
  have kept : s.history.keptRing.map (RingEntry.lose [r.seq]) = s.history.keptRing :=
    map_lose_of_not_mem fun e he => by rw [List.mem_singleton, number]; exact (h.keptRing_below e he).ne
  rw [lost]
  refine ⟨?_, (State.loseRecord_store ..).trans (s.afterAppend_store r), fun p => ?_⟩
  · show (s.afterAppend r).history.ring.map (RingEntry.lose [r.seq]) = _
    rw [h.afterAppend_ring, List.map_append, kept]
    simp [RingEntry.lose]
  · rw [State.loseRecord, State.raiseRetention_get, PortState.occurRetention_retention, PortState.occurRetention_causes]
    exact ⟨rfl, rfl⟩

theorem State.historyLegal.afterRecord_writing (writing : s.store.status = .writing) (room : s.store.hasRoom) :
    (s.afterRecord r).history.ring = s.history.keptRing ++ [⟨r, .pending⟩] ∧
      (s.afterRecord r).store = { s.store with queue := s.store.queue ++ [.record r] } := by
  have store := s.afterAppend_store r
  have joined : s.afterRecord r = (s.afterAppend r).joinQueue (.record r) :=
    State.requestRecord_taken (.inr (store ▸ writing)) (store ▸ room)
  rw [joined, State.joinQueue_of_not_ready (by rw [store, writing]; decide), store]
  exact ⟨h.afterAppend_ring r, rfl⟩

end

/-- The state in which the RECORD job of a READY store begins, but for the batch, the counter, the cursors, the sampler and the
events of the close. -/
def State.recordReady (r : BatchRecord) (s : State) : State :=
  { s with
    store := { s.store with queue := [.record r] }
    history := { s.history with ring := s.history.keptRing ++ [⟨r, .pending⟩] } }

theorem State.beginJob_recordReady_store (r : BatchRecord) (s : State) :
    (s.recordReady r).beginJob.store.status = .writing := by
  have queue : (s.recordReady r).store.queue = .record r :: [] := rfl
  cases old : needsErase s.store.slots r.seq
  · rw [State.beginJob_plain queue old]
  · rw [State.beginJob_erase queue old, State.raiseRetentionTimes_store]
    rfl

/-- In READY the RECORD job begins at once, as it does in the state before the close (R186). -/
theorem State.historyLegal.afterRecord_ready {r : BatchRecord} (h : s.historyLegal) (ready : s.store.status = .ready)
    (room : s.store.hasRoom) (empty : s.store.queue = []) :
    (s.recordReady r).beginJob.SameStore (s.afterRecord r) := by
  have store := s.afterAppend_store r
  have joined : s.afterRecord r = (s.afterAppend r).joinQueue (.record r) :=
    State.requestRecord_taken (.inl (store ▸ ready)) (store ▸ room)
  rw [joined, State.joinQueue, if_pos (store ▸ ready)]
  refine State.SameStore.beginJob (r := r) (rest := []) ⟨?_, ?_, h.afterAppend_ring r, ?_⟩ rfl
  · exact s.appendRecord_tick r
  · show { (s.afterAppend r).store with queue := (s.afterAppend r).store.queue ++ [Job.record r] } = _
    rw [store, empty]
    rfl
  · exact s.afterAppend_sameRetention r

/-! ### The close, case by case (R79, R186) -/

section
variable (now : State) (h : s.historyLegal) (b : OpenBatch) (cause : CloseCause) (overshoot : Nat)
include h

theorem State.historyLegal.closeBatch_ring : ∃ front e, (s.closeBatch cause overshoot b).history.ring = front ++ [e] ∧
    front.map RingEntry.record = s.history.keptRing.map RingEntry.record ∧
    e.record = s.assembleRecord b cause overshoot ∧ e.retention ≠ .retained := by
  have lost : (s.afterAppend (s.assembleRecord b cause overshoot)).RingLost (s.closeBatch cause overshoot b) := by
    rw [State.closeBatch_eq]
    exact ((State.requestRecord_ringLost _ _).trans (State.requestCheckpoint_ringLost _)).trans
      (.of_ring (by rw [State.raise_history]))
  obtain ⟨l, ring⟩ := lost
  rw [h.afterAppend_ring, List.map_append] at ring
  refine ⟨_, _, ring, ?_, RingEntry.lose_record .., fun retained => ?_⟩
  · rw [List.map_map]
    exact List.map_congr_left fun e _ => e.lose_record l
  · rcases RingEntry.lose_retention l ⟨s.assembleRecord b cause overshoot, .pending⟩ with e | e
    · cases e.symm.trans retained
    · cases e.symm.trans retained

theorem State.historyLegal.closeBatch_refused
    (refused : s.store.status = .halted ∨ s.store.powerFail = true ∨ s.store.queue.length = 4) :
    (s.closeBatch cause overshoot b).history.ring =
        s.history.keptRing ++ [⟨s.assembleRecord b cause overshoot, .notRetained⟩] ∧
      jobAsked now s.store (s.closeBatch cause overshoot b).store .checkpoint ∧
      ∀ p, (((s.closeBatch cause overshoot b).ports.get p).events.get .retention).flag = true ∧
        ((s.closeBatch cause overshoot b).ports.get p).causes.recordNotRetained = true := by
  obtain ⟨ring, store, raised⟩ := h.afterRecord_refused (r := s.assembleRecord b cause overshoot) rfl refused
  have busy : s.store.status = .ready → ¬ s.store.hasRoom := by
    rintro ready ⟨power, room⟩
    rcases refused with halted | fail | full
    · rw [ready] at halted; cases halted
    · rw [fail] at power; cases power
    · omega
  obtain ⟨history, asked, retention⟩ := State.closed_of_unbegun now (v := s.afterRecord _) (store ▸ busy)
  refine ⟨(congrArg History.ring history).trans ring, store ▸ asked, fun p => ?_⟩
  obtain ⟨flag, cause⟩ := raised p
  rw [State.closeBatch_eq]
  exact ⟨(congrArg EventEntry.flag (retention p).entry).trans flag,
    (congrArg RetentionCauses.recordNotRetained (retention p).causes).trans cause⟩

theorem State.historyLegal.closeBatch_writing (writing : s.store.status = .writing) (room : s.store.hasRoom) :
    (s.closeBatch cause overshoot b).history.ring =
        s.history.keptRing ++ [⟨s.assembleRecord b cause overshoot, .pending⟩] ∧
      jobAsked now { s.store with queue := s.store.queue ++ [.record (s.assembleRecord b cause overshoot)] }
        (s.closeBatch cause overshoot b).store .checkpoint := by
  obtain ⟨ring, store⟩ := h.afterRecord_writing (r := s.assembleRecord b cause overshoot) writing room
  have busy : (s.afterRecord (s.assembleRecord b cause overshoot)).store.status ≠ .ready := by
    rw [store, writing]; decide
  obtain ⟨history, asked, -⟩ := State.closed_of_unbegun now fun ready => absurd ready busy
  exact ⟨(congrArg History.ring history).trans ring, store ▸ asked⟩

/-- In READY the RECORD job begins, and the CHECKPOINT request joins behind it. -/
theorem State.historyLegal.closeBatch_ready (records : s.recordsLegal) (ready : s.store.status = .ready)
    (room : s.store.hasRoom) (empty : s.store.queue = []) :
    ∃ u front, (s.closeBatch cause overshoot b).history.ring =
        front ++ [⟨s.assembleRecord b cause overshoot, .pending⟩] ∧
      u.history.ring = (s.closeBatch cause overshoot b).history.ring ∧
      jobAsked now u.store (s.closeBatch cause overshoot b).store .checkpoint ∧
      jobBegins (s.recordReady (s.assembleRecord b cause overshoot)) u (.record (s.assembleRecord b cause overshoot)) ∧
      u.SameRetention (s.closeBatch cause overshoot b) := by
  let r := s.assembleRecord b cause overshoot
  have queue : (s.recordReady r).store.queue = .record r :: [] := rfl
  have below := (State.recordsLegal_iff.1 records).slots (by rw [ready]; decide)
  obtain ⟨-, store, ring, retention⟩ := h.afterRecord_ready (r := r) ready room empty
  have busy : (s.afterRecord r).store.status ≠ .ready := by
    rw [store, State.beginJob_recordReady_store]; decide
  obtain ⟨history, asked, kept⟩ := State.closed_of_unbegun now fun ready => absurd ready busy
  obtain ⟨front, last⟩ := State.beginJob_keeps (front := s.history.keptRing) (e := ⟨r, .pending⟩) queue below rfl
  exact ⟨(s.recordReady r).beginJob, front, ((congrArg History.ring history).trans ring).trans last,
    ((congrArg History.ring history).trans ring).symm, store ▸ asked, State.beginJob_record queue, retention.trans kept⟩

end

end

end Sys2Proof.Machine
end

section
/-! PROOFS. The record and the response of BATCH_CLOSE (R74, R76, R77, R86, R158), and the settled statement. -/

namespace Sys2Proof.Machine

theorem ownGrabs_eq (l : List GrabMark) : ownGrabs l = (l.filter fun x => decide (x = .own)).length := by
  rw [ownGrabs, List.countP_eq_length_filter]
  rfl

/-- The entry that joined the ring last is one entry, however the ring is described. -/
theorem ring_last_inj {front front' : List RingEntry} {e e' : RingEntry} (h : front ++ [e] = front' ++ [e']) :
    front = front' ∧ e = e' := by
  obtain ⟨fronts, last⟩ := List.append_inj' h rfl
  exact ⟨fronts, List.singleton_inj.1 last⟩

theorem Sampler.closeBatch_eq (x : Sampler) : x.closeBatch = { x with
    counts := ⟨0, 0, 0, 0, 0, 0⟩, pendingGrabs := List.replicate x.pendingGrabs.length .carried } := by
  rw [Sampler.closeBatch, List.map_const']
  rfl

section
variable (s : State) (b : OpenBatch) (cause : CloseCause) (overshoot : Nat)

theorem State.closeBatch_sampler : (s.closeBatch cause overshoot b).sampler = s.sampler.closeBatch := by
  simp [State.closeBatch]

theorem State.closeBatch_flag (p : Port) :
    (((s.closeBatch cause overshoot b).ports.get p).events.get .batchClosed).flag = true := by
  simp [State.closeBatch_eq]

theorem State.closeBatch_sameSetting : s.SameSetting (s.closeBatch cause overshoot b) :=
  ⟨by simp, by simp, by simp, by simp, by simp, by simp, by simp, by simp, by simp⟩

end

/-- The answer to a close changes the ports and their select pins (R163, R168). -/
theorem State.SameSetting.respond_frame {s v : State} (same : s.SameSetting v) (channels : v.channels = s.channels)
    (totalizers : v.totalizers = s.totalizers) (queue : v.queue = s.queue) (prover : v.prover = s.prover)
    (p : Port) (code : Byte) (a : Answer) :
    let t := v.respond p code a
    t = { s with
      lines := t.lines, batch := t.batch, batchSeq := t.batchSeq, history := t.history, sampler := t.sampler
      ports := t.ports, store := t.store } := by
  intro t
  have responded : v.SameSetting t := ⟨rfl, rfl, rfl, rfl, rfl, rfl, rfl, rfl, rfl⟩
  refine (same.trans responded).frame.trans ?_
  rw [show t.channels = s.channels from channels, show t.totalizers = s.totalizers from totalizers,
    show t.queue = s.queue from queue, show t.prover = s.prover from prover]

theorem State.batchClose_none {s : State} (h : s.batch = none) : s.batchClose = refused .wrongState s := by
  simp only [State.batchClose, h]

theorem State.batchClose_some {s : State} {b : OpenBatch} (h : s.batch = some b) (low : s.batchSeq ≤ max32) :
    s.batchClose = (s.closeBatch .requested 0 b, ⟨.ok, bytesOf 4 s.batchSeq⟩) := by
  simp only [State.batchClose, h, field_eq (low.trans_lt (by decide : max32 < 256 ^ 4))]
  rfl

/-- A store that takes a RECORD job is READY with nothing to write, or WRITING, and has room (R186, R188). -/
theorem State.storeLegal.taken {s : State} (h : s.storeLegal) (ready : s.isRestoring = false)
    (taken : ¬ (s.store.status = .halted ∨ s.store.powerFail = true ∨ s.store.queue.length = 4)) :
    (s.store.status = .ready ∨ s.store.status = .writing) ∧ s.store.hasRoom ∧
      (s.store.status = .ready → s.store.queue = []) := by
  obtain ⟨size, -, idle, -⟩ := h
  obtain ⟨running, power, room⟩ := not_or.1 taken |>.imp_right not_or.1
  refine ⟨?_, ⟨Bool.eq_false_iff.2 power, by omega⟩, fun isReady => ?_⟩
  · have started := s.isRestoring_eq_false.1 ready
    cases status : s.store.status with
    | ready => exact .inl rfl
    | writing => exact .inr rfl
    | restoring => exact absurd status started
    | halted => exact absurd status running
  · obtain ⟨queue, -⟩ := idle (by rw [isReady]; decide)
    exact queue

/-- Settles O45: the close's record joins the ring and its requests are made in the store's state, case by case; what is
raised and answered after them touches neither the ring, the store nor RETENTION. -/
theorem batchCloseFreezesTheRecord : Obligations.BatchCloseFreezesTheRecord := by
  intro s ready
  have closes {t : State} {x : Answer} (e : s.batchClose = (t, x)) :
      exec (.batchClose .sup []) s = .next (t.respond .sup 0x26 x) :=
    congrArg Host.Outcome.next (takeRequest_eq ready rfl rfl e)
  refine ⟨fun none => closes (State.batchClose_none none), fun b opened low legal => ?_⟩
  have closed := closes (State.batchClose_some opened low)
  obtain ⟨front, e, ring, records, record, retention⟩ := legal.closeBatch_ring b .requested 0
  have refusing (now : State) := legal.closeBatch_refused now b .requested 0
  have writing (now : State) := legal.closeBatch_writing now b .requested 0
  have beginning (now : State) := legal.closeBatch_ready now b .requested 0
  have atEnd (p : Port) := legal.closeBatch_atEnd (p := p) .requested 0 b
  have onDropped (p : Port) := @State.historyLegal.closeBatch_onDropped s legal .requested 0 b p
  have onKept (p : Port) := legal.closeBatch_onKept (p := p) .requested 0 b
  have flag := State.closeBatch_flag s b .requested 0
  have batch : (s.closeBatch .requested 0 b).batch = none := State.closeBatch_batch ..
  have batchSeq : (s.closeBatch .requested 0 b).batchSeq = s.batchSeq + 1 := State.closeBatch_batchSeq ..
  have sampler := (State.closeBatch_sampler s b .requested 0).trans (Sampler.closeBatch_eq _)
  have frame := (State.closeBatch_sameSetting s b .requested 0).respond_frame (State.closeBatch_channels ..)
    (State.closeBatch_totalizers ..) (State.closeBatch_queue ..) (State.closeBatch_prover ..) .sup 0x26
    ⟨.ok, bytesOf 4 s.batchSeq⟩
  -- Nothing of the close but these facts is needed from here on.
  generalize s.closeBatch .requested 0 b = v at *
  let t := v.respond .sup 0x26 ⟨.ok, bytesOf 4 s.batchSeq⟩
  have answered : v.SameRetention t := State.respond_sameRetention .sup 0x26 _ v
  have same {front' : List RingEntry} {e' : RingEntry} (h : v.history.ring = front' ++ [e']) :
      front = front' ∧ e = e' := ring_last_inj (ring.symm.trans h)
  refine ⟨t, e, front, closed, ?_, ring, ?_, ?_, retention, fun refused => ?_,
    fun storeLegal recordsLegal => ⟨fun refused => ?_, fun taken => ?_⟩, batch, batchSeq, sampler, fun p => ?_,
    fun p => ⟨atEnd p, fun oldest second rest seqs full at_oldest => ?_, fun kept => ?_⟩, frame⟩
  · rw [State.respond_get_self]
  · rw [← List.map_drop]; exact records
  · rw [record, State.assembleRecord, ownGrabs_eq]
    rfl
  · obtain ⟨ring', -⟩ := refusing t refused
    obtain ⟨-, last⟩ := same ring'
    rw [last]
  · obtain ⟨ring', asked, raised⟩ := refusing t refused
    obtain ⟨fronts, -⟩ := same ring'
    refine ⟨fronts, asked, fun p => ?_⟩
    obtain ⟨flag, cause⟩ := raised p
    exact ⟨(congrArg EventEntry.flag (answered p).entry).trans flag,
      (congrArg RetentionCauses.recordNotRetained (answered p).causes).trans cause⟩
  · obtain ⟨status, room, empty⟩ := State.storeLegal.taken storeLegal ready taken
    refine ⟨?_, fun isWriting => ?_, fun isReady => ?_⟩
    · rcases status with isReady | isWriting
      · obtain ⟨_, _, ring', _⟩ := beginning t recordsLegal isReady room (empty isReady)
        obtain ⟨-, last⟩ := same ring'
        rw [last]
      · obtain ⟨ring', -⟩ := writing t isWriting room
        obtain ⟨-, last⟩ := same ring'
        rw [last]
    · obtain ⟨ring', asked⟩ := writing t isWriting room
      obtain ⟨fronts, last⟩ := same ring'
      exact ⟨fronts, last ▸ asked⟩
    · obtain ⟨u, front', ring', ringOf, asked, begins, kept⟩ := beginning t recordsLegal isReady room (empty isReady)
      obtain ⟨-, last⟩ := same ring'
      have alike := kept.trans answered
      refine ⟨u, ringOf.trans ring, asked, ?_, fun p => ⟨(alike p).entry, (alike p).causes⟩⟩
      subst last
      exact begins
  · rw [State.respond_events]; exact flag p
  · rw [State.respond_events]
    exact onDropped p seqs full.ge at_oldest
  · exact onKept p (legal.keptSeqs_eq ▸ kept)

end Sys2Proof.Machine
end

section
/-! PROOFS. The history requests (R86 to R95): what is found in the ring, the bytes of a record's part, the move of a cursor and
the search for a parcel; and the settled statements. -/

namespace Sys2Proof.Machine

/-- In an ordered list the hit that no other hit precedes is the one found. -/
theorem find?_eq_some_of_first {α : Type} {r : α → α → Prop} {p : α → Bool} {l : List α} {x : α} (ordered : l.Pairwise r)
    (mem : x ∈ l) (hit : p x = true) (first : ∀ y ∈ l, p y = true → ¬ r y x) : l.find? p = some x := by
  induction l with
  | nil => cases mem
  | cons y l ih =>
    obtain ⟨before, ordered⟩ := List.pairwise_cons.1 ordered
    rcases List.mem_cons.1 mem with rfl | mem
    · exact List.find?_cons_of_pos hit
    · have miss : ¬ p y = true := fun hy => first y List.mem_cons_self hy (before x mem)
      rw [List.find?_cons_of_neg miss]
      exact ih ordered mem fun z hz => first z (List.mem_cons_of_mem y hz)

/-! ### Bounds of the ring (R84) -/

section
variable {s : State}

theorem State.bounds_of_empty (empty : s.history.ring = []) : s.oldestSeq = s.batchSeq ∧ s.endSeq = s.batchSeq := by
  simp [State.oldestSeq, State.endSeq, History.seqs, empty]

theorem State.oldestSeq_of_cons {e : RingEntry} {rest : List RingEntry} (ring : s.history.ring = e :: rest) :
    s.oldestSeq = e.record.seq := by
  simp [State.oldestSeq, History.seqs, ring]

theorem State.endSeq_of_concat {e : RingEntry} {front : List RingEntry} (ring : s.history.ring = front ++ [e]) :
    s.endSeq = e.record.seq + 1 := by
  simp [State.endSeq, History.seqs, ring]

/-- No record of the ring is at or above a value: the value is moved to the end (R87). -/
theorem State.seek_eq_endSeq {v : Nat} (above : ∀ q ∈ s.history.seqs, q < v) : s.seek v = s.endSeq := by
  rw [State.seek, List.find?_eq_none.2 fun q hq => by simpa using above q hq]
  rfl

section
variable (h : s.historyLegal)
include h

theorem State.historyLegal.ring_ascending : s.history.ring.Pairwise fun x y => x.record.seq < y.record.seq :=
  List.pairwise_map.1 h.ascending

theorem State.historyLegal.endSeq_le : s.endSeq ≤ s.batchSeq := by
  rcases List.eq_nil_or_concat' s.history.ring with empty | ⟨front, e, ring⟩
  · exact (State.bounds_of_empty empty).2.le
  · rw [State.endSeq_of_concat ring]
    exact h.below _ (List.mem_map_of_mem (by simp [ring]))

theorem State.historyLegal.oldestSeq_le_endSeq : s.oldestSeq ≤ s.endSeq := by
  cases ring : s.history.ring with
  | nil =>
    obtain ⟨oldest, last⟩ := State.bounds_of_empty ring
    rw [oldest, last]
  | cons e rest =>
    rw [State.oldestSeq_of_cons ring]
    exact (h.lt_endSeq (List.mem_map_of_mem (by simp [ring]))).le

/-- A port's cursor is at most the batch sequence counter (R84, R87). -/
theorem State.historyLegal.position_le {n : Nat} (hn : n ∈ s.history.seqs ∨ n = s.endSeq) : n ≤ s.batchSeq := by
  rcases hn with mem | rfl
  · exact (h.below n mem).le
  · exact h.endSeq_le

theorem State.historyLegal.find_eq {e : RingEntry} (mem : e ∈ s.history.ring) :
    s.history.find e.record.seq = some e :=
  find?_eq_some_of_first h.ring_ascending mem (beq_self_eq_true _) fun _ _ same => (beq_iff_eq.1 same).not_lt

theorem State.historyLegal.seek_eq {q v : Nat} (mem : q ∈ s.history.seqs) (high : v ≤ q)
    (first : ∀ x ∈ s.history.seqs, v ≤ x → q ≤ x) : s.seek v = q := by
  rw [State.seek, find?_eq_some_of_first h.ascending mem (decide_eq_true high)
    fun x hx low => (first x hx (of_decide_eq_true low)).not_gt]
  rfl

/-- A value up to the end is moved up over a gap, to the first record or to the end (R87, R92). -/
theorem State.historyLegal.seek_least {v : Nat} (hv : v ≤ s.endSeq) :
    v ≤ s.seek v ∧ ∀ q ∈ s.history.seqs, v ≤ q → s.seek v ≤ q := by
  unfold State.seek
  cases found : s.history.seqs.find? fun q => decide (v ≤ q) with
  | none => exact ⟨hv, fun q hq high => absurd (decide_eq_true high) (List.find?_eq_none.1 found q hq)⟩
  | some n =>
    obtain ⟨hit, front, rest, seqs, miss⟩ := List.find?_eq_some_iff_append.1 found
    refine ⟨of_decide_eq_true hit, fun q hq high => ?_⟩
    have ascending := h.ascending
    rw [seqs] at hq ascending
    obtain ⟨-, ascending, -⟩ := List.pairwise_append.1 ascending
    rcases List.mem_append.1 hq with early | late
    · exact absurd high (by simpa using miss q early)
    · rcases List.mem_cons.1 late with rfl | late
      · exact le_rfl
      · exact ((List.pairwise_cons.1 ascending).1 q late).le

/-- The advance over a record goes to the record behind it, or to the end (R91). -/
theorem State.historyLegal.seek_succ {front rest : List RingEntry} {e : RingEntry}
    (ring : s.history.ring = front ++ e :: rest) : s.seek (e.record.seq + 1) =
      ((rest.head?).map fun y => y.record.seq).getD (e.record.seq + 1) := by
  have ascending := h.ascending
  have seqs : s.history.seqs = front.map (·.record.seq) ++ e.record.seq :: rest.map (·.record.seq) := by
    rw [History.seqs, ring, List.map_append, List.map_cons]
  rw [seqs] at ascending
  obtain ⟨-, upper, across⟩ := List.pairwise_append.1 ascending
  have low : ∀ q ∈ front.map (·.record.seq), q < e.record.seq := fun q hq => across q hq _ List.mem_cons_self
  cases rest with
  | nil =>
    rw [← State.endSeq_of_concat ring]
    exact State.seek_eq_endSeq fun q hq => State.endSeq_of_concat ring ▸ h.lt_endSeq hq
  | cons y rest =>
    obtain ⟨next, later⟩ := List.pairwise_cons.1 upper
    refine h.seek_eq (by simp [seqs]) (next _ List.mem_cons_self) fun q hq high => ?_
    rw [seqs] at hq
    rcases List.mem_append.1 hq with before | after
    · exact absurd (low q before) (by omega)
    · rcases List.mem_cons.1 after with rfl | after
      · omega
      · rcases List.mem_cons.1 after with rfl | after
        · exact le_rfl
        · exact ((List.pairwise_cons.1 later).1 q after).le

end

end

/-! ### READ_RECORD (R86, R90, R91) -/

theorem recordPart_length (e : RingEntry) (part : Nat) : (recordPart e part).length = 64 := by
  unfold recordPart
  cases runOfNumber part
  · unfold recordHeader
    simp only [flagsByte, secondsField, List.length_append, field_length, List.length_singleton]
  · simp only [recordRunPart, tripleFields, faultFields, List.length_append, field_length]

theorem field_four {v : Nat} (h : v < 2 ^ 32) : field 4 v = bytesOf 4 v := field_eq h

/-- Part 0 of a record, its flags given (R86). -/
theorem BatchRecord.fits.recordHeader_eq {x : BatchRecord} (h : x.fits) {retention : RetentionState} {flags : Byte}
    (hf : flagsByte [x.flags.saturated, x.flags.powerInterrupted, x.flags.kChanged, x.flags.provedDuring,
      x.flags.preTargetReached, x.timeValid, decide (retention = .retained), decide (retention = .notRetained)] =
        [flags]) :
    recordHeader x retention = bytesOf 4 x.seq ++ bytesOf 4 x.parcel ++
      [byteOf x.grade, byteOf (modeCode x.mode), byteOf x.repeatIndex, byteOf (causeCode x.cause), flags,
        byteOf x.runSet.toNat] ++ bytesOf 4 x.openTime.toNat ++ bytesOf 4 x.closeTime.toNat ++ bytesOf 4 x.target ++
      bytesOf 4 x.overshoot ++ bytesOf 4 x.changesOpen ++ bytesOf 4 x.changesClose ++ bytesOf 4 x.grabs.due ++
      bytesOf 4 x.grabs.issued ++ bytesOf 4 x.grabs.hold ++ bytesOf 4 x.grabs.full ++ bytesOf 4 x.grabs.overflow ++
      [byteOf x.pendingGrabs, byteOf x.grabs.carriedIn] ++ bytesOf 4 x.fill := by
  obtain ⟨seq, parcel, grade, index, target, overshoot, opened, closed, due, issued, hold, full, overflow, waiting, carried,
    fill, -⟩ := h
  have runSet := x.runSet.isLt
  have mode : modeCode x.mode < 256 := by cases x.mode <;> decide
  have cause : causeCode x.cause < 256 := by cases x.cause <;> decide
  have retained : (retention == .retained) = decide (retention = .retained) := rfl
  have notRetained : (retention == .notRetained) = decide (retention = .notRetained) := rfl
  unfold recordHeader
  rw [retained, notRetained, hf, field_four seq, field_four parcel, field_one grade, field_one mode,
    field_one index, field_one cause, field_one (by omega), secondsField_eq, secondsField_eq, field_four target,
    field_four overshoot, field_four opened, field_four closed, field_four due, field_four issued, field_four hold, field_four full,
    field_four overflow, field_one waiting, field_one carried, field_four fill]
  simp only [List.append_assoc, List.cons_append, List.nil_append]

/-- A run's part of a record (R86). -/
theorem RunPart.fits.recordRunPart_eq {y : RunPart} (h : y.fits) (r : Run) : recordRunPart r y =
    [runByte r] ++ tripleBytes 4 y.volume ++ bytesOf 4 y.outsideCurve ++ bytesOf 4 y.preceding.indicated ++
      bytesOf 4 y.preceding.gross ++ faultBytes 1 y.faults ++ [byteOf y.mfChanges] ++ bytesOf 3 y.weightedMf ++
      tripleBytes 5 y.opening ++ tripleBytes 5 y.closing := by
  obtain ⟨volume, outside, indicated, gross, faults, changes, factor, opening, closing⟩ := h
  rw [recordRunPart, field_runNumber, tripleFields_eq volume (by decide), field_four outside, field_four indicated,
    field_four gross, faultFields_eq faults (by decide), field_one (changes.trans_lt (by decide)), field_eq (n := 3) factor,
    tripleFields_eq opening (by decide), tripleFields_eq closing (by decide)]

section
variable {s : State} {p : Port} {selector part advance : Nat}

theorem State.readRecord_badArgument (h : 4 < part ∨ 1 < advance) :
    s.readRecord p selector part advance = refused .badArgument s := if_pos h

variable (low : part ≤ 4) (flag : advance ≤ 1)
include low flag

theorem State.readRecord_notFound
    (none : ∀ e ∈ s.history.ring, e.record.seq ≠ if selector = 0 then s.history.cursors.get p else selector) :
    s.readRecord p selector part advance = refused .notFound s := by
  have found : s.history.find (if selector = 0 then s.history.cursors.get p else selector) = .none :=
    List.find?_eq_none.2 fun e he => by simpa using none e he
  rw [State.readRecord, if_neg (by omega)]
  simp only [found]

theorem State.historyLegal.readRecord_found (h : s.historyLegal) {e : RingEntry} (mem : e ∈ s.history.ring)
    (named : e.record.seq = if selector = 0 then s.history.cursors.get p else selector) :
    s.readRecord p selector part advance =
      (if selector = 0 ∧ part = 4 ∧ advance = 1 then s.setCursor p (s.seek (e.record.seq + 1)) else s,
        .okWith (recordPart e part)) := by
  have found := h.find_eq mem
  rw [State.readRecord, if_neg (by omega)]
  simp only [← named, found]
  split <;> rfl

end

/-- The six argument bytes of READ_RECORD and FIND_PARCEL: a number of four and two of one (R90, R94). -/
theorem arguments_four_one_one (a b c d x y : Byte) : argument [a, b, c, d, x, y] 0 4 = (a ++ b ++ c ++ d).toNat ∧
    argument [a, b, c, d, x, y] 4 1 = x.toNat ∧ argument [a, b, c, d, x, y] 5 1 = y.toNat :=
  ⟨numberOf_four a b c d, numberOf_one x, numberOf_one y⟩

/-- Settles O47: the request passes the checks of R169; the ring holds one record of a sequence number, whose parts are read as
they are laid out, and the cursor is sought from the number after it. -/
theorem recordReadsFollowTheLayout : Obligations.RecordReadsFollowTheLayout := by
  intro p a b c d part adv s ready legal q chosen answer
  obtain ⟨selector, partField, advanceField⟩ := arguments_four_one_one a b c d part adv
  have reading {t : State} {x : Answer} (e : s.readRecord p q part.toNat adv.toNat = (t, x)) :
      answer = .next (t.respond p 0x28 x) := by
    refine congrArg Host.Outcome.next (takeRequest_eq ready rfl rfl ?_)
    rw [selector, partField, advanceField]
    exact e
  refine ⟨fun bad => reading (State.readRecord_badArgument bad),
    fun low flag none => reading (State.readRecord_notFound low flag none), ?_⟩
  intro front e rest low flag ring named fits x next
  refine ⟨recordPart e part.toNat, ?_, recordPart_length .., ?_, ?_⟩
  · have advance : s.seek (x.seq + 1) = next := (legal.seek_succ ring).trans (by cases rest <;> rfl)
    have last : part.toNat = 4 ↔ part = 4 := BitVec.toNat_inj (y := 4#8)
    have one : adv.toNat = 1 ↔ adv = 1 := BitVec.toNat_inj (y := 1#8)
    have found := legal.readRecord_found (p := p) low flag (by simp [ring]) named
    rw [advance] at found
    simp only [last, one] at found
    exact reading found
  · rintro rfl
    obtain ⟨flags, holds, byte⟩ := flagsByte_holds [x.flags.saturated, x.flags.powerInterrupted, x.flags.kChanged,
      x.flags.provedDuring, x.flags.preTargetReached, x.timeValid, decide (e.retention = .retained),
      decide (e.retention = .notRetained)]
    exact ⟨flags, holds, fits.recordHeader_eq byte⟩
  · rintro r rfl
    have part : (x.runs.get r).fits := by
      obtain ⟨-, -, -, -, -, -, -, -, -, -, -, -, -, -, -, -, parts⟩ := fits
      exact parts r
    rw [recordPart, runOfNumber_runByte]
    exact part.recordRunPart_eq r

/-! ### SET_CURSOR (R92, R93) -/

/-- The position that SET_CURSOR gives a port's cursor: 0 leaves it; any other value is clamped and sought (R92). -/
def State.positionFor (p : Port) (v : Nat) (s : State) : Nat :=
  if v = 0 then s.history.cursors.get p else s.seek (max s.oldestSeq (min v s.endSeq))

section
variable {s : State} (h : s.historyLegal) (p : Port) (v : Nat)
include h

theorem State.historyLegal.moveCursor_eq : s.moveCursor p v =
    ({ s with history := { s.history with
        cursors := s.history.cursors.set p (s.positionFor p v), lost := s.history.lost.set p 0 } },
      .okWith (field 5 (s.positionFor p v) ++ field 5 s.oldestSeq ++ field 5 s.endSeq ++
        field 1 s.history.ring.length ++ field 1 (s.history.lost.get p))) := by
  by_cases zero : v = 0
  · simp only [State.moveCursor, State.positionFor, if_pos zero, PerPort.set_get]
    rfl
  · simp only [State.moveCursor, State.positionFor, if_neg zero, clamp_eq v h.oldestSeq_le_endSeq, State.setCursor,
      State.setHistory_history, PerPort.get_set_self]
    rfl

theorem State.historyLegal.positionFor_mem :
    s.positionFor p v ∈ s.history.seqs ∨ s.positionFor p v = s.endSeq := by
  obtain ⟨-, -, -, cursors, -⟩ := h
  unfold State.positionFor
  split
  · exact cursors p
  · exact s.seek_mem _

theorem State.historyLegal.moveCursor_bytes (low : s.batchSeq ≤ 4294967296) (n : Nat)
    (hn : n ∈ s.history.seqs ∨ n = s.endSeq) :
    field 5 n ++ field 5 s.oldestSeq ++ field 5 s.endSeq ++ field 1 s.history.ring.length ++
      field 1 (s.history.lost.get p) =
    bytesOf 5 n ++ bytesOf 5 s.oldestSeq ++ bytesOf 5 s.endSeq ++
      [byteOf s.history.ring.length, byteOf (s.history.lost.get p)] := by
  have position := h.position_le hn
  have last := h.endSeq_le
  have oldest := h.oldestSeq_le_endSeq
  obtain ⟨size, -, -, -, lost, -⟩ := h
  have count : s.history.lost.get p < 256 := (lost p).trans_lt (by decide)
  rw [field_eq (n := 5) (by omega), field_eq (n := 5) (by omega), field_eq (n := 5) (by omega), field_one (by omega),
    field_one count, List.append_assoc _ [_] [_]]
  rfl

end

/-! ### FIND_PARCEL (R94, R95) -/

/-- The records that a search examines, from the cursor's record on (R94). -/
def RingEntry.scanned (e : RingEntry) (cursor direction : Nat) : Prop :=
  if direction = 0 then cursor ≤ e.record.seq else e.record.seq ≤ cursor

theorem History.mem_scan {h : History} {cursor direction : Nat} {e : RingEntry} :
    e ∈ h.scan cursor direction ↔ e ∈ h.ring ∧ e.scanned cursor direction := by
  unfold History.scan RingEntry.scanned
  split <;> simp

/-- A search examines the records in ascending sequence, or toward older in descending (R94). -/
theorem State.historyLegal.scan_ordered {s : State} (h : s.historyLegal) (cursor direction : Nat) :
    (s.history.scan cursor direction).Pairwise fun x y =>
      if direction = 0 then x.record.seq < y.record.seq else y.record.seq < x.record.seq := by
  unfold History.scan
  split
  · exact h.ring_ascending.filter _
  · exact List.pairwise_reverse.2 (h.ring_ascending.filter _)

section
variable {s : State} {p : Port} {parcel direction move : Nat}

theorem State.findParcel_badArgument (h : 1 < direction ∨ 1 < move) :
    s.findParcel p parcel direction move = refused .badArgument s := if_pos h

variable (low : direction ≤ 1) (flag : move ≤ 1)
include low flag

theorem State.findParcel_notFound (none : parcel = 0 ∨
    ∀ e ∈ s.history.ring, e.scanned (s.history.cursors.get p) direction → e.record.parcel ≠ parcel) :
    s.findParcel p parcel direction move = refused .notFound s := by
  have found : (s.history.scan (s.history.cursors.get p) direction).find?
      (fun e => decide (parcel ≠ 0) && e.record.parcel == parcel) = .none := by
    refine List.find?_eq_none.2 fun e he => ?_
    obtain ⟨mem, scanned⟩ := History.mem_scan.1 he
    rw [Bool.and_eq_true, decide_eq_true_iff, beq_iff_eq]
    rintro ⟨some, same⟩
    exact none.elim some fun none => none e mem scanned same
  rw [State.findParcel, if_neg (by omega)]
  simp only [found]

theorem State.historyLegal.findParcel_found (h : s.historyLegal) (some : parcel ≠ 0) {e : RingEntry}
    (mem : e ∈ s.history.ring) (named : e.record.parcel = parcel)
    (scanned : e.scanned (s.history.cursors.get p) direction)
    (first : ∀ y ∈ s.history.ring, y.scanned (s.history.cursors.get p) direction → y.record.parcel = parcel →
      if direction = 0 then e.record.seq ≤ y.record.seq else y.record.seq ≤ e.record.seq) (fits : e.record.fits) :
    s.findParcel p parcel direction move =
      (if move = 1 then s.setCursor p e.record.seq else s, .okWith (bytesOf 4 e.record.seq ++
        [byteOf e.record.repeatIndex, byteOf (causeCode e.record.cause), byteOf (retentionCode e.retention)])) := by
  have found : (s.history.scan (s.history.cursors.get p) direction).find?
      (fun e => decide (parcel ≠ 0) && e.record.parcel == parcel) = .some e := by
    refine find?_eq_some_of_first (h.scan_ordered _ _) (History.mem_scan.2 ⟨mem, scanned⟩) (by simp [some, named])
      fun y hy hit => ?_
    obtain ⟨memY, scannedY⟩ := History.mem_scan.1 hy
    have least := first y memY scannedY (beq_iff_eq.1 (Bool.and_eq_true_iff.1 hit).2)
    split at least <;> rename_i side <;> simp only [side, if_true, if_false] <;> omega
  obtain ⟨seq, -, -, index, -⟩ := fits
  have cause : causeCode e.record.cause < 256 := by cases e.record.cause <;> decide
  have retention : retentionCode e.retention < 256 := by cases e.retention <;> decide
  rw [State.findParcel, if_neg (by omega)]
  simp only [found, field_four seq, field_one index, field_one cause, field_one retention, List.append_assoc]
  rfl

end

/-- Settles O48: the cursor's position is sought in the ascending ring, and a search finds the first hit of the records in its
order. -/
theorem cursorsAndParcelSearch : Obligations.CursorsAndParcelSearch := by
  intro p a b c d s ready legal low v cursor
  refine ⟨⟨s.positionFor p v, fun zero => if_pos zero, fun some => ?_, ?_⟩, State.bounds_of_empty,
    fun _ _ => State.oldestSeq_of_cons, fun _ _ => State.endSeq_of_concat, ?_⟩
  · have position : s.positionFor p v = s.seek (max s.oldestSeq (min v s.endSeq)) := if_neg some
    obtain ⟨high, least⟩ := legal.seek_least (max_le legal.oldestSeq_le_endSeq (min_le_right v s.endSeq))
    rw [position]
    exact ⟨high, s.seek_mem _, least⟩
  · have selector : argument [a, b, c, d] 0 4 = v := numberOf_four a b c d
    have moved := legal.moveCursor_eq p v
    rw [legal.moveCursor_bytes p low _ (legal.positionFor_mem p v), ← selector] at moved
    exact selector ▸ congrArg Host.Outcome.next (takeRequest_eq ready rfl rfl moved)
  · intro dir move answer scanned
    obtain ⟨parcelField, dirField, moveField⟩ := arguments_four_one_one a b c d dir move
    have searching {t : State} {x : Answer} (e : s.findParcel p v dir.toNat move.toNat = (t, x)) :
        answer = .next (t.respond p 0x29 x) := by
      refine congrArg Host.Outcome.next (takeRequest_eq ready rfl rfl ?_)
      rw [parcelField, dirField, moveField]
      exact e
    have newer : dir.toNat = 0 ↔ dir = 0 := byte_toNat_eq_zero
    have one : move.toNat = 1 ↔ move = 1 := BitVec.toNat_inj (y := 1#8)
    have same (e : RingEntry) : scanned e ↔ e.scanned cursor dir.toNat := by
      simp only [scanned, RingEntry.scanned, newer]
    refine ⟨fun bad => searching (State.findParcel_badArgument bad), fun low flag none =>
      searching (State.findParcel_notFound low flag (none.imp_right fun none e mem hit => none e mem ((same e).2 hit))),
      fun e mem low flag some named hit first fits => ?_⟩
    have found := legal.findParcel_found low flag some mem named ((same e).1 hit)
      (fun y hy hit parcel => by simpa only [newer] using first y hy ((same y).2 hit) parcel) fits
    simp only [one] at found
    exact searching found

end Sys2Proof.Machine
end

section
/-! PROOFS. The write queue (R184 to R187): the copy and write count of an area's job, how the oldest job begins, the owed kinds
that join, and what follows a completion. -/

namespace Sys2Proof.Machine

/-! ### The copy that a job writes (R184) -/

theorem Copies.nextWrite_next {α : Type} (c : Copies α) : c.nextWrite c.writesSecond c.nextCount := by
  refine ⟨?_, ?_, ?_, ?_⟩
  · rintro x y rfl
    refine ⟨decide_eq_true_iff, ?_⟩
    simp only [Copies.nextCount, Copies.newest]
    split <;> simp only [Option.map_some, Option.getD_some] <;> omega
  · rintro x rfl
    exact ⟨rfl, rfl⟩
  · rintro y rfl
    exact ⟨rfl, rfl⟩
  · rintro rfl
    exact ⟨rfl, rfl⟩

/-! ### The oldest job begins, or none waits (R186) -/

/-- What the store does next: the oldest job begins, or with none the store is READY, or HALTED under the power-fail
indication. -/
def State.GoesOn (now t : State) : Prop :=
  (∀ j rest, now.store.queue = j :: rest → jobBegins now t j) ∧
  (now.store.queue = [] → t = { now with store := { now.store with
    status := if now.store.powerFail then .halted else .ready } })

section
variable {s : State}

theorem State.beginJob_begins {j : Job} {rest : List Job} (queue : s.store.queue = j :: rest) :
    jobBegins s s.beginJob j := by
  cases j with
  | parameters =>
    refine ⟨_, _, s.store.parameters.nextWrite_next, ?_⟩
    simp only [State.beginJob, queue]
    rfl
  | checkpoint =>
    refine ⟨_, _, s.store.checkpoints.nextWrite_next, ?_⟩
    simp only [State.beginJob, queue]
    rfl
  | record r => exact State.beginJob_record queue

/-- Without the power-fail indication the oldest job begins, or the store is READY. -/
theorem State.beginJob_goesOn (powered : s.store.powerFail = false) (idle : s.store.writing = none) :
    s.GoesOn s.beginJob := by
  refine ⟨fun j rest queue => State.beginJob_begins queue, fun empty => ?_⟩
  rw [s.beginJob_status.1 empty, powered, ← idle]
  rfl

theorem State.afterCompletion_goesOn (idle : s.store.writing = none) : s.GoesOn s.afterCompletion := by
  unfold State.afterCompletion
  split
  · rename_i halts
    obtain ⟨empty, fail⟩ := halts
    refine ⟨fun j rest queue => ?_, fun _ => ?_⟩
    · rw [empty] at queue; cases queue
    · rw [fail, ← idle]; rfl
  · rename_i runs
    cases fail : s.store.powerFail with
    | false => exact State.beginJob_goesOn fail idle
    | true => exact ⟨fun j rest queue => State.beginJob_begins queue, fun empty => absurd ⟨empty, fail⟩ runs⟩

end

/-! ### The owed kinds join (R186, R189) -/

section
variable (x : Store)

/-- The owed kinds, PARAMETERS first. -/
def Store.owedJobs : List Job :=
  (if x.owedParameters then [Job.parameters] else []) ++ (if x.owedCheckpoint then [Job.checkpoint] else [])

/-- The store with some jobs at the tail of its queue, the marks of their kinds cleared. -/
def Store.joinedBy (jobs : List Job) : Store := { x with
  queue := x.queue ++ jobs
  owedParameters := x.owedParameters && decide (Job.parameters ∉ jobs)
  owedCheckpoint := x.owedCheckpoint && decide (Job.checkpoint ∉ jobs) }

theorem Store.joinedBy_nil : x.joinedBy [] = x := by simp [Store.joinedBy]

/-- The owed kinds join while there is room. -/
theorem Store.joinOwed_eq : x.joinOwed = x.joinedBy (x.owedJobs.take (4 - x.queue.length)) := by
  obtain ⟨status, queue, writing, owedParameters, owedCheckpoint⟩ := x
  obtain room | room | room : (∃ k, 4 - queue.length = k + 2) ∨ queue.length = 3 ∨ 4 ≤ queue.length := by
    rcases Nat.lt_or_ge queue.length 3 with low | high
    · exact .inl ⟨2 - queue.length, by omega⟩
    · exact .inr (by omega)
  · obtain ⟨k, two⟩ := room
    have one : queue.length < 4 := by omega
    have another : queue.length + 1 < 4 := by omega
    cases owedParameters <;> cases owedCheckpoint <;>
      simp [Store.joinOwed, Store.owedJobs, Store.joinedBy, two, one, another]
  · cases owedParameters <;> cases owedCheckpoint <;>
      simp [Store.joinOwed, Store.owedJobs, Store.joinedBy, room]
  · have full : ¬ queue.length < 4 := by omega
    cases owedParameters <;> cases owedCheckpoint <;>
      simp [Store.joinOwed, Store.owedJobs, Store.joinedBy, full, Nat.sub_eq_zero_of_le room]

end

end Sys2Proof.Machine
end

section
/-! PROOFS. JOB_COMPLETE, the power-fail warning and its end, and the periodic check (R184 to R189), and the settled statement. -/

namespace Sys2Proof.Machine

/-! ### JOB_COMPLETE (R184 to R186) -/

/-- The owed kinds that join at a completion: none under the power-fail indication (R186, R188). -/
def Store.joining (x : Store) : List Job :=
  if x.powerFail then [] else x.owedJobs.take (4 - x.waiting.length)

/-- The store with the marker of the job in progress in place and the job out of the queue. -/
def Store.finished (p : Payload) (x : Store) : Store := { x.commit p with queue := x.waiting, writing := none }

theorem Store.finished_joinOwed (p : Payload) (x : Store) :
    (if (x.finished p).powerFail then x.finished p else (x.finished p).joinOwed) = (x.finished p).joinedBy x.joining := by
  have power : (x.finished p).powerFail = x.powerFail := by cases p <;> rfl
  have owed : (x.finished p).owedJobs = x.owedJobs := by cases p <;> rfl
  have queue : (x.finished p).queue = x.waiting := rfl
  rw [power, Store.joining]
  split
  · exact (Store.joinedBy_nil _).symm
  · rw [Store.joinOwed_eq, owed, queue]

/-- The state after a completion, before the oldest job begins: the owed kinds have joined. -/
def State.jobDone (p : Payload) (s : State) : State := { s with
  history := s.history.complete p, store := (s.store.finished p).joinedBy s.store.joining }

section
variable {s : State}

theorem execJobComplete_idle (idle : s.store.writing = none) : execJobComplete s = .next s := by
  simp only [execJobComplete, idle]

theorem execJobComplete_done {w : Writing} (writing : s.store.writing = some w) :
    execJobComplete s = .next (s.jobDone w.payload).afterCompletion := by
  simp only [execJobComplete, writing]
  exact congrArg (fun x => Host.Outcome.next (State.afterCompletion { s with
    history := s.history.complete w.payload, store := x })) (s.store.finished_joinOwed w.payload)

theorem State.jobDone_goesOn (p : Payload) : (s.jobDone p).GoesOn (s.jobDone p).afterCompletion :=
  State.afterCompletion_goesOn rfl

end

/-! ### The warning (R188) -/

section
variable {l : List Job}

theorem mem_recordSeqs {q : Nat} : q ∈ recordSeqs l ↔ ∃ r, Job.record r ∈ l ∧ r.seq = q := by
  unfold recordSeqs
  rw [List.mem_filterMap]
  constructor
  · rintro ⟨j, mem, is⟩
    cases j with
    | parameters | checkpoint => cases is
    | record r => exact ⟨r, mem, Option.some.inj is⟩
  · rintro ⟨r, mem, is⟩
    exact ⟨_, mem, congrArg some is⟩

theorem length_recordSeqs : (recordSeqs l).length =
    (l.filter fun j => decide (j ≠ .checkpoint ∧ j ≠ .parameters)).length := by
  induction l with
  | nil => rfl
  | cons j l ih =>
    cases j with
    | parameters | checkpoint => exact ih
    | record r => exact congrArg (· + 1) ih

end

namespace Store
variable (x : Store)

/-- The numbers of the records whose RECORD jobs a warning drops. -/
def droppedSeqs : List Nat := recordSeqs (x.waiting.filter (· != .checkpoint))

theorem mem_droppedSeqs {q : Nat} : q ∈ x.droppedSeqs ↔ ∃ r, Job.record r ∈ x.waiting ∧ r.seq = q := by
  simp [droppedSeqs, mem_recordSeqs]

theorem length_droppedSeqs : x.droppedSeqs.length =
    (x.waiting.filter fun j => decide (j ≠ .checkpoint ∧ j ≠ .parameters)).length := by
  rw [droppedSeqs, length_recordSeqs, List.filter_filter]
  refine congrArg List.length (List.filter_congr fun j _ => ?_)
  cases j <;> rfl

/-- The store under the indication: of the waiting jobs a CHECKPOINT is kept, or one is asked for. -/
def warned : Store := { x with
  powerFail := true
  queue := x.queue.take 1 ++
    (if .checkpoint ∈ x.waiting then x.waiting.filter (· = .checkpoint) else [.checkpoint])
  owedParameters := x.owedParameters || decide (Job.parameters ∈ x.waiting) }

end Store

/-- RETENTION raised for each record whose job was dropped, and for the warning (R188). -/
def State.announceWarning (x : Store) (s : State) : State :=
  (s.raiseRetentionTimes .recordNotRetained x.droppedSeqs.length).raiseRetention .powerWarning

section
variable (x : Store) (s : State)

theorem State.announceWarning_frame :
    s.announceWarning x = { s with ports := (s.announceWarning x).ports } := by
  unfold State.announceWarning
  rw [State.raiseRetention_frame, State.raiseRetentionTimes_frame]

theorem State.announceWarning_history : (s.announceWarning x).history = s.history := by
  rw [s.announceWarning_frame x]

theorem State.announceWarning_retentionTimes : retentionTimes s (s.announceWarning x) (x.droppedSeqs.length + 1) :=
  (retentionTimes_raiseRetentionTimes .recordNotRetained _ s).succ .powerWarning

theorem State.announceWarning_causes (p : Port) :
    ((s.announceWarning x).ports.get p).causes.powerWarning = true ∧
    (((s.announceWarning x).ports.get p).causes.recordNotRetained = true ↔
      (s.ports.get p).causes.recordNotRetained = true ∨ x.droppedSeqs.length ≠ 0) := by
  rw [State.announceWarning, State.raiseRetention_get, PortState.occurRetention_causes]
  refine ⟨rfl, ?_⟩
  show ((s.raiseRetentionTimes .recordNotRetained x.droppedSeqs.length).ports.get p).causes.recordNotRetained = true ↔ _
  by_cases none : x.droppedSeqs.length = 0
  · rw [none]
    exact ⟨.inl, fun h => h.resolve_right (absurd rfl)⟩
  · rw [State.raiseRetentionTimes_causes .recordNotRetained none]
    exact ⟨fun _ => .inr none, fun _ => rfl⟩

end

section
variable {s : State}

theorem State.raiseRetentionTimes_setStore (c : RetentionCause) (n : Nat) (x : Store) (s : State) :
    (s.raiseRetentionTimes c n).setStore x = (s.setStore x).raiseRetentionTimes c n := by
  induction n generalizing s with
  | zero => rfl
  | succ n ih => exact ih (s.raiseRetention c)

theorem keptCheckpoints_eq_nil {l : List Job} : l.filter (· == .checkpoint) = [] ↔ Job.checkpoint ∉ l := by
  simp only [List.filter_eq_nil_iff, beq_iff_eq]
  exact ⟨fun none mem => none _ mem rfl, fun none j mem is => none (is ▸ mem)⟩

theorem parameters_mem_dropped {l : List Job} : Job.parameters ∈ l.filter (· != .checkpoint) ↔ Job.parameters ∈ l := by
  simp [List.mem_filter]

/-- Behind a job in progress a CHECKPOINT joins the queue whatever was raised before. -/
theorem State.raiseRetentionTimes_joinQueue (c : RetentionCause) (n : Nat) (writing : s.store.status = .writing) :
    (s.raiseRetentionTimes c n).joinQueue .checkpoint =
      (s.setStore { s.store with queue := s.store.queue ++ [.checkpoint] }).raiseRetentionTimes c n := by
  rw [State.joinQueue_of_not_ready (by simp [writing]), State.raiseRetentionTimes_setStore, State.raiseRetentionTimes_store]

theorem State.actOnPowerFail_of_busy (writing : s.store.status = .writing) : s.actOnPowerFail =
    State.announceWarning s.store { s with history := s.history.lose s.store.droppedSeqs, store := s.store.warned } := by
  rw [State.actOnPowerFail, if_pos (s.store.takesJobs_iff.2 (.inr writing))]
  simp only [keptCheckpoints_eq_nil, parameters_mem_dropped]
  unfold Store.warned
  by_cases waits : Job.checkpoint ∈ s.store.waiting
  · simp only [waits, not_true, if_true, if_false]
    rfl
  · simp only [waits, not_false_eq_true, if_true, if_false]
    rw [State.raiseRetentionTimes_joinQueue]
    · simp only [keptCheckpoints_eq_nil.2 waits, List.append_nil]
      rfl
    · exact writing

/-- With no job waiting the final CHECKPOINT begins at once, and no record is lost. -/
theorem State.actOnPowerFail_of_idle (ready : s.store.status = .ready) (idle : s.store.queue = []) :
    s.actOnPowerFail = State.announceWarning s.store (s.setStore s.store.warned).beginJob ∧
    s.store.droppedSeqs = [] ∧ s.store.warned.queue = [.checkpoint] := by
  have none : s.store.waiting = [] := by rw [Store.waiting, idle]; rfl
  have dropped : s.store.droppedSeqs = [] := by rw [Store.droppedSeqs, none]; rfl
  have warned : s.store.warned = { s.store with powerFail := true, queue := [.checkpoint] } := by
    simp [Store.warned, none, idle]
  refine ⟨?_, dropped, by rw [warned]⟩
  rw [State.actOnPowerFail_of_ready ready idle, State.announceWarning, dropped, warned]
  rfl

end

/-! ### What a warning and its end do (R188, R189) -/

section
variable {s : State}

/-- PFAIL is accepted active: the line, and the store's knowledge of it. -/
def State.pfailLow (s : State) : State := { s with
  lines := { s.lines with pfail := s.lines.pfail.report true false }, store := { s.store with pfailActive := true } }

/-- PFAIL is accepted inactive, and the power-fail indication is cleared. -/
def State.pfailHigh (s : State) : State := { s with
  lines := { s.lines with pfail := s.lines.pfail.report false true }
  store := { s.store with pfailActive := false, powerFail := false } }

theorem execPowerFailWarning_active (h : s.store.pfailActive = true) : execPowerFailWarning s = .next s := if_pos h

theorem execPowerFailWarning_inactive (h : s.store.pfailActive = false) :
    execPowerFailWarning s = .next s.pfailLow.actOnPowerFail := if_neg (by simp [h])

/-- During RESTORING a warning waits for the restore's end (R188). -/
theorem State.actOnPowerFail_of_restoring (restoring : s.isRestoring = true) : s.actOnPowerFail = s := by
  have status : s.store.status = .restoring := by simpa [State.isRestoring] using restoring
  exact if_neg (by simp [Store.takesJobs, status])

theorem execPowerFailClear_inactive (h : s.store.pfailActive = false) : execPowerFailClear s = .next s :=
  if_neg (by simp [h])

theorem execPowerFailClear_running (h : s.store.pfailActive = true) (running : s.store.status ≠ .halted) :
    execPowerFailClear s = .next s.pfailHigh := by
  rw [execPowerFailClear, if_pos h]
  exact if_neg running

theorem execPowerFailClear_halted (h : s.store.pfailActive = true) (halted : s.store.status = .halted) :
    execPowerFailClear s = .next (s.pfailHigh.setStore s.pfailHigh.store.joinOwed).beginJob := by
  rw [execPowerFailClear, if_pos h]
  exact if_pos halted

/-- Into an empty queue every owed kind joins, and no mark stays. -/
theorem Store.joinOwed_of_empty {x : Store} (empty : x.queue = []) :
    x.joinOwed = { x with queue := x.owedJobs, owedParameters := false, owedCheckpoint := false } := by
  have all : x.owedJobs.take 4 = x.owedJobs := by
    refine List.take_of_length_le ?_
    unfold Store.owedJobs
    split <;> split <;> decide
  rw [Store.joinOwed_eq, empty, List.length_nil, Nat.sub_zero, all, Store.joinedBy, empty]
  cases parameters : x.owedParameters <;> cases checkpoint : x.owedCheckpoint <;>
    simp [Store.owedJobs, parameters, checkpoint]

/-! ### The periodic check (R187) -/

theorem State.anyFlowing_iff (s : State) :
    allRuns.any s.isFlowing = true ↔ ∃ r, (s.channels.get r).runState = .flowing := by
  simp only [List.any_eq_true, State.isFlowing, beq_iff_eq]
  exact ⟨fun ⟨r, _, h⟩ => ⟨r, h⟩, fun ⟨r, h⟩ => ⟨r, mem_allRuns r, h⟩⟩

/-- In READY the CHECKPOINT begins at once. -/
theorem State.requestCheckpoint_begins (ready : s.store.status = .ready) (idle : s.store.queue = [])
    (powered : s.store.powerFail = false) :
    s.requestCheckpoint = (s.setStore { s.store with queue := [.checkpoint] }).beginJob :=
  State.requestCheckpoint_of_ready ready idle powered

theorem State.beginJob_checkpoint_frame {rest : List Job} (queue : s.store.queue = .checkpoint :: rest) :
    s.beginJob = s.setStore s.beginJob.store := by
  simp only [State.beginJob, queue]
  rfl

theorem State.requestCheckpoint_jobAsked (ready : s.store.status = .ready) (idle : s.store.queue = [])
    (powered : s.store.powerFail = false) : jobAsked s s.store s.requestCheckpoint.store .checkpoint := by
  have none : Job.checkpoint ∉ s.store.queue.drop 1 := by simp [idle]
  refine ⟨fun waits => absurd waits none, fun _ _ writing => ?_, fun _ _ _ => ?_, fun _ no => ?_, nofun⟩
  · rw [ready] at writing; cases writing
  · refine ⟨_, State.beginJob_begins (s := s.setStore { s.store with queue := [.checkpoint] }) rfl, ?_⟩
    rw [State.requestCheckpoint_begins ready idle powered]
  · rcases no with full | halted
    · exact absurd ⟨powered, by simp [idle]⟩ full
    · rw [ready] at halted; cases halted

theorem State.storeLegal.requestCheckpoint_spec (legal : s.storeLegal) :
    s.requestCheckpoint = s.setStore s.requestCheckpoint.store ∧
      jobAsked s s.store s.requestCheckpoint.store .checkpoint := by
  by_cases begins : s.store.status = .ready ∧ s.store.hasRoom
  · obtain ⟨ready, powered, -⟩ := begins
    obtain ⟨-, -, rest, -⟩ := legal
    obtain ⟨idle, -⟩ := rest (by simp [ready])
    refine ⟨?_, State.requestCheckpoint_jobAsked ready idle powered⟩
    rw [State.requestCheckpoint_begins ready idle powered]
    exact State.beginJob_checkpoint_frame rfl
  · have busy : s.store.status = .ready → ¬ s.store.hasRoom := fun ready room => begins ⟨ready, room⟩
    rw [State.requestCheckpoint_unbegun busy]
    exact ⟨rfl, Store.askCheckpoint_jobAsked s busy⟩

end

/-! ### The statement -/

section
variable {s : State} (legal : s.storeLegal)
include legal

/-- With the line inactive the store is READY with no job or WRITING, but during RESTORING (R186, R188). -/
theorem State.storeLegal.warnable (inactive : s.store.pfailActive = false) (running : s.isRestoring = false) :
    s.store.status = .writing ∨ s.store.status = .ready ∧ s.store.queue = [] := by
  obtain ⟨-, -, rest, halts, -, active⟩ := legal
  cases status : s.store.status with
  | ready => exact .inr ⟨rfl, (rest (by simp [status])).1⟩
  | writing => exact .inl rfl
  | restoring => exact absurd status (s.isRestoring_eq_false.1 running)
  | halted =>
    rw [active (halts status)] at inactive
    cases inactive

end

/-- What a warning says of the ring and in the ports, whatever the final CHECKPOINT does (R177, R188). -/
theorem State.announceWarning_tells {x : Store} {s v : State} (ports : v.ports = s.ports)
    (history : v.history = s.history.lose x.droppedSeqs) :
    let records := x.waiting.filter fun j => decide (j ≠ .checkpoint ∧ j ≠ .parameters)
    let t := v.announceWarning x
    ringLoses s t (fun seq => ∃ q, Job.record q ∈ x.waiting ∧ q.seq = seq) ∧
    retentionTimes s t (records.length + 1) ∧
    ∀ p, (t.ports.get p).causes.powerWarning = true ∧ ((t.ports.get p).causes.recordNotRetained = true ↔
      (s.ports.get p).causes.recordNotRetained = true ∨ records ≠ []) := by
  intro records t
  have ring : t.history.ring = s.history.ring.map (RingEntry.lose x.droppedSeqs) :=
    congrArg History.ring ((v.announceWarning_history x).trans history)
  have times := v.announceWarning_retentionTimes x
  have causes := v.announceWarning_causes x
  rw [x.length_droppedSeqs] at times causes
  refine ⟨ringLoses_of_lose ring fun _ => x.mem_droppedSeqs, fun p => ?_, fun p => ?_⟩
  · rw [← ports]; exact times p
  · rw [← ports, ne_eq, ← List.length_eq_zero_iff]; exact causes p

/-- A warning that is acted on: the final CHECKPOINT waits behind the job in progress, or begins at once. -/
theorem State.storeLegal.warning {s : State} (legal : s.storeLegal) (inactive : s.store.pfailActive = false)
    (running : s.isRestoring = false) :
    let x := s.store
    let waiting := x.queue.drop 1
    let records := waiting.filter fun j => decide (j ≠ .checkpoint ∧ j ≠ .parameters)
    let t := s.pfailLow.actOnPowerFail
    let warned := { s with
      lines := { s.lines with pfail := t.lines.pfail }, store := { x.warned with pfailActive := true } }
    ringLoses s t (fun seq => ∃ q, Job.record q ∈ waiting ∧ q.seq = seq) ∧ retentionTimes s t (records.length + 1) ∧
    (∀ p, (t.ports.get p).causes.powerWarning = true ∧ ((t.ports.get p).causes.recordNotRetained = true ↔
      (s.ports.get p).causes.recordNotRetained = true ∨ records ≠ [])) ∧
    (x.status = .writing → t = { warned with
      ports := t.ports, history := { s.history with ring := t.history.ring } }) ∧
    (x.status = .ready → ∃ u, jobBegins warned u .checkpoint ∧ t = { u with ports := t.ports }) := by
  intro x waiting records t warned
  have is : warned = s.pfailLow.setStore s.pfailLow.store.warned := by
    simp only [warned, t, State.actOnPowerFail_lines]
    rfl
  rw [is]
  rcases legal.warnable inactive running with writing | ⟨ready, idle⟩
  · let v := { s.pfailLow with
      history := s.history.lose s.pfailLow.store.droppedSeqs, store := s.pfailLow.store.warned }
    have eq : t = v.announceWarning s.pfailLow.store := State.actOnPowerFail_of_busy (s := s.pfailLow) writing
    obtain ⟨ring, times, causes⟩ := State.announceWarning_tells (x := s.pfailLow.store) (s := s) (v := v) rfl rfl
    rw [eq]
    refine ⟨ring, times, causes, fun _ => ?_, fun ready => ?_⟩
    · rw [v.announceWarning_history]
      exact v.announceWarning_frame _
    · rw [show x.status = .writing from writing] at ready; cases ready
  · obtain ⟨eq, dropped, queue⟩ := State.actOnPowerFail_of_idle (s := s.pfailLow) ready idle
    have begins := State.beginJob_begins (s := s.pfailLow.setStore s.pfailLow.store.warned) queue
    have frame := State.beginJob_checkpoint_frame (s := s.pfailLow.setStore s.pfailLow.store.warned) queue
    generalize (s.pfailLow.setStore s.pfailLow.store.warned).beginJob = v at *
    have history : v.history = s.history.lose s.pfailLow.store.droppedSeqs := by
      rw [dropped, History.lose_nil, frame]
      rfl
    obtain ⟨ring, times, causes⟩ := State.announceWarning_tells (s := s) (by rw [frame]; rfl) history
    rw [show t = _ from eq]
    refine ⟨ring, times, causes, fun writing => ?_, fun _ => ⟨v, begins, v.announceWarning_frame _⟩⟩
    rw [show x.status = .ready from ready] at writing; cases writing

/-- Settles O59: each command's effect is an equation of the next state, and the beginning of the oldest job is said once for
all of them. -/
theorem storeCommandsWorkTheQueue : Obligations.StoreCommandsWorkTheQueue := by
  intro s legal x waiting owed follows records dropped flowing
  have periodic : (flowing ∧ 60 ≤ (s.uptime - x.periodicRef).toNat → exec .periodicCheckpoint s =
      .next s.requestCheckpoint) ∧ (¬ (flowing ∧ 60 ≤ (s.uptime - x.periodicRef).toNat) →
        exec .periodicCheckpoint s = .next s) := by
    have due := s.anyFlowing_iff
    exact ⟨fun h => if_pos (h.imp_left due.2), fun h => if_neg fun k => h (k.imp_left due.1)⟩
  refine ⟨execJobComplete_idle, fun w writing => ?_, execPowerFailWarning_active, fun inactive => ?_,
    execPowerFailClear_inactive, fun active => ?_, fun early => periodic.2 ?_, fun flows due => ?_⟩
  · refine ⟨_, execJobComplete_done writing, ?_⟩
    intro joined marked ring
    have goesOn := s.jobDone_goesOn w.payload
    obtain ⟨payload, endsAt⟩ := w
    cases payload with
    | parameters m second => cases second <;> exact goesOn
    | checkpoint m second => cases second <;> exact goesOn
    | record q => exact goesOn
  · refine ⟨_, execPowerFailWarning_inactive inactive, fun restoring => ?_, fun running => ?_⟩
    · rw [State.actOnPowerFail_of_restoring (s := s.pfailLow) restoring]
      rfl
    · exact legal.warning inactive running
  · by_cases halted : x.status = .halted
    · obtain ⟨-, -, rest, -⟩ := legal
      obtain ⟨idle, none⟩ := rest (by simp [x, halted])
      refine ⟨_, execPowerFailClear_halted active halted, ?_⟩
      intro cleared
      have is : cleared = s.pfailHigh := by
        simp only [cleared, State.beginJob_lines]
        rfl
      rw [is, Store.joinOwed_of_empty (x := s.pfailHigh.store) idle]
      exact ⟨absurd halted, fun _ => State.beginJob_goesOn rfl none⟩
    · exact ⟨_, execPowerFailClear_running active halted, fun _ => rfl, fun h => absurd h halted⟩
  · rintro ⟨flows, due⟩
    exact early.elim (absurd flows) due.not_gt
  · obtain ⟨frame, asked⟩ := legal.requestCheckpoint_spec
    exact ⟨_, periodic.1 ⟨flows, due⟩, frame, fun _ => asked⟩

end Sys2Proof.Machine
end

section
/-! PROOFS. The proving session through every command: which commands leave the prover, what a recorded pass makes of the session
(R115 to R118), and the settled statement on the session's ranges (R100, R102, R112, R115, R123). -/

namespace Sys2Proof.Machine

section
variable {s t : State}

/-! ### Commands that leave the prover -/

theorem takeRequest_prover {p : Port} {row : CatalogueRow} {args : List Byte} {body : State → State × Answer}
    (h : (body s).1.prover = s.prover) : (takeRequest p row args body s).prover = s.prover :=
  takeRequest_induction (I := fun u => u.prover = s.prover) rfl h fun _ _ _ _ k => k

theorem State.planAdd_prover (s : State) (args : List Byte) : (s.planAdd args).1.prover = s.prover := by
  unfold State.planAdd
  split
  · rfl
  · split
    · rfl
    · split <;> rfl

theorem State.planRemove_prover (s : State) (parcel : Nat) : (s.planRemove parcel).1.prover = s.prover := by
  unfold State.planRemove
  split
  · rfl
  · split <;> rfl

/-- Every command of `leavesOwners` leaves the prover. -/
theorem exec_prover {i : Instr} (hi : leavesOwners i = true) (e : exec i s = .next t) : t.prover = s.prover := by
  cases i
  case reset | restoreComplete | edgeEvent | integrityBlockEnd | windowExpiry | proposalExpiry | noDetector
    | periodicCheckpoint | detectorEvent | passTimeout | jobComplete | powerFailWarning | powerFailClear | runEnable
    | runEnableOff | setCutoff | setIntegrityLimit | batchOpen | batchClose | proveStart | proveAbort | provePost
    | propose | concur | reject | withdraw => cases hi
  case pulseEnd =>
    simp only [exec, execPulseEnd] at e
    split at e <;> cases e <;> rfl
  case gapEnd =>
    simp only [exec, execGapEnd] at e
    split at e
    · split at e <;> cases e <;> simp
    · cases e; rfl
  case rcvhiChange =>
    simp only [exec, execRcvhiChange] at e
    split at e <;> cases e <;> simp
  case transactionBegin =>
    simp only [exec, execTransactionBegin] at e
    split at e <;> cases e <;> rfl
  case sckEdge =>
    simp only [exec, execSckEdge] at e
    split at e <;> cases e <;> rfl
  case oneSecondEvent | frameError | unknownRequest => cases e; rfl
  all_goals cases e; refine takeRequest_prover ?_
  case nop | identify | readTime | readEvents | topEvent | readSampler | setThreshold | setTime | planClear => rfl
  case clearEvents => unfold State.clearEvents; split <;> rfl
  case setLevel => unfold State.setLevel; split <;> rfl
  case samplerHold => unfold State.samplerHold; split <;> rfl
  case samplerOutput => unfold State.samplerOutput; split <;> rfl
  case receiverSwap => unfold State.receiverSwap; split <;> simp [refused]
  case readRun => rw [State.readRun_fst]
  case readTotals => rw [State.readTotals_fst]
  case readCurve => rw [State.readCurve_fst]
  case readBatch => rw [State.readBatch_fst]
  case readQueue => rw [State.readQueue_fst]
  case readProving => rw [State.readProving_fst]
  case readPass => rw [State.readPass_fst]
  case readProposal => rw [State.readProposal_fst]
  case planAdd => exact s.planAdd_prover _
  case planRemove => exact s.planRemove_prover _
  case readRecord => obtain e | ⟨v, e⟩ := s.readRecord_fst_cases _ _ _ _ <;> exact (congrArg State.prover e).trans rfl
  case findParcel => obtain e | ⟨x, -, e⟩ := s.findParcel_fst_cases _ _ _ _ <;> exact (congrArg State.prover e).trans rfl
  case setCursor => obtain ⟨u, rfl | ⟨v, rfl⟩, e⟩ := s.moveCursor_fst_cases _ _ <;> exact (congrArg State.prover e).trans rfl

/-! ### The session after a recorded pass (R106, R115 to R118) -/

/-- The session after the repeatability test and the test against M (R115 steps 4 and 5). -/
def Session.tested (x : Session) (valid : Bool) : Session :=
  match if valid then x.testedPasses else none with
  | some l => { x with
      lastSpread := some (spreadOf l)
      state := if spreadOf l ≤ x.l then .resultPass else if x.taken = x.m then .resultFail else x.state }
  | none => { x with state := if x.taken = x.m then .resultFail else x.state }

/-- The session with a pass record in its list and the figures of the pass cleared (R106, R115 steps 1 and 2). -/
def Session.joined (x : Session) (y : PassRecord) : Session :=
  { x with passes := x.passes ++ [y], taken := x.taken + 1, pass := .clear }

/-- The session after its pass is recorded (R115 steps 1 to 5). -/
def Session.recorded (x : Session) (y : PassRecord) : Session := (x.joined y).tested (y.validity == .valid)

/-- An active session waits for DET1 again (R115 step 6). -/
def Session.waiting (x : Session) (now : Seconds) : Session :=
  if x.state.isActive then { x with state := .waitDet1, entryUptime := now } else x

theorem State.testSession_session (valid : Bool) (s : State) :
    (s.testSession valid).prover.session = s.prover.session.tested valid := by
  unfold State.testSession Session.tested
  dsimp only
  cases if valid then s.prover.session.testedPasses else none with
  | some l =>
    dsimp only
    split
    · rw [State.endSession_session]; rfl
    · split
      · rw [State.endSession_session]; rfl
      · rfl
  | none =>
    dsimp only
    split
    · rw [State.endSession_session]
    · rfl

theorem State.recordPass_session (y : PassRecord) (s : State) :
    (s.recordPass y).prover.session = s.prover.session.recorded y := State.testSession_session _ _

theorem State.awaitDet1_session (s : State) : s.awaitDet1.prover.session = s.prover.session.waiting s.uptime := by
  unfold State.awaitDet1 Session.waiting
  dsimp only
  split <;> rfl

/-! ### What keeps the session's ranges -/

/-- An active session is none that ended. -/
theorem Session.legal.restate {x : Session} (h : x.legal) {state : SessionState}
    (active : state.isActive = true → x.state.isActive = true) (spread : Option Nat) (now : Seconds) :
    ({ x with state := state, lastSpread := spread, entryUptime := now } : Session).legal :=
  have ⟨running, rest⟩ := h
  ⟨fun a => running (active a), rest⟩

/-- Once joined, a pass leaves the session in range but for M, which the pass may have reached (R115). -/
theorem Session.legal.joined {x : Session} (h : x.legal) (active : x.state.isActive = true) {y : PassRecord} (hy : y.legal)
    {state : SessionState} (goes_on : state.isActive = true → x.taken + 1 ≠ x.m) (spread : Option Nat) :
    ({ x.joined y with state := state, lastSpread := spread } : Session).legal := by
  obtain ⟨running, -, order, passes⟩ := h
  obtain ⟨run, p2, p10, pm, m20, l10, l5000, below, count⟩ := running active
  have length : (x.passes ++ [y]).length = x.taken + 1 := by rw [List.length_append, count]; rfl
  refine ⟨fun a => ⟨run, p2, p10, pm, m20, l10, l5000, ?_, length⟩, ?_, order, fun z hz => ?_⟩
  · exact Nat.lt_of_le_of_ne below (goes_on a)
  · exact length.trans_le (below.trans_le m20)
  · rcases List.mem_append.1 hz with hz | hz
    · exact passes z hz
    · cases List.mem_singleton.1 hz; exact hy

/-- The pass that brings the passes taken to M ends the session (R115 step 5). -/
theorem Session.legal.recorded {x : Session} (h : x.legal) (active : x.state.isActive = true) {y : PassRecord}
    (hy : y.legal) : (x.recorded y).legal := by
  have at_m : (if (x.joined y).taken = (x.joined y).m then SessionState.resultFail else (x.joined y).state).isActive = true →
      x.taken + 1 ≠ x.m := by
    intro a full
    rw [if_pos (show (x.joined y).taken = (x.joined y).m from full)] at a
    cases a
  unfold Session.recorded Session.tested
  split
  · refine h.joined active hy (fun a => ?_) _
    split at a
    · cases a
    · exact at_m a
  · exact h.joined active hy at_m (x.joined y).lastSpread

theorem Session.legal.waiting {x : Session} (h : x.legal) (now : Seconds) : (x.waiting now).legal := by
  unfold Session.waiting
  split
  · rename_i active; exact h.restate (fun _ => active) x.lastSpread now
  · exact h

/-- The record of an aborted pass is not counted, and still fits in the list (R123). -/
theorem Session.legal.abortedPass {x : Session} (h : x.legal) (active : x.state.isActive = true) :
    ({ x with state := .resultAborted, passes := x.passes ++ [x.partialRecord .aborted], pass := .clear } : Session).legal := by
  obtain ⟨running, -, order, passes⟩ := h
  obtain ⟨-, -, -, -, m20, -, -, below, count⟩ := running active
  refine ⟨nofun, ?_, order, fun z hz => ?_⟩
  · rw [List.length_append, count]
    exact below.trans_le m20
  · rcases List.mem_append.1 hz with hz | hz
    · exact passes z hz
    · cases List.mem_singleton.1 hz; exact Session.partialRecord_legal _ (by decide)

/-! ### Passes and detectors (R105 to R115) -/

theorem State.sessionLegal.of_session (h : s.sessionLegal) (e : t.prover.session = s.prover.session) : t.sessionLegal := by
  unfold State.sessionLegal
  rw [e]
  exact h

theorem State.sessionLegal.recordPass (h : s.sessionLegal) (active : s.prover.session.state.isActive = true)
    {y : PassRecord} (hy : y.legal) : (s.recordPass y).sessionLegal := by
  unfold State.sessionLegal
  rw [State.recordPass_session]
  exact Session.legal.recorded h active hy

theorem State.sessionLegal.awaitDet1 (h : s.sessionLegal) : s.awaitDet1.sessionLegal := by
  unfold State.sessionLegal
  rw [State.awaitDet1_session]
  exact Session.legal.waiting h _

theorem State.sessionLegal.setChannel (h : s.sessionLegal) (r : Run) (c : Channel) : (s.setChannel r c).sessionLegal := h

theorem State.sessionLegal.setLines (h : s.sessionLegal) (l : Lines) : (s.setLines l).sessionLegal := h

theorem State.sessionLegal.raise (h : s.sessionLegal) (c : EventClass) : (s.raise c).sessionLegal := h

theorem State.sessionLegal.computeWindow (h : s.sessionLegal) (r : Run) (f : Nat) (w : WindowCounts) :
    (s.computeWindow r f w).sessionLegal := h.of_prover (by simp)

theorem State.sessionLegal.setBaseVolume (h : s.sessionLegal) (bv : Nat) :
    (s.setProver { s.prover with baseVolume := bv }).sessionLegal := h

/-- The figures of the pass in progress are under no range. -/
theorem State.sessionLegal.setPass (h : s.sessionLegal) (p : PassInProgress) : (s.setPass p).sessionLegal := h

/-- A pass begins in an active session alone (R105). -/
theorem State.sessionLegal.beginPass (h : s.sessionLegal) (active : s.prover.session.state.isActive = true) (tick : Tick) :
    (s.beginPass tick).sessionLegal :=
  Session.legal.restate (x := s.prover.session) h (fun _ => active) s.prover.session.lastSpread
    s.prover.session.entryUptime

theorem State.sessionLegal.abortSession (h : s.sessionLegal) (a : AbortReason) : (s.abortSession a).sessionLegal := by
  unfold State.abortSession
  dsimp only
  split
  case h_1 =>
    unfold State.sessionLegal
    rw [State.endSession_session]
    exact Session.legal.restate h (state := .resultAborted) nofun s.prover.session.lastSpread s.prover.session.entryUptime
  case h_2 e =>
    unfold State.sessionLegal
    rw [State.endSession_session]
    exact Session.legal.abortedPass h (by rw [e]; rfl)
  case h_3 e =>
    unfold State.sessionLegal
    rw [State.endSession_session]
    exact Session.legal.abortedPass h (by rw [e]; rfl)
  case h_4 => exact h

theorem State.sessionLegal.pulseInPass (h : s.sessionLegal) (stamp : Tick) : (s.pulseInPass stamp).sessionLegal := by
  unfold State.pulseInPass
  dsimp only
  split
  · exact h.setPass _
  · split
    · exact h.setPass _
    · exact h

theorem State.sessionLegal.pulseInWaitStop (h : s.sessionLegal) (active : s.prover.session.state.isActive = true) (r : Run)
    (stamp : Tick) : (s.pulseInWaitStop r stamp).sessionLegal := by
  unfold State.pulseInWaitStop
  dsimp only
  split
  · split
    · exact (h.recordPass active (Session.stopRecord_legal _ _ _ _)).awaitDet1
    · exact h.setPass _
  · split
    · exact h
    · split
      · exact h.setPass _
      · exact (h.recordPass active (Session.partialRecord_legal _ (by decide))).awaitDet1

theorem State.sessionLegal.proverCycle (h : s.sessionLegal) (r : Run) (cls : CycleClass) (d : Option Direction)
    (stamp : Tick) : (s.proverCycle r cls d stamp).sessionLegal := by
  have marked := h.setPass (s.prover.session.pass.mark cls d)
  unfold State.proverCycle
  dsimp only
  split
  · split
    case h_1 =>
      split
      · exact marked.pulseInPass _
      · exact marked
    case h_2 e =>
      split
      · exact marked.pulseInWaitStop (show s.prover.session.state.isActive = true by rw [e]; rfl) _ _
      · exact marked
    case h_3 => exact h
  · exact h

/-- DET2 out of order is counted up to 16 bits (R100, R105). -/
theorem Session.legal.countOutOfOrder {x : Session} (h : x.legal) : x.countOutOfOrder.legal :=
  have ⟨running, length, _, passes⟩ := h
  ⟨running, length, satAdd_le .., passes⟩

theorem State.sessionLegal.detectorEvent (h : s.sessionLegal) (d : Detector) (tick : Tick) :
    (s.detectorEvent d tick).sessionLegal := by
  have again (active : s.prover.session.state.isActive = true) : State.sessionLegal
      (let u := s.recordPass (s.prover.session.partialRecord .detectorSequence)
       if u.prover.session.state.isActive then u.beginPass tick else u) := by
    have recorded := h.recordPass active (y := s.prover.session.partialRecord .detectorSequence)
      (Session.partialRecord_legal _ (by decide))
    dsimp only
    split
    · rename_i runs; exact recorded.beginPass runs tick
    · exact recorded
  unfold State.detectorEvent
  dsimp only
  split
  case h_1 e => exact h.beginPass (by rw [e]; rfl) tick
  case h_2 | h_4 => exact Session.legal.countOutOfOrder h
  case h_3 e =>
    have active : s.prover.session.state.isActive = true := by rw [e]; rfl
    exact Session.legal.restate (x := s.prover.session) h (fun _ => active) s.prover.session.lastSpread
      s.prover.session.entryUptime
  case h_5 e | h_6 e => exact again (by rw [e]; rfl)
  case h_7 => exact h

/-! ### The pulse front end (R17, R120) -/

theorem State.sessionLegal.setRunState (h : s.sessionLegal) (r : Run) (x : RunState) : (s.setRunState r x).sessionLegal := by
  obtain ⟨-, e⟩ | ⟨-, -, -, e⟩ | ⟨-, -, e⟩ := s.setRunState_cases r x <;> rw [e]
  · exact h
  · exact ((h.setChannel _ _).raise _).abortSession _
  · exact h

theorem State.sessionLegal.countCycle (h : s.sessionLegal) (r : Run) (cls : CycleClass) (stamp : Tick) :
    (s.countCycle r cls stamp).sessionLegal := by
  unfold State.countCycle
  dsimp only
  split
  · exact h
  · split
    · exact h.of_prover (by simp)
    · exact State.sessionLegal.proverCycle (h.of_prover (by simp)) _ _ _ _

theorem execEdgeEvent_sessionLegal {r : Run} {a b : Bool} {tick : Tick} (h : s.sessionLegal)
    (e : execEdgeEvent r a b tick s = .next t) : t.sessionLegal := by
  unfold execEdgeEvent at e
  dsimp only at e
  split at e
  · cases e; exact h
  · split at e <;> cases e
    · exact h
    · exact ((h.setLines _).setChannel _ _).countCycle _ _ _

theorem execWindowExpiry_sessionLegal {r : Run} (h : s.sessionLegal) (e : execWindowExpiry r s = .next t) :
    t.sessionLegal := by
  unfold execWindowExpiry at e
  dsimp only at e
  split at e
  · cases e; exact h.setChannel _ _
  · split at e <;> cases e
    · exact h.setChannel _ _
    · exact (((h.setChannel _ _).setChannel _ _).setRunState _ _).computeWindow _ _ _

theorem State.sessionLegal.runEnable (h : s.sessionLegal) (n on : Nat) : (s.runEnable n on).1.sessionLegal := by
  have enabled (r : Run) : (s.enableRun r).1.sessionLegal := by
    unfold State.enableRun
    dsimp only
    split
    · exact h
    · split
      · exact h
      · exact (h.setChannel _ _).setRunState _ _
  have disabled (r : Run) : (s.disableRun r).1.sessionLegal := by
    unfold State.disableRun
    dsimp only
    split
    · exact h
    · exact (((h.setChannel _ _).computeWindow _ _ _).setRunState _ _).setChannel _ _
  unfold State.runEnable
  split
  · exact h
  · split
    · exact disabled _
    · exact enabled _
    · exact h

/-! ### The session's own commands -/

theorem execDetectorEvent_sessionLegal {d : Detector} {tick : Tick} (h : s.sessionLegal)
    (e : execDetectorEvent d tick s = .next t) : t.sessionLegal := by
  have seen (l : Lines) (x : DetectorInput) : ((s.setLines l).setDetector d x).sessionLegal := by cases d <;> exact h
  unfold execDetectorEvent at e
  dsimp only at e
  split at e <;> cases e
  · exact seen _ _
  · exact (seen _ _).detectorEvent _ _

theorem execPassTimeout_sessionLegal {tD1 : Tick} (h : s.sessionLegal) (e : execPassTimeout tD1 s = .next t) :
    t.sessionLegal := by
  unfold execPassTimeout at e
  dsimp only at e
  split at e <;> cases e
  · rename_i runs
    have active : s.prover.session.state.isActive = true := by
      rcases runs.1 with state | state <;> rw [state] <;> rfl
    exact (h.recordPass active (Session.partialRecord_legal _ (by decide))).awaitDet1
  · exact h

theorem execNoDetector_sessionLegal (h : s.sessionLegal) (e : execNoDetector s = .next t) : t.sessionLegal := by
  unfold execNoDetector at e
  dsimp only at e
  split at e <;> cases e
  · exact h.abortSession _
  · exact h

/-- A session set up by PROVE_START has its clamped parameters and no pass yet (R103). -/
theorem State.newSession_legal (s : State) (r : Run) (p m l : Nat) (post : Bool) :
    (s.newSession r (clamp 2 10 p) (clamp (clamp 2 10 p) 20 m) (clamp 10 5000 l) post).legal := by
  obtain ⟨p2, p10⟩ := clamp_range p (show 2 ≤ 10 by decide)
  obtain ⟨pm, m20⟩ := clamp_range m (p10.trans (show 10 ≤ 20 by decide))
  obtain ⟨l10, l5000⟩ := clamp_range l (show 10 ≤ 5000 by decide)
  refine ⟨fun _ => ⟨rfl, p2, p10, pm, m20, l10, l5000, ?_, rfl⟩, Nat.zero_le _, Nat.zero_le _, nofun⟩
  exact Nat.lt_of_lt_of_le (Nat.zero_lt_of_lt p2) pm

theorem State.sessionLegal.proveStart (h : s.sessionLegal) (n p m l post : Nat) :
    (s.proveStart n p m l post).1.sessionLegal := by
  unfold State.proveStart
  split
  · exact h
  · split
    · exact h
    · split
      · exact h
      · split
        · exact h
        · exact s.newSession_legal _ _ _ _ _

theorem State.sessionLegal.proveAbort (h : s.sessionLegal) : s.proveAbort.1.sessionLegal := by
  unfold State.proveAbort
  split
  · exact h.abortSession _
  · exact h

/-- An offer to change control leaves the session (R126). -/
theorem State.sessionLegal.provePost (h : s.sessionLegal) (n : Nat) : (s.provePost n).1.sessionLegal := by
  unfold State.provePost
  split
  · exact h
  · rename_i r _
    split
    · exact h
    · rename_i x _
      split
      · exact h
      · have offered := h.of_session (s.offerResult_session r x)
        split
        · exact h
        · exact h
        · rename_i e; rwa [e] at offered

/-! ### Change control (R121) -/

theorem State.postProposal_prover {c : Change} {o : Originator} {d : Bool} {id slot : Nat}
    (e : s.postProposal c o d = some (t, id, slot)) : t.prover = s.prover := by
  obtain ⟨-, -, x, rfl, -⟩ := State.postProposal_some e
  rfl

theorem State.propose_prover (s : State) (p : Port) (args : List Byte) : (s.propose p args).1.prover = s.prover := by
  unfold State.propose
  split
  · rfl
  · split
    · rfl
    · rename_i e; exact State.postProposal_prover e

theorem State.reject_prover (s : State) (p : Port) (id : Nat) : (s.reject p id).1.prover = s.prover := by
  unfold State.reject
  split <;> rfl

theorem State.withdraw_prover (s : State) (p : Port) (id : Nat) : (s.withdraw p id).1.prover = s.prover := by
  unfold State.withdraw
  split
  · rfl
  · split
    · rfl
    · split <;> rfl

/-- A changed Kx or BV aborts the session that it concerns (R121). -/
theorem State.sessionLegal.applyChange (h : s.sessionLegal) (c : Change) : (s.applyChange c).1.sessionLegal := by
  cases c with
  | kFactor r kx =>
    have owned : (s.applyKFactor r kx).sessionLegal := h.of_prover (by simp)
    simp only [State.applyChange, State.ownKFactor]
    split
    · exact owned.abortSession _
    · exact owned
  | mfPoint r f m => simp only [State.applyChange, State.ownCurve]; split <;> exact h.of_prover (by simp)
  | mfPointDelete r f => simp only [State.applyChange, State.ownCurve]; split <;> exact h.of_prover (by simp)
  | proverVolume bv => exact (h.setBaseVolume bv).abortSession _
  | samplerSetup g size cap => exact h.of_prover (by simp [State.applyChange])

theorem State.sessionLegal.concur (h : s.sessionLegal) (p : Port) (id : Nat) : (s.concur p id).1.sessionLegal := by
  obtain e | ⟨slot, x, -, e | e⟩ := s.concur_cases p id <;> rw [e]
  · exact h
  · exact h
  · generalize x.setVerdict .concur p = y
    have owned := State.sessionLegal.applyChange (s := s.putProposal slot y) h y.change
    obtain ⟨c, e⟩ | ⟨c, d, n, e⟩ := State.applyProposal_cases slot y (s.putProposal slot y) <;> rw [e]
    · exact owned
    · exact owned.of_prover (by simp)

/-! ### Every step -/

theorem State.sessionLegal.request (h : s.sessionLegal) {p : Port} {row : CatalogueRow} {args : List Byte}
    {body : State → State × Answer} (hb : (body s).1.sessionLegal) : (takeRequest p row args body s).sessionLegal :=
  takeRequest_induction h hb fun _ _ _ _ k => k

/-- A tick observes the detector lines and leaves the session. -/
theorem State.sessionLegal.tickClock (h : s.sessionLegal) : s.tickClock.sessionLegal := by
  unfold State.tickClock
  split <;> exact h

theorem State.sessionLegal.exec {i : Instr} (h : s.sessionLegal) (e : exec i s = .next t) : t.sessionLegal := by
  by_cases hi : leavesOwners i = true
  · exact h.of_prover (exec_prover hi e)
  · cases i <;> try exact absurd rfl hi
    case reset => cases e; exact State.reset_sessionLegal
    case restoreComplete =>
      have announced : s.announced.sessionLegal := h.of_session (by rw [State.announced_frame]; rfl)
      simp only [Machine.exec, execRestoreComplete] at e
      split at e <;> cases e
      · refine announced.of_prover ?_
        rw [State.completeRestore_eq]; dsimp only; split <;> split <;> simp
      · exact h
    case edgeEvent => exact execEdgeEvent_sessionLegal h e
    case integrityBlockEnd =>
      simp only [Machine.exec, execIntegrityBlockEnd] at e
      split at e <;> cases e <;> exact h.of_prover (by simp)
    case windowExpiry => exact execWindowExpiry_sessionLegal h e
    case proposalExpiry => cases e; exact h.of_prover (by simp)
    case noDetector => exact execNoDetector_sessionLegal h e
    case periodicCheckpoint =>
      simp only [Machine.exec, execPeriodicCheckpoint] at e
      split at e <;> cases e <;> exact h.of_prover (by simp)
    case detectorEvent => exact execDetectorEvent_sessionLegal h e
    case passTimeout => exact execPassTimeout_sessionLegal h e
    case jobComplete =>
      simp only [Machine.exec, execJobComplete] at e
      split at e <;> cases e <;> exact h.of_prover (by simp)
    case powerFailWarning =>
      simp only [Machine.exec, execPowerFailWarning] at e
      split at e <;> cases e <;> exact h.of_prover (by simp)
    case powerFailClear =>
      simp only [Machine.exec, execPowerFailClear] at e
      split at e
      · split at e <;> cases e <;> exact h.of_prover (by simp)
      · cases e; exact h
    case runEnable | runEnableOff => cases e; exact h.request (h.runEnable _ _)
    case setCutoff => cases e; refine h.request ?_; unfold State.setCutoff; split <;> exact h
    case setIntegrityLimit => cases e; refine h.request ?_; unfold State.setIntegrityLimit; split <;> exact h
    case batchOpen =>
      cases e; refine h.request (h.of_prover ?_)
      unfold State.batchOpen
      repeat' split
      all_goals simp [refused]
    case batchClose =>
      cases e; refine h.request (h.of_prover ?_)
      unfold State.batchClose
      split <;> simp [refused]
    case proveStart => cases e; exact h.request (h.proveStart _ _ _ _ _)
    case proveAbort => cases e; exact h.request h.proveAbort
    case provePost => cases e; exact h.request (h.provePost _)
    case propose => cases e; exact h.request (h.of_prover (s.propose_prover _ _))
    case concur => cases e; exact h.request (h.concur _ _)
    case reject => cases e; exact h.request (h.of_prover (s.reject_prover _ _))
    case withdraw => cases e; exact h.request (h.of_prover (s.withdraw_prover _ _))

/-- Settles O11: a recorded pass is counted and the one that reaches M ends the session, an abort leaves the count, PROVE_START
clamps its parameters, and no other command reaches the session. -/
theorem stepKeepsSessionInRange : Obligations.StepKeepsSessionInRange := fun s _ h e =>
  step_induction (State.sessionLegal.tickClock h)
    (fun _ l => State.sessionLegal.exec (s := { s with pending := l }) h) e

end

end Sys2Proof.Machine
end

section
/-! PROOFS. What proving may change of the state, how a pass that is not VALID ends, and the settled statement on the detectors and
the time limits of a session (R104 to R106, R109, R113 to R115, R117, R122). -/

namespace Sys2Proof.Machine

section
variable {s t u : State} {r : Run}

/-! ### What proving changes (R100, R124, R125) -/

/-- Nothing changed but the session, the last results, the ports, the open batch and change control. -/
def State.ProvingAlone (s t : State) : Prop := t = { s with
  prover := { s.prover with session := t.prover.session, results := t.prover.results }
  ports := t.ports, batch := t.batch, control := t.control }

theorem State.ProvingAlone.refl (s : State) : s.ProvingAlone s := rfl

theorem State.ProvingAlone.trans (h : s.ProvingAlone t) (k : t.ProvingAlone u) : s.ProvingAlone u := by
  unfold State.ProvingAlone at *
  refine k.trans ?_
  rw [h]

theorem State.ProvingAlone.setSession (h : s.ProvingAlone t) (x : Session) : s.ProvingAlone (t.setSession x) := h.trans rfl

theorem State.ProvingAlone.raise (h : s.ProvingAlone t) (c : EventClass) : s.ProvingAlone (t.raise c) := h.trans rfl

theorem State.ProvingAlone.setResult (h : s.ProvingAlone t) (r : Run) (x : ProvingResult) :
    s.ProvingAlone (t.setResult r x) := h.trans rfl

theorem State.ProvingAlone.reportProved (h : s.ProvingAlone t) (r : Run) : s.ProvingAlone (t.reportProved r) := by
  refine h.trans ?_
  unfold State.reportProved
  split <;> rfl

theorem State.ProvingAlone.offerResult (h : s.ProvingAlone t) (r : Run) (x : ProvingResult) :
    s.ProvingAlone (t.offerResult r x).1 := by
  refine h.trans ?_
  obtain e | e | ⟨_, _, _, e⟩ := t.offerResult_cases r x <;> rw [e] <;> rfl

theorem State.ProvingAlone.endSession (h : s.ProvingAlone t) (e : SessionState) (a : AbortReason) (m f : Nat) :
    s.ProvingAlone (t.endSession e a m f) := by
  have ended (r : Run) := (h.setSession { t.prover.session with state := e }).setResult r (t.newResult e a m f)
  unfold State.endSession
  dsimp only
  split
  · exact (h.setSession _).raise _
  · rename_i r _
    have reported : s.ProvingAlone (if e = .resultPass then
        ((t.setSession { t.prover.session with state := e }).setResult r (t.newResult e a m f)).reportProved r
        else (t.setSession { t.prover.session with state := e }).setResult r (t.newResult e a m f)) := by
      split
      · exact (ended r).reportProved r
      · exact ended r
    split
    · exact (reported.offerResult _ _).raise _
    · exact reported.raise _

theorem State.ProvingAlone.testSession (h : s.ProvingAlone t) (valid : Bool) : s.ProvingAlone (t.testSession valid) := by
  unfold State.testSession
  dsimp only
  split
  · split
    · exact (h.setSession _).endSession _ _ _ _
    · split
      · exact (h.setSession _).endSession _ _ _ _
      · exact h.setSession _
  · split
    · exact h.endSession _ _ _ _
    · exact h

theorem State.ProvingAlone.recordPass (h : s.ProvingAlone t) (y : PassRecord) : s.ProvingAlone (t.recordPass y) :=
  ((h.setSession _).raise _).testSession _

theorem State.ProvingAlone.awaitDet1 (h : s.ProvingAlone t) : s.ProvingAlone t.awaitDet1 := by
  unfold State.awaitDet1
  dsimp only
  split
  · exact h.setSession _
  · exact h

theorem State.detectorEvent_provingAlone (d : Detector) (tick : Tick) (s : State) : s.ProvingAlone (s.detectorEvent d tick) := by
  have kept := State.ProvingAlone.refl s
  unfold State.detectorEvent
  dsimp only
  split
  case h_5 | h_6 =>
    split
    · exact (kept.recordPass _).setSession _
    · exact kept.recordPass _
  case h_7 => exact kept
  all_goals exact kept.setSession _

theorem State.ProvingAlone.detector (h : s.ProvingAlone t) (d : Detector) : t.prover.detector d = s.prover.detector d := by
  rw [h]
  cases d <;> rfl

/-! ### A pass that is not VALID, and the end of a session that passed nothing (R115 to R117, R123, R124) -/

/-- PROVING was raised, and beside the ports nothing changed but the session and the last results. -/
def State.Proves (s t : State) (x : Session) (results : PerRun (Option ProvingResult)) : Prop :=
  (∀ p, ((t.ports.get p).events.get .proving).flag = true) ∧
    t = { s with ports := t.ports, prover := { s.prover with session := x, results := results } }

section
variable {x : Session} {results : PerRun (Option ProvingResult)}

theorem State.Proves.prover (h : s.Proves t x results) : t.prover = { s.prover with session := x, results := results } := by
  rw [h.2]

theorem State.Proves.trans {y : Session} {results' : PerRun (Option ProvingResult)} (h : s.Proves t x results)
    (k : t.Proves u y results') : s.Proves u y results' := by
  refine ⟨k.1, k.2.trans ?_⟩
  rw [h.2]

/-- The session alone changed again. -/
theorem State.Proves.setSession (h : s.Proves t x results) (y : Session) : s.Proves (t.setSession y) y results := by
  obtain ⟨raised, e⟩ := h
  refine ⟨raised, ?_⟩
  rw [e]
  rfl

/-- A session that goes on waits for DET1, and one that ended is left as it is (R115 step 6). -/
theorem State.Proves.awaitDet1 (h : s.Proves t x results) : s.Proves t.awaitDet1 (x.waiting s.uptime) results := by
  have uptime : t.uptime = s.uptime := by rw [h.2]
  unfold State.awaitDet1 Session.waiting
  rw [h.prover, uptime]
  dsimp only
  split
  · exact h.setSession _
  · exact h

/-- A session that ends without a mean leaves its result with no factor and nothing to post (R124). -/
theorem State.endSession_proves {e : SessionState} (unproved : e ≠ .resultPass) (a : AbortReason)
    (run : s.prover.session.run = some r) : s.Proves (s.endSession e a 0 0) { s.prover.session with state := e }
      (s.prover.results.set r (some (s.newResult e a 0 0))) := by
  have ended : s.endSession e a 0 0 = State.raise .proving
      ((s.setSession { s.prover.session with state := e }).setResult r (s.newResult e a 0 0)) := by
    simp only [State.endSession, run, unproved, false_and, if_false]
  rw [ended]
  exact ⟨fun p => by rw [State.raise_get, PortState.occur_get_self], rfl⟩

end

/-- Both states of a pass are active (R100). -/
theorem SessionState.isActive_of_pass {x : SessionState} (h : x = .inPass ∨ x = .waitStop) : x.isActive = true := by
  rcases h with rfl | rfl <;> rfl

theorem Session.waiting_of_active {x : Session} (active : x.state.isActive = true) (now : Seconds) :
    x.waiting now = { x with state := .waitDet1, entryUptime := now } := if_pos active

theorem Session.partialRecord_invalid (x : Session) (v : Validity) (h : v ≠ .valid) :
    (x.partialRecord v).validity ≠ .valid := h

/-- A record joins the list and PROVING is raised (R115 steps 1 to 3). -/
theorem State.proves_joined (s : State) (y : PassRecord) :
    s.Proves ((s.setSession (s.prover.session.joined y)).raise .proving) (s.prover.session.joined y) s.prover.results :=
  ⟨fun p => by rw [State.raise_get, PortState.occur_get_self], rfl⟩

theorem State.recordPass_of_invalid {y : PassRecord} (invalid : y.validity ≠ .valid) :
    s.recordPass y =
      let u := (s.setSession (s.prover.session.joined y)).raise .proving
      if s.prover.session.taken + 1 = s.prover.session.m then u.endSession .resultFail .none 0 0 else u := by
  have no : (y.validity == .valid) = false := beq_eq_false_iff_ne.2 invalid
  unfold State.recordPass
  rw [no]
  rfl

/-- With passes left to take, the session goes on (R115, R117). -/
theorem State.recordPass_goes_on {y : PassRecord} (invalid : y.validity ≠ .valid)
    (more : s.prover.session.taken + 1 < s.prover.session.m) :
    s.Proves (s.recordPass y) (s.prover.session.joined y) s.prover.results := by
  rw [State.recordPass_of_invalid invalid]
  dsimp only
  rw [if_neg more.ne]
  exact s.proves_joined y

/-- The result of a session whose last pass leaves it RESULT_FAIL (R117, R124). -/
def State.failedResult (s : State) : ProvingResult :=
  { s.newResult .resultFail .none 0 0 with taken := s.prover.session.taken + 1 }

/-- The pass that brings the passes taken to M ends the session RESULT_FAIL (R115 step 5, R117). -/
theorem State.recordPass_fails {y : PassRecord} (invalid : y.validity ≠ .valid) (run : s.prover.session.run = some r)
    (last : s.prover.session.taken + 1 = s.prover.session.m) :
    s.Proves (s.recordPass y) { s.prover.session.joined y with state := .resultFail }
      (s.prover.results.set r (some s.failedResult)) := by
  rw [State.recordPass_of_invalid invalid]
  dsimp only
  rw [if_pos last]
  exact (s.proves_joined y).trans (State.endSession_proves (by decide) .none run)

/-! ### Detector events (R104, R105) -/

/-- The state with a detector's line accepted high and its input set (R104). -/
def State.detectorSeen (s : State) (d : Detector) (x : DetectorInput) : State :=
  (s.setLines (s.lines.detectorHigh (s.prover.detector d).level d)).setDetector d x

theorem State.detectorSeen_detector (s : State) (d : Detector) (x : DetectorInput) :
    (s.detectorSeen d x).prover.detector d = x ∧
      ∀ e, e ≠ d → (s.detectorSeen d x).prover.detector e = s.prover.detector e := by
  refine ⟨by cases d <;> rfl, fun e other => ?_⟩
  cases d <;> cases e
  · exact absurd rfl other
  · rfl
  · rfl
  · exact absurd rfl other

@[simp] theorem State.detectorSeen_session (s : State) (d : Detector) (x : DetectorInput) :
    (s.detectorSeen d x).prover.session = s.prover.session := by cases d <;> rfl

/-- Beside the detector lines, their inputs and the session nothing changed. -/
theorem State.detectorSeen_frame (s : State) (d : Detector) (x : DetectorInput) (y : Session) :
    (s.detectorSeen d x).setSession y = { s with
      lines := { s.lines with det1 := (s.detectorSeen d x).lines.det1, det2 := (s.detectorSeen d x).lines.det2 }
      prover := { s.prover with
        session := y, det1 := (s.detectorSeen d x).prover.det1, det2 := (s.detectorSeen d x).prover.det2 } } := by
  cases d <;> rfl

/-- What proving does after a detector event is done to the state before it, but for the lines and inputs. -/
theorem State.Proves.of_detectorSeen {d : Detector} {x : DetectorInput} {y : Session}
    {results : PerRun (Option ProvingResult)} (h : (s.detectorSeen d x).Proves t y results) :
    t = { s with
      lines := { s.lines with det1 := t.lines.det1, det2 := t.lines.det2 }
      ports := t.ports
      prover := { s.prover with session := y, results := results, det1 := t.prover.det1, det2 := t.prover.det2 } } := by
  obtain ⟨-, e⟩ := h
  rw [e]
  cases d <;> rfl

/-- An active edge within 10 ms of the reference is a bounce (R104). -/
theorem DetectorInput.isBounce_iff {x : DetectorInput} {tick : Tick} :
    x.isBounce tick = true ↔ ∃ ref, x.reference = some ref ∧ (tick - ref).toNat < 100000 := by
  rw [DetectorInput.isBounce, Option.any_eq_true]
  exact exists_congr fun ref => and_congr_right fun _ => decide_eq_true_iff

theorem DetectorInput.not_isBounce {x : DetectorInput} {tick : Tick}
    (late : ∀ ref, x.reference = some ref → 100000 ≤ (tick - ref).toNat) : ¬ x.isBounce tick = true := fun bounce =>
  have ⟨ref, held, early⟩ := DetectorInput.isBounce_iff.1 bounce
  absurd (late ref held) (Nat.not_le.2 early)

theorem execDetectorEvent_bounce {d : Detector} {tick : Tick} (bounce : (s.prover.detector d).isBounce tick = true) :
    execDetectorEvent d tick s = .next (s.detectorSeen d { s.prover.detector d with level := true }) := if_pos bounce

theorem execDetectorEvent_edge {d : Detector} {tick : Tick} (edge : ¬ (s.prover.detector d).isBounce tick = true) :
    execDetectorEvent d tick s = .next ((s.detectorSeen d ⟨true, some tick⟩).detectorEvent d tick) := if_neg edge

section
variable {d : Detector} {tick : Tick}

/-- The rows of R105's table that begin, mark or leave a pass. -/
theorem State.detectorEvent_begins (h : s.prover.session.state = .waitDet1) :
    s.detectorEvent .det1 tick = s.beginPass tick := by
  simp only [State.detectorEvent, h]

theorem State.detectorEvent_marks (h : s.prover.session.state = .inPass) : s.detectorEvent .det2 tick =
    s.setSession { s.prover.session with state := .waitStop, pass := { s.prover.session.pass with tD2 := tick } } := by
  simp only [State.detectorEvent, h]

theorem State.detectorEvent_outOfOrder (h : s.prover.session.state = .waitDet1 ∨ s.prover.session.state = .waitStop) :
    s.detectorEvent .det2 tick = s.setSession s.prover.session.countOutOfOrder := by
  rcases h with h | h <;> simp only [State.detectorEvent, h]

theorem State.detectorEvent_inactive (h : s.prover.session.state.isActive = false) : s.detectorEvent d tick = s := by
  cases e : s.prover.session.state <;> rw [e] at h
  case waitDet1 | inPass | waitStop => cases h
  all_goals simp only [State.detectorEvent, e]

/-- DET1 in a pass ends it DETECTOR_SEQUENCE and begins the next, unless the session ended with it (R105, R114). -/
theorem State.detectorEvent_again (h : s.prover.session.state = .inPass ∨ s.prover.session.state = .waitStop) :
    s.detectorEvent .det1 tick =
      let u := s.recordPass (s.prover.session.partialRecord .detectorSequence)
      if u.prover.session.state.isActive then u.beginPass tick else u := by
  rcases h with h | h <;> simp only [State.detectorEvent, h]

section
variable (pass : s.prover.session.state = .inPass ∨ s.prover.session.state = .waitStop)
include pass

theorem State.detectorEvent_restarts (more : s.prover.session.taken + 1 < s.prover.session.m) :
    s.Proves (s.detectorEvent .det1 tick)
      { s.prover.session.joined (s.prover.session.partialRecord .detectorSequence) with
        state := .inPass, pass := { PassInProgress.clear with tD1 := tick } } s.prover.results := by
  have recorded := State.recordPass_goes_on (s.prover.session.partialRecord_invalid .detectorSequence nofun) more
  rw [State.detectorEvent_again pass]
  dsimp only
  rw [if_pos (by rw [recorded.prover]; exact SessionState.isActive_of_pass pass), State.beginPass, recorded.prover]
  exact recorded.setSession _

theorem State.detectorEvent_fails (run : s.prover.session.run = some r)
    (last : s.prover.session.taken + 1 = s.prover.session.m) :
    s.Proves (s.detectorEvent .det1 tick)
      { s.prover.session.joined (s.prover.session.partialRecord .detectorSequence) with state := .resultFail }
      (s.prover.results.set r (some s.failedResult)) := by
  have recorded := State.recordPass_fails (s.prover.session.partialRecord_invalid .detectorSequence nofun) run last
  rw [State.detectorEvent_again pass]
  dsimp only
  rw [if_neg (by rw [recorded.prover]; exact Bool.false_ne_true)]
  exact recorded

end
end

/-- A session with no run is not active (R100). -/
theorem Session.legal.inactive_of_no_run {x : Session} (h : x.legal) (run : x.run = none) : x.state.isActive = false := by
  obtain ⟨running, -⟩ := h
  by_contra active
  obtain ⟨held, -⟩ := running (Bool.eq_true_of_not_eq_false active)
  rw [run] at held
  cases held

/-! ### Time limits (R113, R122) -/

theorem execPassTimeout_runs (h : s.prover.session.state = .inPass ∨ s.prover.session.state = .waitStop) :
    execPassTimeout s.prover.session.pass.tD1 s =
      .next (s.recordPass (s.prover.session.partialRecord .timeout)).awaitDet1 := if_pos ⟨h, rfl⟩

theorem execNoDetector_ends (waits : s.prover.session.state = .waitDet1)
    (long : 300 ≤ (s.uptime - s.prover.session.entryUptime).toNat) :
    execNoDetector s = .next (s.endSession .resultAborted .noDetector 0 0) := by
  have aborts : s.abortSession .noDetector = s.endSession .resultAborted .noDetector 0 0 := by
    simp only [State.abortSession, waits]
  rw [← aborts]
  exact if_pos ⟨waits, long⟩

theorem execNoDetector_waits (h : s.prover.session.state ≠ .waitDet1 ∨
    (s.uptime - s.prover.session.entryUptime).toNat < 300) : execNoDetector s = .next s := by
  refine if_neg fun ⟨waits, long⟩ => ?_
  rcases h with h | h
  · exact h waits
  · exact absurd long (Nat.not_le.2 h)

/-- Settles O51: an edge that is no bounce takes the row of R105's table for its session state, and a pass that it or a time limit
ends is recorded as one that is not VALID. -/
theorem detectorsAndTimeLimitsDriveTheSession : Obligations.DetectorsAndTimeLimitsDriveTheSession := by
  refine ⟨fun r s legal run => ?_, fun s legal run => ?_⟩
  · intro x clear ended result becomes records
    have recorded {t : State} {y : Session} {res : PerRun (Option ProvingResult)} (h : s.Proves t y res) :
        records t y res := by
      refine ⟨h.1, ?_⟩
      rw [h.2]
    refine ⟨fun d tick ref held early => ?_, fun d tick late => ?_, fun tD1 other => if_neg other, fun runs => ?_,
      fun waits long => ?_, execNoDetector_waits⟩
    · obtain ⟨own, others⟩ := s.detectorSeen_detector d { s.prover.detector d with level := true }
      refine ⟨_, execDetectorEvent_bounce (DetectorInput.isBounce_iff.2 ⟨ref, held, early⟩), ?_, ?_, others⟩
      · cases d <;> rfl
      · rw [own]; exact held
    · obtain ⟨own, others⟩ := s.detectorSeen_detector d ⟨true, some tick⟩
      have frame := s.detectorSeen_frame d ⟨true, some tick⟩
      have session := s.detectorSeen_session d ⟨true, some tick⟩
      have alone := (s.detectorSeen d ⟨true, some tick⟩).detectorEvent_provingAlone d tick
      refine ⟨_, execDetectorEvent_edge (DetectorInput.not_isBounce late), (alone.detector d).trans own,
        fun e other => (alone.detector e).trans (others e other), fun inactive => ?_, ?_, ?_, ?_, ?_, ?_⟩
      · rw [State.detectorEvent_inactive (by rw [session]; exact inactive)]
        cases d <;> rfl
      · rintro waits rfl
        rw [State.detectorEvent_begins (by rw [session]; exact waits), State.beginPass, session]
        exact frame _
      · rintro passes rfl
        rw [State.detectorEvent_marks (by rw [session]; exact passes), session]
        exact frame _
      · rintro waits rfl
        rw [State.detectorEvent_outOfOrder (by rw [session]; exact waits), session]
        exact frame _
      · rintro passes rfl more
        have restarts := State.detectorEvent_restarts (s := s.detectorSeen .det1 ⟨true, some tick⟩) (tick := tick) passes more
        exact ⟨restarts.1, restarts.of_detectorSeen⟩
      · rintro passes rfl last
        have fails := State.detectorEvent_fails (s := s.detectorSeen .det1 ⟨true, some tick⟩) (tick := tick) passes run last
        exact ⟨fails.1, fails.of_detectorSeen⟩
    · refine ⟨_, execPassTimeout_runs runs, fun more => recorded ?_, fun last => recorded ?_⟩
      · have goes_on := (State.recordPass_goes_on (s.prover.session.partialRecord_invalid .timeout nofun) more).awaitDet1
        rwa [Session.waiting_of_active (x := s.prover.session.joined _) (SessionState.isActive_of_pass runs)] at goes_on
      · exact (State.recordPass_fails (s.prover.session.partialRecord_invalid .timeout nofun) run last).awaitDet1
    · exact ⟨_, execNoDetector_ends waits long, recorded (State.endSession_proves (by decide) _ run)⟩
  · have inactive := Session.legal.inactive_of_no_run legal run
    have no_pass : ¬ (s.prover.session.state = .inPass ∨ s.prover.session.state = .waitStop) := fun h =>
      Bool.false_ne_true (inactive.symm.trans (SessionState.isActive_of_pass h))
    refine ⟨execNoDetector_waits (.inl fun h => ?_), fun tD1 => if_neg fun h => no_pass h.1, fun d tick => ?_⟩
    · rw [h] at inactive; cases inactive
    · by_cases bounce : (s.prover.detector d).isBounce tick = true
      · obtain ⟨own, others⟩ := s.detectorSeen_detector d { s.prover.detector d with level := true }
        refine ⟨_, execDetectorEvent_bounce bounce, others, fun ref held _ => ?_,
          fun late => absurd bounce (DetectorInput.not_isBounce late), ?_⟩
        · rw [own]; exact held
        · cases d <;> rfl
      · obtain ⟨own, others⟩ := s.detectorSeen_detector d ⟨true, some tick⟩
        have none_moves : (s.detectorSeen d ⟨true, some tick⟩).detectorEvent d tick = s.detectorSeen d ⟨true, some tick⟩ :=
          State.detectorEvent_inactive (by rw [State.detectorSeen_session]; exact inactive)
        refine ⟨_, execDetectorEvent_edge bounce, ?_⟩
        rw [none_moves]
        exact ⟨others, fun ref held early => absurd (DetectorInput.isBounce_iff.2 ⟨ref, held, early⟩) bounce, fun _ => own,
          by cases d <;> rfl⟩

end

end Sys2Proof.Machine
end

section
/-! PROOFS. The repeatability test and the end of a session that passed it (R115 to R118, R124, R125). -/

namespace Sys2Proof.Machine

/-! ### The spread (R116) -/

theorem foldl_max_le_iff {α : Type} {f : α → Nat} {l : List α} {a n : Nat} :
    l.foldl (fun m z => max m (f z)) a ≤ n ↔ a ≤ n ∧ ∀ z ∈ l, f z ≤ n := by
  induction l generalizing a with
  | nil => simp
  | cons y l ih => rw [List.foldl_cons, ih, Nat.max_le, List.forall_mem_cons, and_assoc]

theorem le_foldl_min_iff {α : Type} {f : α → Nat} {l : List α} {a n : Nat} :
    n ≤ l.foldl (fun m z => min m (f z)) a ↔ n ≤ a ∧ ∀ z ∈ l, n ≤ f z := by
  induction l generalizing a with
  | nil => simp
  | cons y l ih => rw [List.foldl_cons, ih, Nat.le_min, List.forall_mem_cons, and_assoc]

/-- The spread lies between the lowest and the highest factor (R116). -/
theorem spreadOf_eq {l : List PassRecord} {low high : Nat} (within : ∀ z ∈ l, low ≤ z.mf ∧ z.mf ≤ high)
    (lowest : ∃ z ∈ l, z.mf = low) (highest : ∃ z ∈ l, z.mf = high) : spreadOf l = (high - low) * 1000000 / low := by
  obtain ⟨x, hx, rfl⟩ := lowest
  obtain ⟨z, hz, rfl⟩ := highest
  cases l with
  | nil => cases hx
  | cons y rest =>
    have above (n : Nat) : rest.foldl (fun m z => max m z.mf) y.mf ≤ n ↔ ∀ w ∈ y :: rest, w.mf ≤ n := by
      rw [foldl_max_le_iff, List.forall_mem_cons]
    have below (n : Nat) : n ≤ rest.foldl (fun m z => min m z.mf) y.mf ↔ ∀ w ∈ y :: rest, n ≤ w.mf := by
      rw [le_foldl_min_iff, List.forall_mem_cons]
    have largest : rest.foldl (fun m z => max m z.mf) y.mf = z.mf :=
      Nat.le_antisymm ((above _).2 fun w hw => (within w hw).2) ((above _).1 (Nat.le_refl _) z hz)
    have smallest : rest.foldl (fun m z => min m z.mf) y.mf = x.mf :=
      Nat.le_antisymm ((below _).1 (Nat.le_refl _) x hx) ((below _).2 fun w hw => (within w hw).1)
    simp only [spreadOf, largest, smallest]

/-! ### The test of the recent passes (R115, R116) -/

/-- The P most recent pass records once a record has joined the list. -/
def Session.recent (x : Session) (y : PassRecord) : List PassRecord :=
  (x.passes ++ [y]).drop (x.passes.length + 1 - x.p)

/-- The recent passes are tested: so many have been taken, and all are VALID (R116). -/
def Session.tests (x : Session) (y : PassRecord) : Prop :=
  x.p ≤ x.passes.length + 1 ∧ ∀ z ∈ x.recent y, z.validity = .valid

section
variable {x : Session} {y : PassRecord}

theorem Session.joined_testedPasses (x : Session) (y : PassRecord) :
    (x.tests y → (x.joined y).testedPasses = some (x.recent y)) ∧ (¬ x.tests y → (x.joined y).testedPasses = none) := by
  have test : (x.joined y).p ≤ (x.joined y).passes.length ∧ ((x.joined y).passes.drop
      ((x.joined y).passes.length - (x.joined y).p)).all (fun z => z.validity == .valid) = true ↔ x.tests y := by
    simp only [Session.joined, Session.tests, Session.recent, List.length_append, List.length_singleton, List.all_eq_true,
      beq_iff_eq]
  constructor
  · intro h
    rw [Session.testedPasses, if_pos (test.2 h)]
    simp only [Session.joined, Session.recent, List.length_append, List.length_singleton]
  · intro h
    rw [Session.testedPasses, if_neg (test.not.2 h)]

/-- The record that has just joined is among the recent ones. -/
theorem Session.mem_recent (tests : 1 ≤ x.p) : y ∈ x.recent y := by
  rw [Session.recent, List.drop_append_of_le_length (by omega)]
  exact List.mem_append_right _ (List.mem_singleton_self y)

theorem Session.recent_length (h : x.tests y) : (x.recent y).length = x.p := by
  have enough := h.1
  simp only [Session.recent, List.length_drop, List.length_append, List.length_singleton]
  omega

/-- The passes whose test follows a record: none where the record itself is not VALID (R115 step 4). -/
theorem Session.testedPasses_of_tests (pos : 1 ≤ x.p) (h : x.tests y) :
    (if (y.validity == .valid) = true then (x.joined y).testedPasses else none) = some (x.recent y) := by
  rw [if_pos (beq_iff_eq.2 (h.2 y (Session.mem_recent pos)))]
  exact (x.joined_testedPasses y).1 h

theorem Session.testedPasses_of_not_tests (h : ¬ x.tests y) :
    (if (y.validity == .valid) = true then (x.joined y).testedPasses else none) = none := by
  split
  · exact (x.joined_testedPasses y).2 h
  · rfl

/-- Untested, the session goes on unless M passes are taken (R115 step 5). -/
theorem Session.recorded_of_not_tests (h : ¬ x.tests y) :
    x.recorded y = { x.joined y with state := if x.taken + 1 = x.m then .resultFail else x.state } := by
  rw [Session.recorded, Session.tested, Session.testedPasses_of_not_tests h]
  rfl

theorem Session.recorded_of_tests (pos : 1 ≤ x.p) (h : x.tests y) :
    x.recorded y = { x.joined y with
      lastSpread := some (spreadOf (x.recent y))
      state := if spreadOf (x.recent y) ≤ x.l then .resultPass
        else if x.taken + 1 = x.m then .resultFail else x.state } := by
  rw [Session.recorded, Session.tested, Session.testedPasses_of_tests pos h]
  rfl

/-- What a recorded pass makes of the session beside its end (R106, R115). -/
theorem Session.recorded_joined (x : Session) (y : PassRecord) : (x.recorded y).passes = x.passes ++ [y] ∧
    (x.recorded y).taken = x.taken + 1 ∧ (x.recorded y).pass = .clear := by
  unfold Session.recorded Session.tested
  split <;> exact ⟨rfl, rfl, rfl⟩

theorem Session.waiting_joined (x : Session) (now : Seconds) : (x.waiting now).passes = x.passes ∧
    (x.waiting now).taken = x.taken ∧ (x.waiting now).pass = x.pass ∧ (x.waiting now).lastSpread = x.lastSpread := by
  unfold Session.waiting
  split <;> exact ⟨rfl, rfl, rfl, rfl⟩

/-- A session that goes on waits for DET1 (R115 step 6). -/
theorem Session.waiting_state (x : Session) (now : Seconds) :
    (x.waiting now).state = if x.state.isActive then .waitDet1 else x.state := by
  unfold Session.waiting
  split <;> rfl

end

section
variable {s t : State} {r : Run}

/-! ### PROVING (R115, R124) -/

/-- The end of a session raises PROVING (R124). -/
theorem State.endSession_flag (e : SessionState) (a : AbortReason) (m f : Nat) (s : State) (p : Port) :
    (((s.endSession e a m f).ports.get p).events.get .proving).flag = true := by
  unfold State.endSession
  dsimp only
  split <;> rw [State.raise_get, PortState.occur_get_self]

/-- So does every recorded pass (R115 step 3). -/
theorem State.recordPass_flag (y : PassRecord) (s : State) (p : Port) :
    (((s.recordPass y).ports.get p).events.get .proving).flag = true := by
  have raised : ((((s.setSession (s.prover.session.joined y)).raise .proving).ports.get p).events.get .proving).flag =
      true := (s.proves_joined y).1 p
  unfold State.recordPass State.testSession
  dsimp only
  split
  · split
    · exact State.endSession_flag ..
    · split
      · exact State.endSession_flag ..
      · exact raised
  · split
    · exact State.endSession_flag ..
    · exact raised

/-! ### RESULT_PASS (R118, R124, R125) -/

/-- The state of a session that has passed, before its result may be offered (R124 steps 1 to 3). -/
def State.passedSession (s : State) (r : Run) (m f : Nat) : State :=
  ((s.setSession { s.prover.session with state := .resultPass }).setResult r
    (s.newResult .resultPass .none m f)).reportProved r

theorem State.endSession_passed (m f : Nat) (run : s.prover.session.run = some r) :
    s.endSession .resultPass .none m f = State.raise .proving (if s.prover.session.post = true then
      ((s.passedSession r m f).offerResult r (s.newResult .resultPass .none m f)).1 else s.passedSession r m f) := by
  unfold State.endSession
  dsimp only
  split
  · rename_i no; cases run.symm.trans no
  · rename_i q held
    cases run.symm.trans held
    simp only [if_true, true_and]
    rfl

theorem State.reportProved_frame (s : State) (r : Run) : s.reportProved r = { s with batch := (s.reportProved r).batch } := by
  unfold State.reportProved
  split <;> rfl

theorem State.passedSession_frame (s : State) (r : Run) (m f : Nat) : s.passedSession r m f = { s with
    batch := (s.passedSession r m f).batch
    prover := { s.prover with
      session := { s.prover.session with state := .resultPass }
      results := s.prover.results.set r (some (s.newResult .resultPass .none m f)) } } :=
  State.reportProved_frame _ r

/-- What a result `z` holds of the posting of `y`, once the event that may offer it has left `t` (R125). -/
structure ProvingResult.Offered (z : ProvingResult) (s t : State) (r : Run) (post : Bool) (y : ProvingResult) : Prop where
  result : z = { y with posting := z.posting, proposalId := z.proposalId, largeDeviation := z.largeDeviation }
  inadmissible : ¬ (1 ≤ y.freq ∧ y.freq ≤ 50000) → z.posting = .notAdmissible
  kept : 1 ≤ y.freq ∧ y.freq ≤ 50000 → post = false ∨ s.tableFull → z.posting = .notPosted
  posted : 1 ≤ y.freq ∧ y.freq ≤ 50000 → post = true → ¬ s.tableFull → z.posting = .posted ∧
    z.proposalId = s.control.nextId ∧ z.largeDeviation = deviatesLargely (s.curves.get r) y.freq y.mf ∧
    ∃ slot, posts s t (.mfPoint r y.freq y.mf) .prover (deviatesLargely (s.curves.get r) y.freq y.mf) slot

/-- An offer that does not end POSTED leaves the reason, and one that does the proposal's id and indication (R125). -/
theorem State.offerResult_offered (table : s.tableLegal) (r : Run) (y : ProvingResult) :
    ∃ z, (s.offerResult r y).1.prover.results.get r = some z ∧ z.Offered s (s.offerResult r y).1 r true y := by
  by_cases admissible : 1 ≤ y.freq ∧ y.freq ≤ 50000
  · by_cases full : s.tableFull
    · rw [State.offerResult_of_full admissible full]
      exact ⟨_, PerRun.get_set_self .., rfl, fun no => absurd admissible no, fun _ _ => rfl, fun _ _ room => absurd full room⟩
    · obtain ⟨slot, takes, posted⟩ := State.postProposal_of_room (.mfPoint r y.freq y.mf) .prover
        (deviatesLargely (s.curves.get r) y.freq y.mf) full
      rw [State.offerResult_of_posted admissible rfl posted]
      refine ⟨_, PerRun.get_set_self .., rfl, fun no => absurd admissible no, fun _ kept => ?_, fun _ _ _ =>
        ⟨rfl, rfl, rfl, slot, table.posts takes rfl⟩⟩
      rcases kept with no | no
      · cases no
      · exact absurd no full
  · rw [State.offerResult_of_inadmissible admissible]
    exact ⟨_, PerRun.get_set_self .., rfl, fun _ => rfl, fun yes => absurd yes admissible, fun yes => absurd yes admissible⟩

/-- A result that is not offered reads NOT_POSTED or NOT_ADMISSIBLE by its frequency (R125). -/
theorem ProvingResult.Offered.of_unoffered (s t : State) (r : Run) (m f : Nat) :
    (s.newResult .resultPass .none m f).Offered s t r false (s.newResult .resultPass .none m f) where
  result := rfl
  inadmissible no := if_neg (admissibleFreq_iff.not.2 no)
  kept yes _ := if_pos (admissibleFreq_iff.2 yes)
  posted _ no := absurd no Bool.false_ne_true

/-- The result of a session that passed is stored, and offered if the session posts (R124, R125). -/
theorem State.endSession_passed_result (table : s.tableLegal) (m f : Nat) (run : s.prover.session.run = some r) :
    ∃ z, (s.endSession .resultPass .none m f).prover.results.get r = some z ∧
      z.Offered s (s.endSession .resultPass .none m f) r s.prover.session.post (s.newResult .resultPass .none m f) := by
  obtain ⟨b, passed⟩ : ∃ b, s.passedSession r m f = { s with
    batch := b
    prover := { s.prover with
      session := { s.prover.session with state := .resultPass }
      results := s.prover.results.set r (some (s.newResult .resultPass .none m f)) } } := ⟨_, s.passedSession_frame r m f⟩
  rw [State.endSession_passed m f run, passed]
  cases s.prover.session.post with
  | false => exact ⟨_, PerRun.get_set_self .., .of_unoffered s _ r m f⟩
  | true =>
    obtain ⟨z, held, offered⟩ := State.offerResult_offered (s := { s with
      batch := b
      prover := { s.prover with
        session := { s.prover.session with state := .resultPass }
        results := s.prover.results.set r (some (s.newResult .resultPass .none m f)) } })
      table r (s.newResult .resultPass .none m f)
    exact ⟨z, held, offered.result, offered.inadmissible, offered.kept, offered.posted⟩

/-- The batch that holds the run is marked PROVED_DURING (R73, R124 step 3). -/
theorem State.endSession_passed_batch (m f : Nat) (run : s.prover.session.run = some r) {b : OpenBatch}
    (held : s.batch = some b) (inSet : inRunSet b.plan.runSet r = true) :
    (s.endSession .resultPass .none m f).batch = some { b with flags := { b.flags with provedDuring := true } } := by
  have reported : (s.passedSession r m f).batch = some { b with flags := { b.flags with provedDuring := true } } := by
    have holds (x : Session) (y : ProvingResult) : ((s.setSession x).setResult r y).batchOf r = some b := by
      simp [State.batchOf, held, inSet]
    rw [State.passedSession, State.reportProved, holds]
    rfl
  rw [State.endSession_passed m f run, State.raise_batch]
  split
  · rw [State.offerResult_batch, reported]
  · exact reported

end

end Sys2Proof.Machine
end

section
/-! PROOFS. The cycles of the run that a session holds: what its channel counts of them, the start pulse, the periods and the stop
pulse of a pass (R107, R108, R110 to R112), and the settled statement. -/

namespace Sys2Proof.Machine

section
variable {s t : State} {r : Run}

/-! ### The channel's part (R8, R9, R12, R13) -/

/-- The state once its channel has counted a cycle of an enabled run, before the prover takes it (R11). -/
def State.counted (s : State) (r : Run) (cls : CycleClass) : State :=
  let c := s.channels.get r
  let d := c.afterCycle false cls
  State.raiseIf (d.degraded != c.degraded) .integrity
    (State.raiseIf (countedDirection cls c.direction == some .reverse && c.window.faults.reverse == 0) .reverse
      (s.setChannel r d))

theorem State.counted_frame (s : State) (r : Run) (cls : CycleClass) : s.counted r cls = { s with
    channels := s.channels.set r ((s.channels.get r).afterCycle false cls), ports := (s.counted r cls).ports } := by
  have raised (a b : Bool) (x y : EventClass) (u : State) :
      (u.raiseIf a x).raiseIf b y = { u with ports := ((u.raiseIf a x).raiseIf b y).ports } := by
    cases a <;> cases b <;> rfl
  exact raised _ _ _ _ _

theorem State.counted_setSession (s : State) (r : Run) (cls : CycleClass) (x : Session) :
    (s.setSession x).counted r cls = (s.counted r cls).setSession x := by
  have raised (a b : Bool) (c d : EventClass) (u : State) :
      ((u.setSession x).raiseIf a c).raiseIf b d = ((u.raiseIf a c).raiseIf b d).setSession x := by
    cases a <;> cases b <;> rfl
  exact raised _ _ _ _ (s.setChannel r ((s.channels.get r).afterCycle false cls))

/-- A cycle of an enabled run is counted in its channel and passed to the prover (R11). -/
theorem State.countCycle_counted (on : s.enabled r) (cls : CycleClass) (stamp : Tick) : s.countCycle r cls stamp =
    (s.counted r cls).proverCycle r cls (countedDirection cls (s.channels.get r).direction) stamp := by
  obtain ⟨ready, enabled⟩ := on
  unfold State.countCycle State.counted
  simp only [ready, enabled, if_false, Bool.false_eq_true]
  rw [State.advanceBlock_eq, State.raiseIf_setChannel, cycleCounts_reverse]
  simp only [State.raiseIf_channels, State.setChannel_channels, PerRun.get_set_self, State.setChannel_setChannel]
  simp only [Channel.afterCycle, enabled, if_false, Bool.false_eq_true]
  rfl

/-! ### The prover's part (R107, R108, R110) -/

/-- The state with a cycle's marks on the pass in progress (R108). -/
def State.marked (s : State) (cls : CycleClass) (counted : Option Direction) : State :=
  s.setPass (s.prover.session.pass.mark cls counted)

section
variable (held : s.prover.session.holds r = true) (cls : CycleClass) (counted : Option Direction) (stamp : Tick)
include held

theorem State.proverCycle_of_waits (waits : s.prover.session.state = .waitDet1) :
    s.proverCycle r cls counted stamp = s := by
  simp only [State.proverCycle, held, if_true, waits]

theorem State.proverCycle_of_inPass (passes : s.prover.session.state = .inPass) : s.proverCycle r cls counted stamp =
    if counted = some .forward then (s.marked cls counted).pulseInPass stamp else s.marked cls counted := by
  simp only [State.proverCycle, held, if_true, passes]
  rfl

theorem State.proverCycle_of_waitStop (stops : s.prover.session.state = .waitStop) : s.proverCycle r cls counted stamp =
    if counted = some .forward then (s.marked cls counted).pulseInWaitStop r stamp else s.marked cls counted := by
  simp only [State.proverCycle, held, if_true, stops]
  rfl

end

theorem State.pulseInPass_provingAlone (stamp : Tick) (s : State) : s.ProvingAlone (s.pulseInPass stamp) := by
  unfold State.pulseInPass
  dsimp only
  split
  · rfl
  · split <;> rfl

theorem State.pulseInWaitStop_provingAlone (r : Run) (stamp : Tick) (s : State) :
    s.ProvingAlone (s.pulseInWaitStop r stamp) := by
  have kept := State.ProvingAlone.refl s
  unfold State.pulseInWaitStop
  dsimp only
  split
  · split
    · exact (kept.recordPass _).awaitDet1
    · rfl
  · split
    · rfl
    · split
      · rfl
      · exact (kept.recordPass _).awaitDet1

theorem State.proverCycle_provingAlone (r : Run) (cls : CycleClass) (counted : Option Direction) (stamp : Tick) (s : State) :
    s.ProvingAlone (s.proverCycle r cls counted stamp) := by
  have marked : s.ProvingAlone (s.marked cls counted) := rfl
  unfold State.proverCycle
  dsimp only
  split
  · split
    · split
      · exact marked.trans (State.pulseInPass_provingAlone _ _)
      · exact marked
    · split
      · exact marked.trans (State.pulseInWaitStop_provingAlone _ _ _)
      · exact marked
    · rfl
  · rfl

theorem atOrAfter_iff {stamp tick : Tick} : atOrAfter stamp tick = true ↔ (stamp - tick).toNat < 2 ^ 47 := decide_eq_true_iff

section
variable {stamp : Tick}

theorem State.pulseInPass_of_found (found : s.prover.session.pass.startFound = true) :
    s.pulseInPass stamp = s.setPass { s.prover.session.pass with nm := s.prover.session.pass.nm + 1 } := if_pos found

theorem State.pulseInWaitStop_of_period (found : s.prover.session.pass.startFound = true)
    (before : ¬ (stamp - s.prover.session.pass.tD2).toNat < 2 ^ 47) : s.pulseInWaitStop r stamp =
      s.setPass { s.prover.session.pass with nm := s.prover.session.pass.nm + 1 } := by
  rw [State.pulseInWaitStop, if_pos found, if_neg (atOrAfter_iff.not.2 before)]

theorem State.pulseInWaitStop_of_stop (found : s.prover.session.pass.startFound = true)
    (stops : (stamp - s.prover.session.pass.tD2).toNat < 2 ^ 47) : s.pulseInWaitStop r stamp =
      (s.recordPass (s.prover.session.stopRecord s.prover.baseVolume (s.totalizers.get r).kx stamp)).awaitDet1 := by
  rw [State.pulseInWaitStop, if_pos found, if_pos (atOrAfter_iff.2 stops)]

section
variable (unfound : s.prover.session.pass.startFound = false)
include unfound

theorem State.pulseInPass_of_early (early : ¬ (stamp - s.prover.session.pass.tD1).toNat < 2 ^ 47) :
    s.pulseInPass stamp = s := by
  simp only [State.pulseInPass, unfound, Bool.false_eq_true, if_false, atOrAfter_iff, early]

theorem State.pulseInWaitStop_of_early (early : ¬ (stamp - s.prover.session.pass.tD1).toNat < 2 ^ 47) :
    s.pulseInWaitStop r stamp = s := by
  simp only [State.pulseInWaitStop, unfound, Bool.false_eq_true, if_false, Bool.eq_false_iff.2 (atOrAfter_iff.not.2 early),
    Bool.not_false, if_true]

section
variable (starts : (stamp - s.prover.session.pass.tD1).toNat < 2 ^ 47)
include starts

theorem State.pulseInPass_of_start :
    s.pulseInPass stamp = s.setPass { s.prover.session.pass with startFound := true, tStart := stamp } := by
  simp only [State.pulseInPass, unfound, Bool.false_eq_true, if_false, atOrAfter_iff, starts, if_true]

theorem State.pulseInWaitStop_of_start (before : ¬ (stamp - s.prover.session.pass.tD2).toNat < 2 ^ 47) :
    s.pulseInWaitStop r stamp = s.setPass { s.prover.session.pass with startFound := true, tStart := stamp } := by
  simp only [State.pulseInWaitStop, unfound, Bool.false_eq_true, if_false, atOrAfter_iff.2 starts, Bool.not_true,
    Bool.eq_false_iff.2 (atOrAfter_iff.not.2 before), Bool.not_false, if_true]

/-- The first pulse of the pass comes at or after DET2 (R110). -/
theorem State.pulseInWaitStop_of_late (late : (stamp - s.prover.session.pass.tD2).toNat < 2 ^ 47) :
    s.pulseInWaitStop r stamp = (s.recordPass (s.prover.session.partialRecord .tooFewPulses)).awaitDet1 := by
  simp only [State.pulseInWaitStop, unfound, Bool.false_eq_true, if_false, atOrAfter_iff.2 starts, Bool.not_true,
    atOrAfter_iff.2 late]

end
end
end

/-! ### The figures of a pass that ends with a pulse (R109, R111, R112) -/

theorem Session.t1_of_waitStop {x : Session} (stops : x.state = .waitStop) : x.t1 = (x.pass.tD2 - x.pass.tD1).toNat :=
  if_pos stops

theorem Session.stopRecord_eq {x : Session} (stops : x.state = .waitStop) (bv kx : Nat) (stamp : Tick) :
    x.stopRecord bv kx stamp =
      let t1 := (x.pass.tD2 - x.pass.tD1).toNat
      let t2 := (stamp - x.pass.tStart).toNat
      let nm := x.pass.nm + 1
      let ni := (2 * (nm * t1 * 10000) + t2) / (2 * t2)
      let mf := if ni = 0 then 0 else (2 * (bv * kx * 10) + ni) / (2 * ni)
      { index := x.passes.length + 1
        validity :=
          if x.pass.errorMark then .integrity else if x.pass.reverseMark then .reverse
          else if t1 < 500000 then .shortPass else if nm < 2 then .tooFewPulses
          else if mf < 900000 ∨ 1100000 < mf then .mfOutOfBounds else .valid
        tD1 := x.pass.tD1, t1 := t1, t2 := t2, nm := nm, ni := ni, mf := mf
        freq := (2 * (nm * 10000000) + t2) / (2 * t2) } := by
  rw [Session.stopRecord, Session.t1_of_waitStop stops]
  rfl

/-- The record of a pass whose first pulse comes too late holds the figures R110 gives it. -/
theorem Session.partialRecord_of_unfound {x : Session} (stops : x.state = .waitStop) (none : x.pass.nm = 0) (v : Validity) :
    x.partialRecord v = {
      index := x.passes.length + 1, validity := v, tD1 := x.pass.tD1, t1 := (x.pass.tD2 - x.pass.tD1).toNat, t2 := 0
      nm := 0, ni := 0, mf := 0, freq := 0 } := by
  rw [Session.partialRecord, Session.t1_of_waitStop stops, none]

/-! ### What a recorded pass leaves (R115 to R118) -/

section
variable {x : Session} {y : PassRecord} {now : Seconds}

/-- A session that did not end at M passes taken waits (R115 steps 5 and 6). -/
theorem SessionState.failed_or_waits {full : Prop} [Decidable full] {e : SessionState} (active : e.isActive = true) :
    let u := if full then .resultFail else e
    (if u.isActive then .waitDet1 else u) = if full then SessionState.resultFail else .waitDet1 := by
  by_cases last : full
  · simp only [if_pos last]; rfl
  · simp only [if_neg last, active, if_true]

theorem Session.waiting_of_not_tests (active : x.state.isActive = true) (h : ¬ x.tests y) :
    ((x.recorded y).waiting now).lastSpread = x.lastSpread ∧
      ((x.recorded y).waiting now).state = if x.taken + 1 = x.m then .resultFail else .waitDet1 := by
  obtain ⟨-, -, -, spread⟩ := (x.recorded y).waiting_joined now
  rw [spread, Session.waiting_state, Session.recorded_of_not_tests h]
  exact ⟨rfl, SessionState.failed_or_waits active⟩

/-- A spread within L ends the session, one above it leaves the test against M (R116, R117). -/
theorem Session.waiting_of_tests (pos : 1 ≤ x.p) (active : x.state.isActive = true) (h : x.tests y) :
    ((x.recorded y).waiting now).lastSpread = some (spreadOf (x.recent y)) ∧
      (x.l < spreadOf (x.recent y) →
        ((x.recorded y).waiting now).state = if x.taken + 1 = x.m then .resultFail else .waitDet1) ∧
      (spreadOf (x.recent y) ≤ x.l → ((x.recorded y).waiting now).state = .resultPass) := by
  obtain ⟨-, -, -, spread⟩ := (x.recorded y).waiting_joined now
  rw [spread, Session.waiting_state, Session.recorded_of_tests pos h]
  refine ⟨rfl, fun above => ?_, fun within => ?_⟩
  · rw [if_neg (Nat.not_le.2 above)]
    exact SessionState.failed_or_waits active
  · rw [if_pos within]
    rfl

end

theorem State.awaitDet1_of_ended (ended : s.prover.session.state.isActive = false) : s.awaitDet1 = s := by
  rw [State.awaitDet1]
  exact if_neg (Bool.eq_false_iff.1 ended)

theorem State.passRecorded_session (y : PassRecord) (s : State) :
    (s.recordPass y).awaitDet1.prover.session = (s.prover.session.recorded y).waiting s.uptime := by
  rw [State.awaitDet1_session, State.recordPass_session, State.recordPass_uptime]

theorem State.passRecorded_flag (y : PassRecord) (s : State) (p : Port) :
    (((s.recordPass y).awaitDet1.ports.get p).events.get .proving).flag = true := by
  rw [State.awaitDet1_ports]
  exact s.recordPass_flag y p

theorem State.passRecorded_joined (y : PassRecord) (s : State) :
    (s.recordPass y).awaitDet1.prover.session.passes = s.prover.session.passes ++ [y] ∧
    (s.recordPass y).awaitDet1.prover.session.taken = s.prover.session.taken + 1 ∧
    (s.recordPass y).awaitDet1.prover.session.pass = .clear := by
  obtain ⟨passes, taken, pass⟩ := s.prover.session.recorded_joined y
  obtain ⟨passes', taken', pass', -⟩ := (s.prover.session.recorded y).waiting_joined s.uptime
  rw [State.passRecorded_session]
  exact ⟨passes'.trans passes, taken'.trans taken, pass'.trans pass⟩

/-- The state with a pass in the list and the spread of the recent ones (R115, R116). -/
def State.passTested (s : State) (y : PassRecord) : State :=
  ((s.setSession (s.prover.session.joined y)).raise .proving).setSession
    { s.prover.session.joined y with lastSpread := some (spreadOf (s.prover.session.recent y)) }

/-- The test of the recent passes, all valid: within L the session ends with their means (R116 to R118). -/
theorem State.testSession_of_within {valid : Bool} {l : List PassRecord}
    (tested : (if valid = true then s.prover.session.testedPasses else none) = some l)
    (within : spreadOf l ≤ s.prover.session.l) : s.testSession valid =
      (s.setSession { s.prover.session with lastSpread := some (spreadOf l) }).endSession .resultPass .none
        (meanOf (l.map PassRecord.mf)) (meanOf (l.map PassRecord.freq)) := by
  simp only [State.testSession, tested, within, if_true]

/-- A spread within L ends the session RESULT_PASS with the means (R116 to R118). -/
theorem State.passRecorded_passes {y : PassRecord} (pos : 1 ≤ s.prover.session.p) (h : s.prover.session.tests y)
    (within : spreadOf (s.prover.session.recent y) ≤ s.prover.session.l) :
    (s.recordPass y).awaitDet1 = (s.passTested y).endSession .resultPass .none
      (meanOf ((s.prover.session.recent y).map PassRecord.mf)) (meanOf ((s.prover.session.recent y).map PassRecord.freq)) := by
  have recorded : s.recordPass y = _ :=
    State.testSession_of_within (s := (s.setSession (s.prover.session.joined y)).raise .proving)
      (Session.testedPasses_of_tests pos h) within
  rw [recorded]
  exact State.awaitDet1_of_ended (by rw [State.endSession_session]; rfl)

/-- The mean of a figure of the recent passes (R118). -/
theorem Session.meanOf_recent {x : Session} {y : PassRecord} (h : x.tests y) (f : PassRecord → Nat) :
    meanOf ((x.recent y).map f) = (2 * ((x.recent y).map f).sum + x.p) / (2 * x.p) := by
  rw [meanOf, List.length_map, Session.recent_length h, roundDiv]

/-- What a spread within L leaves: the result with the means, its posting, and the batch's flag (R118, R124, R125). -/
theorem State.passRecorded_result {y : PassRecord} (table : s.tableLegal) (pos : 1 ≤ s.prover.session.p)
    (run : s.prover.session.run = some r) (h : s.prover.session.tests y)
    (within : spreadOf (s.prover.session.recent y) ≤ s.prover.session.l) :
    let t := (s.recordPass y).awaitDet1
    let factor := meanOf ((s.prover.session.recent y).map PassRecord.mf)
    let freq := meanOf ((s.prover.session.recent y).map PassRecord.freq)
    let deviation := decide (2500 < ((factor : Int) - (lookupCurve (s.curves.get r) freq).1).natAbs)
    let admissible : Prop := 1 ≤ freq ∧ freq ≤ 50000
    ∃ z, t.prover.results.get r = some z ∧
      z.endState = .resultPass ∧ z.mf = factor ∧ z.freq = freq ∧
      z.lastSpread = some (spreadOf (s.prover.session.recent y)) ∧
      z.taken = s.prover.session.taken + 1 ∧ z.endUptime = s.uptime ∧
      (¬ admissible → z.posting = .notAdmissible) ∧
      (admissible → s.prover.session.post = false ∨ s.tableFull → z.posting = .notPosted) ∧
      (admissible → s.prover.session.post = true → ¬ s.tableFull → z.posting = .posted ∧ z.proposalId = s.control.nextId ∧
        z.largeDeviation = deviation ∧ ∃ slot, posts s t (.mfPoint r freq factor) .prover deviation slot) ∧
      ∀ b, s.batch = some b → inRunSet b.plan.runSet r = true →
        t.batch = some { b with flags := { b.flags with provedDuring := true } } := by
  intro t factor freq deviation admissible
  have ended : t = (s.passTested y).endSession .resultPass .none factor freq := State.passRecorded_passes pos h within
  rw [ended]
  obtain ⟨z, held, offered⟩ := State.endSession_passed_result (s := s.passTested y) table factor freq run
  have same : deviatesLargely (s.curves.get r) freq factor = deviation := deviatesLargely_eq _ _ _
  refine ⟨z, held, ?_, ?_, ?_, ?_, ?_, ?_, offered.inadmissible, offered.kept, ?_,
    fun b open_ inSet => State.endSession_passed_batch (s := s.passTested y) factor freq run open_ inSet⟩
  rotate_right
  · intro yes post room
    obtain ⟨posted, id, large, slot, posts⟩ := offered.posted yes post room
    exact ⟨posted, id, large.trans same, slot, same ▸ posts⟩
  all_goals
    rw [offered.result]
    rfl

/-- A record that is not VALID is not tested (R115 step 4). -/
theorem Session.not_tests_of_invalid {x : Session} {y : PassRecord} (pos : 1 ≤ x.p) (invalid : y.validity ≠ .valid) :
    ¬ x.tests y := fun h => invalid (h.2 y (Session.mem_recent pos))

/-- An active session that does not wait for DET1 is in a pass (R100). -/
theorem SessionState.pass_of_active {e : SessionState} (active : e.isActive = true) (away : e ≠ .waitDet1) :
    e = .inPass ∨ e = .waitStop := by
  cases e with
  | waitDet1 => exact absurd rfl away
  | inPass => exact .inl rfl
  | waitStop => exact .inr rfl
  | idle | resultPass | resultFail | resultAborted => cases active

/-! ### The event -/

/-- The return to 00 of an enabled run counts the cycle whatever the session is, and passes it to the prover (R9, R11). -/
theorem State.edgeEvent_counted {tick stamp : Tick} {path : List Pair} {d : Bool} (on : s.enabled r)
    (away : (s.channels.get r).pair ≠ .zero) (cycle : (s.channels.get r).tracking = .inCycle stamp path d) :
    let c := s.channels.get r
    let cls := classify path (d || (c.pair.a && c.pair.b))
    ∃ lines channels ports, ∀ y : Session, exec (.edgeEvent r false false tick) (s.setSession y) =
      .next (State.proverCycle r cls (countedDirection cls c.direction) stamp
        (State.setSession { s with lines := lines, channels := channels, ports := ports } y)) := by
  intro c cls
  let w := s.walked r .zero .outside
  refine ⟨w.lines, w.channels.set r ((w.channels.get r).afterCycle false cls), (w.counted r cls).ports, fun y => ?_⟩
  have walked : w.channels.get r = { c with pair := .zero, tracking := .outside } := PerRun.get_set_self ..
  have on' : (w.setSession y).enabled r := ⟨on.1, by
    show (w.channels.get r).runState ≠ .offline
    rw [walked]
    exact on.2⟩
  have returned : exec (.edgeEvent r false false tick) (s.setSession y) =
      .next ((w.setSession y).countCycle r cls stamp) := execEdgeEvent_return r tick stamp path d (s.setSession y) away cycle
  rw [returned, State.countCycle_counted on', State.counted_setSession, State.counted_frame]
  have direction : ((w.setSession y).channels.get r).direction = c.direction := by
    show (w.channels.get r).direction = _
    rw [walked]
  rw [direction]
  rfl

/-- Settles O52: the channel counts the cycle as without a session, each row of R110's table moves the pass on or ends it, and the
record of the stop pulse joins the passes that are tested. -/
theorem pulsesPlaceAndEndThePass : Obligations.PulsesPlaceAndEndThePass := by
  intro r tick stamp path d s on legal table held away cycle c cls counted x q after clear
  obtain ⟨lines, channels, ports, event⟩ := State.edgeEvent_counted (tick := tick) on away cycle
  let v : State := { s with lines := lines, channels := channels, ports := ports }
  have held' : v.prover.session.holds r = true := held
  obtain ⟨active, run⟩ : x.state.isActive = true ∧ x.run = some r := by
    simpa [Session.holds] using held
  have pos : 1 ≤ x.p := by
    obtain ⟨-, two, -⟩ := legal.1 active
    exact Nat.le_of_succ_le two
  have mark : v.marked cls counted = v.setPass q := by
    have same : x.pass.mark cls counted = q := by
      simp only [PassInProgress.mark, q, beq_eq_decide]
    exact congrArg v.setPass same
  have inPass := State.proverCycle_of_inPass held' cls counted stamp
  have waitStop := State.proverCycle_of_waitStop held' cls counted stamp
  rw [mark] at inPass waitStop
  have idle := State.proverCycle_of_free (s := v.setSession { x with state := .idle }) (r := r) rfl cls counted stamp
  refine ⟨v.proverCycle r cls counted stamp, _, event x, (event _).trans (congrArg _ idle),
    State.proverCycle_provingAlone r cls counted stamp v, fun waits => ?_, fun passes still => ?_, fun passes forward => ?_,
    fun stops forward unfound => ?_, fun stops forward found before => ?_, fun stops forward found late => ?_⟩
  · rw [State.proverCycle_of_waits held' _ _ _ waits]
  · rcases SessionState.pass_of_active active passes with passes | stops
    · rw [inPass passes, if_neg still]
      rfl
    · rw [waitStop stops, if_neg still]
      rfl
  · rw [inPass passes, if_pos forward]
    refine ⟨fun found => ?_, fun unfound starts => ?_, fun unfound early => ?_⟩
    · rw [State.pulseInPass_of_found (s := v.setPass q) found]
      rfl
    · rw [State.pulseInPass_of_start (s := v.setPass q) unfound starts]
      rfl
    · rw [State.pulseInPass_of_early (s := v.setPass q) unfound early]
      rfl
  · rw [waitStop stops, if_pos forward]
    refine ⟨fun early => ?_, fun starts before => ?_, fun starts late none => ?_⟩
    · rw [State.pulseInWaitStop_of_early (s := v.setPass q) unfound early]
      rfl
    · rw [State.pulseInWaitStop_of_start (s := v.setPass q) unfound starts before]
      rfl
    · rw [State.pulseInWaitStop_of_late (s := v.setPass q) unfound starts late,
        Session.partialRecord_of_unfound (x := (v.setPass q).prover.session) stops none]
      obtain ⟨passes, taken, cleared⟩ := State.passRecorded_joined _ (v.setPass q)
      have invalid : Validity.tooFewPulses ≠ .valid := by decide
      refine ⟨passes, taken, cleared, ?_, State.passRecorded_flag _ _⟩
      rw [State.passRecorded_session]
      exact (Session.waiting_of_not_tests active (Session.not_tests_of_invalid pos invalid)).2
  · rw [waitStop stops, if_pos forward, State.pulseInWaitStop_of_period (s := v.setPass q) found before]
    rfl
  · intro t1 t2 nm ni mf y last tested
    rw [waitStop stops, if_pos forward, State.pulseInWaitStop_of_stop (s := v.setPass q) found late,
      Session.stopRecord_eq (x := (v.setPass q).prover.session) stops]
    obtain ⟨passes, taken, cleared⟩ := State.passRecorded_joined y (v.setPass q)
    refine ⟨passes, taken, cleared, State.passRecorded_flag _ _, fun untested => ?_,
      fun tested low high within lowest highest => ?_⟩
    · rw [State.passRecorded_session]
      exact Session.waiting_of_not_tests active untested
    · intro spread factor freq deviation admissible
      have spreads : spreadOf (x.recent y) = spread := spreadOf_eq within lowest highest
      have means : meanOf ((x.recent y).map PassRecord.mf) = factor ∧ meanOf ((x.recent y).map PassRecord.freq) = freq :=
        ⟨Session.meanOf_recent tested _, Session.meanOf_recent tested _⟩
      obtain ⟨lastSpread, above, below⟩ :=
        Session.waiting_of_tests (x := (v.setPass q).prover.session) (now := s.uptime) pos active tested
      have result := State.passRecorded_result (s := v.setPass q) table pos run tested
      have same : (v.setPass q).prover.session.recent y = x.recent y := rfl
      rw [same, spreads] at lastSpread above below result
      rw [means.1, means.2] at result
      rw [State.passRecorded_session]
      exact ⟨lastSpread, above, fun small => ⟨below small, result small⟩⟩

end

end Sys2Proof.Machine
end

section
/-! PROOFS. PROVE_START, READ_PROVING and READ_PASS (R102, R103, R127, R128), and the settled statements. -/

namespace Sys2Proof.Machine

/-! ### PROVE_START (R102, R103) -/

/-- A run may be proved when it is FLOWING and NORMAL, with BV and its Kx set (R102). -/
theorem State.mayProve_iff {s : State} {r : Run} : s.mayProve r = true ↔
    (s.channels.get r).runState = .flowing ∧ (s.channels.get r).degraded = false ∧ s.prover.baseVolume ≠ 0 ∧
      (s.totalizers.get r).kx ≠ 0 := by
  simp only [State.mayProve, State.isFlowing, Bool.and_eq_true, beq_iff_eq, bne_iff_ne, Bool.not_eq_true', and_assoc]

section
variable {s : State} (r : Run) {p m l post : Nat}

theorem State.proveStart_of_post (high : 1 < post) :
    s.proveStart (runByte r).toNat p m l post = refused .badArgument s := by
  rw [State.proveStart, runOfNumber_runByte]
  exact if_pos high

section
variable (low : post ≤ 1)
include low

theorem State.proveStart_of_active (active : s.prover.session.state.isActive = true) :
    s.proveStart (runByte r).toNat p m l post = refused .busy s := by
  rw [State.proveStart, runOfNumber_runByte]
  exact (if_neg (Nat.not_lt.2 low)).trans (if_pos active)

variable (inactive : s.prover.session.state.isActive = false)
include inactive

theorem State.proveStart_of_unready (unready : s.mayProve r = false) :
    s.proveStart (runByte r).toNat p m l post = refused .wrongState s := by
  simp only [State.proveStart, runOfNumber_runByte, if_neg (Nat.not_lt.2 low), inactive, unready, Bool.false_eq_true,
    if_false, Bool.not_false, if_true]

/-- An accepted PROVE_START clamps P, then M from the clamped P, and L (R102, R103). -/
theorem State.proveStart_of_ready (ready : s.mayProve r = true) :
    let p' := max 2 (min p 10)
    let m' := max p' (min m 20)
    let l' := max 10 (min l 5000)
    s.proveStart (runByte r).toNat p m l post =
      (s.setSession (s.newSession r p' m' l' (post == 1)), .okWith ([byteOf p', byteOf m'] ++ bytesOf 2 l')) := by
  intro p' m' l'
  have required : clamp 2 10 p = p' := clamp_eq p (by decide)
  have most : clamp p' 20 m = m' := clamp_eq m (by omega)
  have limit : clamp 10 5000 l = l' := clamp_eq l (by decide)
  simp only [State.proveStart, runOfNumber_runByte, if_neg (Nat.not_lt.2 low), inactive, ready, Bool.false_eq_true,
    if_false, Bool.not_true, required, most, limit]
  rw [field_one (show p' < 256 by omega), field_one (show m' < 256 by omega), field_eq (show l' < 256 ^ 2 by omega)]
  rfl

end
end

/-- Settles O49: the request passes the checks of R169, and each of its own checks in turn refuses it or lets it through. -/
theorem proveStartSetsUpTheSession : Obligations.ProveStartSetsUpTheSession := by
  intro r required most hi lo post s operates answer ready p m l
  let args := [runByte r, required, most, hi, lo, post]
  have read : argument args 0 1 = (runByte r).toNat ∧ argument args 1 1 = required.toNat ∧
      argument args 2 1 = most.toNat ∧ argument args 3 2 = (hi ++ lo).toNat ∧ argument args 5 1 = post.toNat :=
    ⟨numberOf_one _, numberOf_one _, numberOf_one _, numberOf_two _ _, numberOf_one _⟩
  obtain ⟨run, passes, limit, spread, posting⟩ := read
  have ends {t : State} {a : Answer}
      (e : s.proveStart (runByte r).toNat required.toNat most.toNat (hi ++ lo).toNat post.toNat = (t, a)) :
      answer = .next (t.respond .sup 0x32 a) :=
    congrArg Host.Outcome.next (takeRequest_eq operates rfl rfl (by rwa [run, passes, limit, spread, posting]))
  refine ⟨fun high => ends (State.proveStart_of_post r high), fun low active => ends (State.proveStart_of_active r low active),
    fun low inactive unready => ends (State.proveStart_of_unready r low inactive ?_), fun low inactive isReady => ?_⟩
  · exact Bool.eq_false_iff.2 (State.mayProve_iff.not.2 unready)
  · have posts : (post.toNat == 1) = decide (post = 1) := by
      rw [beq_eq_decide]
      exact decide_eq_decide.2 (by bv_omega)
    rw [ends (State.proveStart_of_ready r low inactive (State.mayProve_iff.2 isReady)), posts]
    rfl

/-! ### READ_PROVING (R127) -/

theorem indication_eq (b : Bool) : indication b = [bitByte b] := rfl

/-- The session's 42 bytes (R127). -/
theorem Prover.fits.sessionFields_eq {s : State} (h : s.prover.fits) :
    let x := s.prover.session
    s.sessionFields = [byteOf (sessionStateCode x.state), (x.run.map runByte).getD 0, byteOf x.p, byteOf x.m] ++
      bytesOf 2 x.l ++ [bitByte x.post, byteOf x.taken, byteOf x.passes.length] ++ bytesOf 2 x.outOfOrder ++
      bytesOf 4 s.prover.baseVolume ++ bytesOf 6 x.pass.tD1.toNat ++ [bitByte x.pass.startFound] ++
      bytesOf 6 x.pass.tStart.toNat ++ bytesOf 4 x.pass.nm ++ bytesOf 6 x.pass.tD2.toNat ++
      bytesOf 4 x.entryUptime.toNat := by
  intro x
  obtain ⟨p, m, l, taken, passes, order, volume, nm⟩ := h
  have code : sessionStateCode x.state < 256 := by cases x.state <;> decide
  have run : field 1 ((x.run.map runNumber).getD 0) = [(x.run.map runByte).getD 0] := by
    cases x.run with
    | none => rfl
    | some r => exact field_runNumber r
  rw [State.sessionFields, field_one code, run, field_one (by omega), field_one (by omega), field_eq (by omega),
    field_one (by omega), field_one (by omega), field_eq (by omega), field_four volume, field_four nm]
  simp only [tickField_eq, secondsField_eq, indication_eq, List.append_assoc, List.cons_append, List.nil_append, x]

/-- A result's 28 bytes, its spread field and its flags given (R127). -/
theorem ProvingResult.fits.resultFields_eq {y : ProvingResult} (h : y.fits) (r : Run) {flags : Byte}
    (hf : flagsByte [y.lastSpread.isSome, y.largeDeviation, y.post] = [flags]) :
    resultFields r (some y) = [runByte r, 1, byteOf (sessionStateCode y.endState), byteOf (abortReasonCode y.reason),
      byteOf y.p, byteOf y.taken] ++ bytesOf 2 y.l ++ field 4 (y.lastSpread.getD Config.absentSpread) ++ bytesOf 4 y.mf ++
      bytesOf 4 y.freq ++ [byteOf (postingCode y.posting)] ++ bytesOf 2 y.proposalId ++ [flags] ++
      bytesOf 4 y.endUptime.toNat := by
  obtain ⟨p, taken, l, -, mf, freq, proposal⟩ := h
  have code : sessionStateCode y.endState < 256 := by cases y.endState <;> decide
  have reason : abortReasonCode y.reason < 256 := by cases y.reason <;> decide
  have posting : postingCode y.posting < 256 := by cases y.posting <;> decide
  rw [resultFields, hf, field_runNumber, field_one code, field_one reason, field_one (by omega), field_one (by omega),
    field_eq (show y.l < 256 ^ 2 by omega), field_four mf, field_four freq, field_one posting,
    field_eq (show y.proposalId < 256 ^ 2 by omega), secondsField_eq]
  rfl

/-! ### READ_PASS (R128) -/

/-- A pass record's 34 bytes (R128). -/
theorem PassRecord.fits.passFields_eq {y : PassRecord} (h : y.fits) :
    passFields y = [byteOf y.index, byteOf (validityCode y.validity)] ++ bytesOf 6 y.tD1.toNat ++ bytesOf 4 y.t1 ++
      bytesOf 4 y.t2 ++ bytesOf 4 y.nm ++ bytesOf 6 y.ni ++ bytesOf 4 y.mf ++ bytesOf 4 y.freq := by
  obtain ⟨index, t1, t2, nm, ni, mf, freq⟩ := h
  have code : validityCode y.validity < 256 := by cases y.validity <;> decide
  rw [passFields, field_one (by omega), field_one code, tickField_eq, field_four t1, field_four t2, field_four nm,
    field_eq ni, field_four mf, field_four freq]
  rfl

theorem State.readPass_of_absent {s : State} {n : Nat} (absent : n = 0 ∨ s.prover.session.passes.length < n) :
    s.readPass n = refused .notFound s := by
  have none : (if n = 0 then none else s.prover.session.passes[n - 1]?) = none := by
    split
    · rfl
    · exact List.getElem?_eq_none (by omega)
  rw [State.readPass, none]

theorem State.readPass_of_held {s : State} {front rest : List PassRecord} {y : PassRecord}
    (held : s.prover.session.passes = front ++ y :: rest) :
    s.readPass (front.length + 1) = reads (passFields y) s := by
  have found : s.prover.session.passes[front.length + 1 - 1]? = some y := by
    rw [held, Nat.add_sub_cancel, List.getElem?_append_right (Nat.le_refl _), Nat.sub_self, List.getElem?_cons_zero]
  rw [State.readPass, if_neg (Nat.succ_ne_zero _), found]

theorem State.readProving_runByte (s : State) (r : Run) :
    s.readProving (runByte r).toNat = reads (resultFields r (s.prover.results.get r)) s := by
  have nonzero : (runByte r).toNat ≠ 0 := by cases r <;> decide
  rw [State.readProving, if_neg nonzero, runOfNumber_runByte]

/-- Settles O53: both requests pass the checks of R169 and answer the fields of what they select. -/
theorem provingReadsAnswerTheFigures : Obligations.ProvingReadsAnswerTheFigures := by
  intro p s operates x
  have proving {n : Byte} {a : Answer} (e : s.readProving n.toNat = (s, a)) :
      exec (.readProving p [n]) s = .next (s.respond p 0x30 a) :=
    congrArg Host.Outcome.next (takeRequest_eq operates (by cases p <;> rfl) rfl (by rwa [argument_first]))
  have pass {n : Byte} {a : Answer} (e : s.readPass n.toNat = (s, a)) :
      exec (.readPass p [n]) s = .next (s.respond p 0x31 a) :=
    congrArg Host.Outcome.next (takeRequest_eq operates (by cases p <;> rfl) rfl (by rwa [argument_first]))
  refine ⟨fun fits => ?_, fun n high => proving ?_, fun r none => ?_, fun r y held fits => ?_, fun n =>
    ⟨fun absent => pass (State.readPass_of_absent ?_), fun front y rest held index fits => ?_⟩⟩
  · rw [← fits.sessionFields_eq]
    exact proving rfl
  · have nonzero : n.toNat ≠ 0 := by omega
    rw [State.readProving, if_neg nonzero, runOfNumber_eq_none (.inr high)]
    rfl
  · rw [proving (State.readProving_runByte s r), none]
    rfl
  · obtain ⟨flags, holds, byte⟩ := flagsByte_holds [y.lastSpread.isSome, y.largeDeviation, y.post]
    refine ⟨field 4 (y.lastSpread.getD Config.absentSpread), flags, field_length _ _, fun n spread => ?_, holds, ?_⟩
    · obtain ⟨-, -, -, fit, -⟩ := fits
      rw [spread]
      exact field_four (fit n spread)
    · rw [← fits.resultFields_eq r byte, ← held]
      exact proving (State.readProving_runByte s r)
  · exact absent.imp_left fun zero => congrArg BitVec.toNat zero
  · rw [← fits.passFields_eq]
    exact pass (index ▸ State.readPass_of_held held)

end Sys2Proof.Machine
end

section
/-! PROOFS. The proposal table (R130 to R139, R142 to R144): its ids, the search for one, and what keeps the table legal. -/

namespace Sys2Proof.Machine

/-! ### The ids of a table (R131, R132, R137) -/

namespace ChangeControl

variable {c d : ChangeControl}

theorem mem_ids {i : Nat} : i ∈ c.ids ↔ ∃ p, some p ∈ c.slots ∧ p.id = i := by
  simp [ids, List.mem_filterMap]

/-- The table of no id twice holds each id in one slot (R132). -/
theorem slot_unique (unique : c.ids.Nodup) {i j : Nat} {p q : Proposal} (hi : c.slots[i]? = some (some p))
    (hj : c.slots[j]? = some (some q)) (same : p.id = q.id) : i = j := by
  obtain ⟨insideI, atI⟩ := List.getElem?_eq_some_iff.1 hi
  obtain ⟨insideJ, atJ⟩ := List.getElem?_eq_some_iff.1 hj
  have apart := List.pairwise_iff_getElem.1 (List.pairwise_filterMap.1 unique)
  rcases Nat.lt_trichotomy i j with less | rfl | less
  · exact absurd same (apart i j insideI insideJ less p.id (by rw [atI]; rfl) q.id (by rw [atJ]; rfl))
  · rfl
  · exact absurd same.symm (apart j i insideJ insideI less q.id (by rw [atJ]; rfl) p.id (by rw [atI]; rfl))

theorem find_eq_none {i : Nat} : c.find i = none ↔ i ∉ c.ids := by
  rw [mem_ids, find, List.findSome?_eq_none_iff]
  constructor
  · rintro none ⟨p, held, same⟩
    obtain ⟨slot, at_slot⟩ := List.mem_iff_getElem?.1 held
    simpa [same] using none (some p, slot) (List.mk_mem_zipIdx_iff_getElem?.2 at_slot)
  · rintro absent ⟨_ | p, slot⟩ mem
    · rfl
    · have other : p.id ≠ i := fun same =>
        absent ⟨p, List.mem_of_getElem? (List.mk_mem_zipIdx_iff_getElem?.1 mem), same⟩
      simp [other]

/-- A record is found under its id, in its slot (R137). -/
theorem find_eq_some (unique : c.ids.Nodup) {slot : Nat} {p : Proposal} (held : c.slots[slot]? = some (some p)) :
    c.find p.id = some (slot, p) := by
  cases found : c.find p.id with
  | none => exact absurd (mem_ids.2 ⟨p, List.mem_of_getElem? held, rfl⟩) (find_eq_none.1 found)
  | some x =>
    obtain ⟨j, q⟩ := x
    obtain ⟨at_j, same⟩ := find_some found
    obtain rfl := slot_unique unique at_j held same
    rw [Option.some.inj (Option.some.inj (at_j.symm.trans held))]

/-- Slots with the ids that they had hold the ids that they held. -/
theorem ids_congr (h : d.slots.map (Option.map Proposal.id) = c.slots.map (Option.map Proposal.id)) : d.ids = c.ids := by
  have ids_eq (e : ChangeControl) : e.ids = (e.slots.map (Option.map Proposal.id)).filterMap id := by
    rw [List.filterMap_map]; rfl
  rw [ids_eq, ids_eq, h]

/-- A record put into a slot joins the ids, and that of the record it takes the place of leaves them (R134). -/
theorem ids_set {slot : Nat} (inside : slot < c.slots.length) (x : Proposal) (h : d.slots = c.slots.set slot (some x)) :
    ∃ rest, d.ids.Perm (x.id :: rest) ∧ rest.Sublist c.ids := by
  refine ⟨(c.slots.eraseIdx slot).filterMap fun y => y.map Proposal.id, ?_, (List.eraseIdx_sublist ..).filterMap _⟩
  rw [ids, h]
  exact (List.set_perm_cons_eraseIdx inside (some x)).filterMap _

/-! ### A legal table -/

/-- The part of `State.tableLegal` that speaks of change control (R130 to R132, R139). -/
structure Legal (c : ChangeControl) : Prop where
  six       : c.slots.length = 6
  unique    : c.ids.Nodup
  ids       : ∀ i ∈ c.ids, legalId i
  next      : legalId c.nextId
  fresh     : c.nextId ∉ c.ids
  proposals : ∀ p, some p ∈ c.slots → p.legal

/-- Changed records that keep their slots and ids. -/
theorem Legal.of_ids (h : c.Legal) (hi : d.slots.map (Option.map Proposal.id) = c.slots.map (Option.map Proposal.id))
    (hn : d.nextId = c.nextId) (legal : ∀ p, some p ∈ d.slots → p.legal) : d.Legal := by
  have same := ids_congr hi
  have size : d.slots.length = c.slots.length := by simpa using congrArg List.length hi
  exact ⟨size.trans h.six, same ▸ h.unique, same ▸ h.ids, hn ▸ h.next, by rw [hn, same]; exact h.fresh, legal⟩

/-- One record changed under its id. -/
theorem Legal.set (h : c.Legal) {slot : Nat} {x y : Proposal} (held : c.slots[slot]? = some (some x)) (same : y.id = x.id)
    (legal : y.legal) (hd : d.slots = c.slots.set slot (some y)) (hn : d.nextId = c.nextId) : d.Legal := by
  refine h.of_ids ?_ hn fun p hp => ?_
  · obtain ⟨inside, at_slot⟩ := List.getElem?_eq_some_iff.1 held
    have here : (c.slots.map (Option.map Proposal.id))[slot]'(by simpa using inside) = some y.id := by simp [at_slot, same]
    rw [hd, List.map_set, Option.map_some, ← here, List.set_getElem_self]
  · rw [hd] at hp
    rcases List.mem_or_eq_of_mem_set hp with hp | hp
    · exact h.proposals p hp
    · cases hp; exact legal

/-- Every record changed under its id. -/
theorem Legal.map (h : c.Legal) {f : Option Proposal → Option Proposal}
    (hf : ∀ x, f x = x ∨ ∃ p q, x = some p ∧ f x = some q ∧ q.id = p.id ∧ (p.legal → q.legal))
    (hd : d.slots = c.slots.map f) (hn : d.nextId = c.nextId) : d.Legal := by
  refine h.of_ids ?_ hn fun p hp => ?_
  · rw [hd, List.map_map]
    refine List.map_congr_left fun x _ => ?_
    obtain e | ⟨p, q, rfl, e, same, -⟩ := hf x
    · simp [e]
    · simp [e, same]
  · rw [hd] at hp
    obtain ⟨x, hx, e⟩ := List.mem_map.1 hp
    obtain kept | ⟨z, q, rfl, changed, -, legal⟩ := hf x
    · exact h.proposals p (by rwa [← e, kept])
    · cases changed.symm.trans e
      exact legal (h.proposals z hx)

end ChangeControl

/-! ### Verdicts and ends (R135, R137 to R139, R142 to R144) -/

namespace Proposal

@[simp] theorem setVerdict_id (x : Proposal) (v : Verdict) (p : Port) : (x.setVerdict v p).id = x.id := by cases p <;> rfl

@[simp] theorem setVerdict_state (x : Proposal) (v : Verdict) (p : Port) : (x.setVerdict v p).state = x.state := by
  cases p <;> rfl

/-- The record of a posting is legal: its originator alone may have a verdict, CONCUR (R135). -/
theorem newProposal_legal (s : State) (c : Change) {o : Originator} {d : Bool} (hd : d = true → o = .prover) :
    (s.newProposal c o d).legal := by
  refine ⟨hd, ?_⟩
  cases o <;> simp [State.newProposal, firstVerdicts]

/-- An OPEN proposal may end without a verdict: WITHDRAWN, EXPIRED or SUPERSEDED (R142 to R144). -/
theorem legal.endAs {x : Proposal} (h : x.legal) {state : ProposalState} (now : Seconds)
    (ends : state = .expired ∨ state = .withdrawn ∨ ∃ i, state = .superseded i) : (x.endAs state now).legal := by
  obtain ⟨deviation, -⟩ := h
  rcases ends with rfl | rfl | ⟨i, rfl⟩ <;> exact ⟨deviation, trivial⟩

/-- A verdict of REJECT ends a proposal (R138). -/
theorem legal.reject {x : Proposal} (h : x.legal) {p : Port} (custody : p ≠ .sup) (now : Seconds) :
    ((x.setVerdict .reject p).endAs .rejected now).legal := by
  obtain ⟨deviation, -⟩ := h
  cases p with
  | opr => exact ⟨deviation, .inl rfl⟩
  | wit => exact ⟨deviation, .inr rfl⟩
  | sup => exact absurd rfl custody

/-- A verdict of CONCUR that leaves the other one keeps an OPEN proposal legal (R137). -/
theorem legal.concur {x : Proposal} (h : x.legal) (opened : x.state = .opened) (p : Port)
    (one : ¬((x.setVerdict .concur p).oprVerdict = .concur ∧ (x.setVerdict .concur p).witVerdict = .concur)) :
    (x.setVerdict .concur p).legal := by
  obtain ⟨deviation, verdicts⟩ := h
  rw [opened] at verdicts
  obtain ⟨opr, wit, -⟩ := verdicts
  cases p with
  | opr => exact ⟨deviation, by rw [setVerdict_state, opened]; exact ⟨nofun, wit, one⟩⟩
  | wit => exact ⟨deviation, by rw [setVerdict_state, opened]; exact ⟨opr, nofun, one⟩⟩
  | sup => exact ⟨deviation, by rw [setVerdict_state, opened]; exact ⟨opr, wit, one⟩⟩

/-- With both verdicts CONCUR a proposal ends APPLIED or FAILED (R139, R141). -/
theorem legal.applied {x : Proposal} (deviation : x.largeDeviation = true → x.originator = .prover)
    (both : x.oprVerdict = .concur ∧ x.witVerdict = .concur) {state : ProposalState} (now : Seconds)
    (ends : (∃ n, state = .applied n) ∨ ∃ r, state = .failed r) : (x.endAs state now).legal := by
  rcases ends with ⟨n, rfl⟩ | ⟨r, rfl⟩ <;> exact ⟨deviation, both⟩

end Proposal

section
variable {s t : State}

/-- CONCUR and REJECT come to an OPEN proposal of the table on which the port has given no verdict (R137, R138). -/
theorem State.checkVerdict_ok {p : Port} {id slot : Nat} {x : Proposal} (h : s.checkVerdict p id = .ok (slot, x)) :
    s.control.slots[slot]? = some (some x) ∧ x.id = id ∧ x.state = .opened ∧ x.verdictOf p = .none := by
  unfold State.checkVerdict at h
  split at h
  · cases h
  · rename_i found
    split at h
    · cases h
    · rename_i opened
      split at h
      · cases h
      · rename_i undecided
        cases h
        obtain ⟨held, same⟩ := ChangeControl.find_some found
        exact ⟨held, same, Proposal.isOpen_iff.1 (by simpa using opened), Classical.not_not.1 undecided⟩

end

end Sys2Proof.Machine
end

section
/-! PROOFS. The proposal table through every command, and the settled statement that no step leaves it with an id twice or a
verdict that its state rules out (R130 to R144, R190). -/

namespace Sys2Proof.Machine

section
variable {s t : State}

/-! ### The invariant, part by part -/

/-- Every checkpoint that the store holds or writes brings back an id (R132, R190). -/
def State.RetainsIds (s : State) : Prop := s.Retains (fun a => legalId a.nextId) fun _ => True

theorem State.RetainsIds.of_eq (h : s.RetainsIds) (hs : t.store = s.store) : t.RetainsIds :=
  ⟨hs ▸ h.store, fun _ _ => trivial⟩

theorem State.tableLegal_iff : s.tableLegal ↔ s.control.Legal ∧ s.RetainsIds := by
  have retains : s.RetainsIds ↔ s.store.everyCheckpoint fun a => legalId a.nextId := by
    simp [State.RetainsIds, State.retains_iff, State.everyRecord]
  exact ⟨fun ⟨six, unique, ids, next, fresh, proposals, store⟩ =>
      ⟨⟨six, unique, ids, next, fresh, proposals⟩, retains.2 store⟩,
    fun ⟨⟨six, unique, ids, next, fresh, proposals⟩, store⟩ =>
      ⟨six, unique, ids, next, fresh, proposals, retains.1 store⟩⟩

theorem State.tableLegal.control (h : s.tableLegal) : s.control.Legal := (State.tableLegal_iff.1 h).1

theorem State.tableLegal.retains (h : s.tableLegal) : s.RetainsIds := (State.tableLegal_iff.1 h).2

/-- A change of change control alone. -/
theorem State.tableLegal.of_control (h : s.tableLegal) (hc : t.control.Legal) (hs : t.store = s.store) : t.tableLegal :=
  State.tableLegal_iff.2 ⟨hc, h.retains.of_eq hs⟩

/-- A change of the store alone. -/
theorem State.tableLegal.of_retains (h : s.tableLegal) (hc : t.control = s.control) (hr : t.RetainsIds) : t.tableLegal :=
  State.tableLegal_iff.2 ⟨hc ▸ h.control, hr⟩

theorem State.tableLegal.of_eq (h : s.tableLegal) (hc : t.control = s.control) (hs : t.store = s.store) : t.tableLegal :=
  h.of_retains hc (h.retains.of_eq hs)

theorem State.tableLegal.raise (h : s.tableLegal) (c : EventClass) : (s.raise c).tableLegal := h.of_eq rfl rfl

theorem State.tableLegal.setChannel (h : s.tableLegal) (r : Run) (c : Channel) : (s.setChannel r c).tableLegal :=
  h.of_eq rfl rfl

/-- The checkpoint of an event holds the counter's id (R132, R184). -/
theorem State.tableLegal.captured (h : s.tableLegal) : legalId s.captureCheckpoint.nextId := h.control.next

/-! ### A posting (R132, R134, R135) -/

theorem takesSlot.lt_length {slot : Nat} (h : takesSlot s slot) : slot < s.control.slots.length := by
  obtain ⟨unused, -⟩ | ⟨-, x, held, -⟩ := h
  · exact (List.getElem?_eq_some_iff.1 unused).1
  · exact (List.getElem?_eq_some_iff.1 held).1

theorem State.tableLegal.postedControl (h : s.tableLegal) {slot : Nat} (takes : takesSlot s slot) (c : Change)
    {o : Originator} {d : Bool} (hd : d = true → o = .prover) : (s.postedControl slot (s.newProposal c o d)).Legal := by
  obtain ⟨six, unique, ids, next, fresh, proposals⟩ := h.control
  obtain ⟨-, -, -, unused, k, -, counter, -⟩ :=
    h.posts (t := s.setControl (s.postedControl slot (s.newProposal c o d))) takes rfl
  obtain ⟨rest, joined, held⟩ :=
    ChangeControl.ids_set takes.lt_length (d := s.postedControl slot (s.newProposal c o d)) (s.newProposal c o d) rfl
  refine ⟨List.length_set.trans six, ?_, fun i hi => ?_, ?_, unused, fun p hp => ?_⟩
  · exact joined.nodup_iff.2 (List.nodup_cons.2 ⟨fun again => fresh (held.subset again), unique.sublist held⟩)
  · rcases List.mem_cons.1 (joined.mem_iff.1 hi) with rfl | hi
    · exact next
    · exact ids i (held.subset hi)
  · exact counter ▸ idAfter_legal s.control.nextId k
  · rcases List.mem_or_eq_of_mem_set hp with hp | hp
    · exact proposals p hp
    · cases hp; exact Proposal.newProposal_legal s c hd

theorem State.tableLegal.postProposal (h : s.tableLegal) {c : Change} {o : Originator} {d : Bool} {id slot : Nat}
    (hd : d = true → o = .prover) (e : s.postProposal c o d = some (t, id, slot)) : t.tableLegal := by
  have room : ¬ s.tableFull := fun full => by rw [State.postProposal_eq_none.2 full] at e; cases e
  obtain ⟨slot, takes, posted⟩ := State.postProposal_of_room c o d room
  cases posted.symm.trans e
  exact h.of_control (h.postedControl takes c hd) rfl

theorem State.tableLegal.propose (h : s.tableLegal) (p : Port) (args : List Byte) : (s.propose p args).1.tableLegal := by
  unfold State.propose
  split
  · exact h
  · split
    · exact h
    · rename_i e; exact h.postProposal (d := false) nofun e

/-! ### Ends without a verdict, and REJECT (R138, R142 to R144) -/

theorem State.tableLegal.reject (h : s.tableLegal) {p : Port} (custody : p ≠ .sup) (id : Nat) :
    (s.reject p id).1.tableLegal := by
  unfold State.reject
  split
  · exact h
  · rename_i slot x checked
    obtain ⟨held, -⟩ := State.checkVerdict_ok checked
    refine h.of_control (h.control.set held ?_ ?_ rfl rfl) rfl
    · exact x.setVerdict_id .reject p
    · exact (h.control.proposals x (List.mem_of_getElem? held)).reject custody s.uptime

theorem State.tableLegal.withdraw (h : s.tableLegal) (p : Port) (id : Nat) : (s.withdraw p id).1.tableLegal := by
  unfold State.withdraw
  split
  · exact h
  · rename_i slot x found
    obtain ⟨held, -⟩ := ChangeControl.find_some found
    split
    · exact h
    · split
      · exact h
      · have ended := (h.control.proposals x (List.mem_of_getElem? held)).endAs s.uptime (.inr (.inl rfl))
        exact h.of_control (h.control.set held (show (x.endAs .withdrawn s.uptime).id = x.id from rfl) ended rfl rfl) rfl

/-- A proposal that is OPEN and aged 900 s or more expires, and every other slot stays as it is (R144). -/
theorem expireSlot_cases (now : Seconds) (slot : Option Proposal) :
    (expireSlot now slot = slot) ∨ ∃ p, slot = some p ∧ p.expiresAt now = true ∧
      expireSlot now slot = some (p.endAs .expired now) := by
  cases slot with
  | none => exact .inl rfl
  | some p =>
    cases expires : p.expiresAt now
    · exact .inl (by simp [expireSlot, expires])
    · exact .inr ⟨p, rfl, expires, by simp [expireSlot, expires]⟩

theorem execProposalExpiry_tableLegal (h : s.tableLegal) (e : execProposalExpiry s = .next t) : t.tableLegal := by
  cases e
  refine h.of_control (h.control.map (f := expireSlot s.uptime) (fun x => ?_) (by simp) (by simp)) (by simp)
  obtain e | ⟨p, rfl, -, e⟩ := expireSlot_cases s.uptime x
  · exact .inl e
  · exact .inr ⟨p, _, rfl, e, rfl, fun legal => legal.endAs _ (.inl rfl)⟩

/-! ### CONCUR (R137, R139 to R143) -/

/-- No owner of a change changes the table (R140). -/
@[simp] theorem State.applyChange_control (c : Change) (s : State) : (s.applyChange c).1.control = s.control := by
  cases c with
  | kFactor r kx => simp only [State.applyChange, State.ownKFactor]; split <;> simp
  | mfPoint r f m => simp only [State.applyChange, State.ownCurve]; split <;> simp
  | mfPointDelete r f => simp only [State.applyChange, State.ownCurve]; split <;> simp
  | proverVolume bv => simp [State.applyChange, State.ownProverVolume]
  | samplerSetup g size cap => simp [State.applyChange]

theorem State.tableLegal.requestParameters (h : s.tableLegal) : s.requestParameters.tableLegal :=
  h.of_retains (by simp) (State.Retains.requestParameters h.retains h.captured)

theorem supersedeSlot_cases (x : Proposal) (now : Seconds) (slot : Option Proposal) :
    supersedeSlot x now slot = slot ∨ ∃ p, slot = some p ∧
      supersedeSlot x now slot = some (p.endAs (.superseded x.id) now) := by
  unfold supersedeSlot
  split
  · cases slot with
    | none => exact .inl rfl
    | some p => exact .inr ⟨p, rfl, rfl⟩
  · exact .inl rfl

theorem State.tableLegal.supersede (h : s.tableLegal) (x : Proposal) (n : Nat) : (State.raiseTimes .proposal n
    (s.setControl { s.control with slots := s.control.slots.map (supersedeSlot x s.uptime) })).tableLegal := by
  refine h.of_control (h.control.map (f := supersedeSlot x s.uptime) (fun slot => ?_) (by simp) (by simp)) (by simp)
  obtain e | ⟨p, rfl, e⟩ := supersedeSlot_cases x s.uptime slot
  · exact .inl e
  · exact .inr ⟨p, _, rfl, e, rfl, fun legal => legal.endAs _ (.inr (.inr ⟨_, rfl⟩))⟩

/-- A proposal put into its slot with both verdicts CONCUR, and applied, leaves a legal table (R139 to R143). -/
theorem State.tableLegal.applyProposal (h : s.tableLegal) {slot : Nat} {x y : Proposal}
    (held : s.control.slots[slot]? = some (some x)) (same : y.id = x.id)
    (deviation : y.largeDeviation = true → y.originator = .prover)
    (both : y.oprVerdict = .concur ∧ y.witVerdict = .concur) :
    ((s.putProposal slot y).applyProposal slot y).tableLegal := by
  have ended {u : State} {state : ProposalState} (ends : (∃ n, state = .applied n) ∨ ∃ r, state = .failed r)
      (hs : u.store = s.store) (hn : u.control.nextId = s.control.nextId)
      (hu : u.control.slots = s.control.slots.set slot (some y)) (now : Seconds) :
      (u.putProposal slot (y.endAs state now)).tableLegal := by
    have legal := Proposal.legal.applied deviation both now ends
    refine h.of_control (h.control.set (y := y.endAs state now) held same legal ?_ hn) hs
    show u.control.slots.set slot _ = _
    rw [hu, List.set_set]
  have owned : ((s.putProposal slot y).applyChange y.change).1.control = (s.putProposal slot y).control := by simp
  have stored : ((s.putProposal slot y).applyChange y.change).1.store = s.store := State.applyChange_store ..
  unfold State.applyProposal
  dsimp only
  split
  · rename_i reason _
    have failed := ended (.inr ⟨reason, rfl⟩) stored (by rw [owned]; rfl) (by rw [owned]; rfl)
    exact (failed _).of_eq rfl rfl
  · have counted {u : State} (hs : u.store = s.store) (hc : u.control = (s.putProposal slot y).control) (n : Nat) :=
      ended (u := u.setControl u.control.countChange) (.inl ⟨n, rfl⟩) hs (by simp [hc, ChangeControl.countChange]; rfl)
        (by simp [hc, ChangeControl.countChange]; rfl)
    exact State.tableLegal.supersede (State.tableLegal.requestParameters (counted stored owned _ _)) y _

theorem State.tableLegal.concur (h : s.tableLegal) (p : Port) (id : Nat) : (s.concur p id).1.tableLegal := by
  unfold State.concur
  split
  · exact h
  · rename_i slot x checked
    obtain ⟨held, -, opened, -⟩ := State.checkVerdict_ok checked
    have legal := h.control.proposals x (List.mem_of_getElem? held)
    have same := x.setVerdict_id .concur p
    dsimp only
    split
    · rename_i both
      refine h.applyProposal held same ?_ both
      obtain ⟨deviation, -⟩ := legal
      cases p <;> exact deviation
    · rename_i one
      exact h.of_control (h.control.set held same (legal.concur opened p one) rfl rfl) rfl

/-! ### Proving (R124 to R126) -/

theorem State.tableLegal.offerResult (h : s.tableLegal) (r : Run) (x : ProvingResult) :
    (s.offerResult r x).1.tableLegal := by
  unfold State.offerResult
  split
  · exact h
  · dsimp only
    split
    · exact h
    · rename_i e; exact (h.postProposal (fun _ => rfl) e).of_eq rfl rfl

theorem State.tableLegal.endSession (h : s.tableLegal) (e : SessionState) (a : AbortReason) (m f : Nat) :
    (s.endSession e a m f).tableLegal := by
  have ended (x : Session) (r : Run) (y : ProvingResult) : ((s.setSession x).setResult r y).tableLegal := h.of_eq rfl rfl
  have reported {u : State} (hu : u.tableLegal) (r : Run) :
      (if e = .resultPass then u.reportProved r else u).tableLegal := by
    split
    · exact hu.of_eq (by simp) (by simp)
    · exact hu
  unfold State.endSession
  dsimp only
  split
  · exact h
  · refine State.tableLegal.raise ?_ _
    split
    · exact State.tableLegal.offerResult (reported (ended _ _ _) _) _ _
    · exact reported (ended _ _ _) _

theorem State.tableLegal.testSession (h : s.tableLegal) (valid : Bool) : (s.testSession valid).tableLegal := by
  have session (x : Session) : (s.setSession x).tableLegal := h
  unfold State.testSession
  dsimp only
  split
  · split
    · exact (session _).endSession _ _ _ _
    · split
      · exact (session _).endSession _ _ _ _
      · exact session _
  · split
    · exact h.endSession _ _ _ _
    · exact h

theorem State.tableLegal.recordPass (h : s.tableLegal) (y : PassRecord) : (s.recordPass y).tableLegal := by
  have joined (x : Session) : ((s.setSession x).raise .proving).tableLegal := h.of_eq rfl rfl
  exact (joined _).testSession _

theorem State.tableLegal.pulseInWaitStop (h : s.tableLegal) (r : Run) (stamp : Tick) :
    (s.pulseInWaitStop r stamp).tableLegal := by
  have waits (y : PassRecord) : (s.recordPass y).awaitDet1.tableLegal := (h.recordPass y).of_eq (by simp) (by simp)
  unfold State.pulseInWaitStop
  dsimp only
  split
  · split
    · exact waits _
    · exact h
  · split
    · exact h
    · split
      · exact h
      · exact waits _

theorem State.tableLegal.proverCycle (h : s.tableLegal) (r : Run) (cls : CycleClass) (d : Option Direction)
    (stamp : Tick) : (s.proverCycle r cls d stamp).tableLegal := by
  have marked : (s.setPass (s.prover.session.pass.mark cls d)).tableLegal := h
  unfold State.proverCycle
  dsimp only
  split
  · split
    · split
      · exact marked.of_eq (by simp) (by simp)
      · exact marked
    · split
      · exact marked.pulseInWaitStop _ _
      · exact marked
    · exact h
  · exact h

theorem State.tableLegal.detectorEvent (h : s.tableLegal) (d : Detector) (tick : Tick) :
    (s.detectorEvent d tick).tableLegal := by
  unfold State.detectorEvent
  dsimp only
  split
  case h_5 | h_6 =>
    split
    · exact (h.recordPass _).of_eq rfl rfl
    · exact h.recordPass _
  all_goals exact h

theorem execDetectorEvent_tableLegal {d : Detector} {tick : Tick} (h : s.tableLegal)
    (e : execDetectorEvent d tick s = .next t) : t.tableLegal := by
  have seen (l : Lines) (x : DetectorInput) : ((s.setLines l).setDetector d x).tableLegal := by cases d <;> exact h
  unfold execDetectorEvent at e
  dsimp only at e
  split at e <;> cases e
  · exact seen _ _
  · exact (seen _ _).detectorEvent _ _

theorem execPassTimeout_tableLegal {tD1 : Tick} (h : s.tableLegal) (e : execPassTimeout tD1 s = .next t) :
    t.tableLegal := by
  unfold execPassTimeout at e
  dsimp only at e
  split at e <;> cases e
  · have recorded := h.recordPass (s.prover.session.partialRecord .timeout)
    exact recorded.of_eq (by simp) (by simp)
  · exact h

theorem State.tableLegal.provePost (h : s.tableLegal) (n : Nat) : (s.provePost n).1.tableLegal := by
  unfold State.provePost
  split
  · exact h
  · rename_i r _
    split
    · exact h
    · rename_i x _
      split
      · exact h
      · have offered := h.offerResult r x
        split
        · exact h
        · exact h
        · rename_i e; rwa [e] at offered

/-! ### The pulse front end, and a batch's close (R76 to R80) -/

theorem State.tableLegal.countCycle (h : s.tableLegal) (r : Run) (cls : CycleClass) (stamp : Tick) :
    (s.countCycle r cls stamp).tableLegal := by
  unfold State.countCycle
  dsimp only
  split
  · exact h
  · split
    · exact h.of_eq (by simp) (by simp)
    · exact State.tableLegal.proverCycle (h.of_eq (by simp) (by simp)) _ _ _ _

theorem execEdgeEvent_tableLegal {r : Run} {a b : Bool} {tick : Tick} (h : s.tableLegal)
    (e : execEdgeEvent r a b tick s = .next t) : t.tableLegal := by
  have walked (l : Lines) (c : Channel) : ((s.setLines l).setChannel r c).tableLegal := h
  unfold execEdgeEvent at e
  dsimp only at e
  split at e
  · cases e; exact h
  · split at e <;> cases e
    · exact walked _ _
    · exact (walked _ _).countCycle _ _ _

theorem State.tableLegal.closeBatch (h : s.tableLegal) (cause : CloseCause) (overshoot : Nat) (b : OpenBatch) :
    (s.closeBatch cause overshoot b).tableLegal := by
  have appended (r : BatchRecord) : legalId (s.afterAppend r).captureCheckpoint.nextId := by
    show legalId (s.afterAppend r).control.nextId
    rw [show (s.afterAppend r).control = s.control by simp [State.afterAppend]]
    exact h.control.next
  exact h.of_retains (by simp) (State.Retains.closeBatch h.retains (appended _) trivial)

theorem State.tableLegal.computeWindow (h : s.tableLegal) (r : Run) (f : Nat) (w : WindowCounts) :
    (s.computeWindow r f w).tableLegal := by
  have tested {u : State} (hu : u.tableLegal) (b : OpenBatch) : (u.testTargets b).tableLegal := by
    have still_open : (u.afterPreTarget b).tableLegal :=
      hu.of_eq (by simp [State.afterPreTarget]) (by simp [State.afterPreTarget])
    obtain ⟨-, e⟩ | ⟨-, e⟩ := u.testTargets_cases b <;> rw [e]
    · have closed := still_open.closeBatch .target (b.markPreTarget.runningGross - b.markPreTarget.plan.target)
        b.markPreTarget
      exact closed.of_eq (by simp) (by simp)
    · exact still_open
  have totals : (s.afterTotals r f w.pulses).tableLegal :=
    h.of_eq (by simp [State.afterTotals]) (by simp [State.afterTotals])
  rw [State.computeWindow_eq]
  unfold State.routeWindow State.batchWindow
  split
  · exact tested (totals.of_eq (by simp) (by simp)) _
  · exact totals.of_eq rfl rfl

@[simp] theorem State.setRunState_control (s : State) (r : Run) (x : RunState) : (s.setRunState r x).control = s.control := by
  obtain ⟨-, e⟩ | ⟨-, -, -, e⟩ | ⟨-, -, e⟩ := s.setRunState_cases r x <;> rw [e] <;> simp

theorem State.tableLegal.setRunState (h : s.tableLegal) (r : Run) (x : RunState) : (s.setRunState r x).tableLegal :=
  h.of_eq (by simp) (by simp)

theorem execWindowExpiry_tableLegal {r : Run} (h : s.tableLegal) (e : execWindowExpiry r s = .next t) :
    t.tableLegal := by
  unfold execWindowExpiry at e
  dsimp only at e
  split at e
  · cases e; exact h.setChannel _ _
  · split at e <;> cases e
    · exact h.setChannel _ _
    · exact (((h.setChannel _ _).setChannel _ _).setRunState _ _).computeWindow _ _ _

theorem State.tableLegal.runEnable (h : s.tableLegal) (n on : Nat) : (s.runEnable n on).1.tableLegal := by
  unfold State.runEnable
  split
  · exact h
  · split
    · unfold State.disableRun
      dsimp only
      split
      · exact h
      · exact (((h.setChannel _ _).computeWindow _ _ _).setRunState _ _).setChannel _ _
    · unfold State.enableRun
      dsimp only
      split
      · exact h
      · split
        · exact h
        · exact (h.setChannel _ _).setRunState _ _
    · exact h

theorem State.tableLegal.batchOpen (h : s.tableLegal) : s.batchOpen.1.tableLegal := by
  unfold State.batchOpen
  split
  · exact h
  · split
    · exact h
    · split
      · exact h
      · exact h.of_eq (by simp) (by simp)

theorem State.tableLegal.batchClose (h : s.tableLegal) : s.batchClose.1.tableLegal := by
  unfold State.batchClose
  split
  · exact h
  · exact h.closeBatch _ _ _

/-! ### Reset and the restore (R132, R183, R190) -/

theorem execReset_tableLegal (h : s.tableLegal) (e : execReset s = .next t) : t.tableLegal := by
  cases e
  exact State.tableLegal_iff.2 ⟨State.reset_tableLegal.control, h.retains.store.restart, fun _ _ => trivial⟩

/-- A restored table is empty, and its counter is a checkpoint's or starts at 1 (R132, R190). -/
theorem State.tableLegal.takeRestored (h : s.tableLegal) : (s.takeRestored s.store.found).control.Legal := by
  obtain ⟨six, unique, -, -, -, proposals⟩ := State.reset_tableLegal.control
  refine ⟨six, unique, nofun, ?_, List.not_mem_nil, proposals⟩
  show legalId ((s.store.found.checkpoint.map CheckpointArea.nextId).getD 1)
  cases found : s.store.found.checkpoint with
  | none => exact ⟨Nat.le_refl 1, by decide⟩
  | some a => exact State.Retains.store h.retains |>.found_checkpoint found

theorem execRestoreComplete_tableLegal (h : s.tableLegal) (e : execRestoreComplete s = .next t) : t.tableLegal := by
  unfold execRestoreComplete at e
  split at e <;> cases e
  · have announced : s.announced.control.Legal := by
      rw [State.announced_frame]; exact h.takeRestored
    have control : s.completeRestore.control = s.announced.control := by
      rw [State.completeRestore_eq]; dsimp only; split <;> split <;> simp
    exact State.tableLegal_iff.2 ⟨control ▸ announced, State.Retains.completeRestore h.retains announced.next⟩
  · exact h

/-! ### Commands that leave change control -/

/-- Whether a command may change the proposal table, its counter or the custody change count. -/
def touchesControl : Instr → Bool
  | .reset | .restoreComplete | .edgeEvent .. | .proposalExpiry | .detectorEvent .. | .passTimeout .. | .provePost ..
  | .propose .. | .concur .. | .reject .. | .withdraw .. => true
  | _ => false

theorem takeRequest_control {p : Port} {row : CatalogueRow} {args : List Byte} {body : State → State × Answer}
    (h : (body s).1.control = s.control) : (takeRequest p row args body s).control = s.control :=
  takeRequest_induction (I := fun u => u.control = s.control) rfl h fun _ _ _ _ k => k

/-- Every other command that leaves the figures of the measurement leaves change control. -/
theorem exec_control {i : Instr} (figures : touchesFigures i = false) (hi : touchesControl i = false)
    (e : exec i s = .next t) : t.control = s.control := by
  cases i
  case proposalExpiry | detectorEvent | passTimeout | provePost | propose | reject | withdraw => cases hi
  case reset | restoreComplete | edgeEvent | integrityBlockEnd | windowExpiry | periodicCheckpoint | jobComplete
    | powerFailWarning | powerFailClear | runEnable | runEnableOff | setCutoff | setIntegrityLimit | batchOpen | batchClose
    | concur => cases figures
  case noDetector =>
    simp only [exec, execNoDetector] at e
    split at e <;> cases e <;> simp
  case pulseEnd =>
    simp only [exec, execPulseEnd] at e
    split at e <;> cases e <;> rfl
  case gapEnd =>
    simp only [exec, execGapEnd] at e
    split at e
    · split at e <;> cases e <;> simp
    · cases e; rfl
  case rcvhiChange =>
    simp only [exec, execRcvhiChange] at e
    split at e <;> cases e <;> simp
  case transactionBegin =>
    simp only [exec, execTransactionBegin] at e
    split at e <;> cases e <;> rfl
  case sckEdge =>
    simp only [exec, execSckEdge] at e
    split at e <;> cases e <;> rfl
  case oneSecondEvent | frameError | unknownRequest => cases e; rfl
  all_goals cases e; refine takeRequest_control ?_
  case nop | identify | readTime | readEvents | topEvent | readSampler | setThreshold | setTime | planClear => rfl
  case clearEvents => unfold State.clearEvents; split <;> rfl
  case setLevel => unfold State.setLevel; split <;> rfl
  case samplerHold => unfold State.samplerHold; split <;> rfl
  case samplerOutput => unfold State.samplerOutput; split <;> rfl
  case receiverSwap => unfold State.receiverSwap; split <;> simp [refused]
  case readRun => rw [State.readRun_fst]
  case readTotals => rw [State.readTotals_fst]
  case readCurve => rw [State.readCurve_fst]
  case readBatch => rw [State.readBatch_fst]
  case readQueue => rw [State.readQueue_fst]
  case readProving => rw [State.readProving_fst]
  case readPass => rw [State.readPass_fst]
  case readProposal => rw [State.readProposal_fst]
  case planAdd => unfold State.planAdd; split; rfl; split; rfl; split <;> rfl
  case planRemove => unfold State.planRemove; split; rfl; split <;> rfl
  case proveStart => unfold State.proveStart; split; rfl; split; rfl; split; rfl; split <;> rfl
  case proveAbort => unfold State.proveAbort; split <;> simp [refused]
  case readRecord => obtain e | ⟨v, e⟩ := s.readRecord_fst_cases _ _ _ _ <;> exact (congrArg State.control e).trans rfl
  case findParcel => obtain e | ⟨x, -, e⟩ := s.findParcel_fst_cases _ _ _ _ <;> exact (congrArg State.control e).trans rfl
  case setCursor => obtain ⟨u, rfl | ⟨v, rfl⟩, e⟩ := s.moveCursor_fst_cases _ _ <;> exact (congrArg State.control e).trans rfl

/-! ### Every step -/

theorem State.tableLegal.request (h : s.tableLegal) {p : Port} {row : CatalogueRow} {args : List Byte}
    {body : State → State × Answer} (hb : row.ports.has p = true → (body s).1.tableLegal) :
    (takeRequest p row args body s).tableLegal := by
  obtain ⟨-, e⟩ | ⟨-, -, e⟩ | ⟨-, -, -, e⟩ | ⟨-, permitted, -, e⟩ := takeRequest_cases p row args body s <;> rw [e]
  · exact h
  · exact h
  · exact h
  · exact hb permitted

theorem State.tableLegal.tickClock (h : s.tableLegal) : s.tickClock.tableLegal := by
  unfold State.tickClock
  split <;> exact h

/-- The commands of change control and of proving that leave the measurement and the store. -/
theorem State.tableLegal.exec_of_sameFigures {i : Instr} (h : s.tableLegal) (figures : touchesFigures i = false)
    (e : exec i s = .next t) : t.tableLegal := by
  by_cases hi : touchesControl i = false
  · exact h.of_eq (exec_control figures hi e) (exec_sameFigures figures e).store
  · cases i <;> try exact absurd rfl hi
    case reset | restoreComplete | edgeEvent | concur => cases figures
    case proposalExpiry => exact execProposalExpiry_tableLegal h e
    case detectorEvent => exact execDetectorEvent_tableLegal h e
    case passTimeout => exact execPassTimeout_tableLegal h e
    case provePost => cases e; exact h.request fun _ => h.provePost _
    case propose => cases e; exact h.request fun _ => h.propose _ _
    case reject => cases e; exact h.request fun custody => h.reject (bne_iff_ne.1 custody) _
    case withdraw => cases e; exact h.request fun _ => h.withdraw _ _

theorem State.tableLegal.exec {i : Instr} (h : s.tableLegal) (e : exec i s = .next t) : t.tableLegal := by
  by_cases figures : touchesFigures i = false
  · exact h.exec_of_sameFigures figures e
  · cases i <;> try exact absurd rfl figures
    case reset => exact execReset_tableLegal h e
    case restoreComplete => exact execRestoreComplete_tableLegal h e
    case edgeEvent => exact execEdgeEvent_tableLegal h e
    case integrityBlockEnd =>
      simp only [Machine.exec, execIntegrityBlockEnd] at e
      split at e <;> cases e <;> exact h.of_eq (by simp) (by simp)
    case windowExpiry => exact execWindowExpiry_tableLegal h e
    case periodicCheckpoint =>
      have retains := State.Retains.periodicCheckpoint h.retains h.captured e
      simp only [Machine.exec, execPeriodicCheckpoint] at e
      split at e <;> cases e <;> exact h.of_retains (by simp) retains
    case jobComplete =>
      have retains := State.Retains.jobComplete h.retains h.captured e
      simp only [Machine.exec, execJobComplete] at e
      split at e <;> cases e <;> exact h.of_retains (by simp) retains
    case powerFailWarning =>
      have retains := State.Retains.powerFailWarning h.retains h.captured e
      simp only [Machine.exec, execPowerFailWarning] at e
      split at e <;> cases e <;> exact h.of_retains (by simp) retains
    case powerFailClear =>
      have retains := State.Retains.powerFailClear h.retains h.captured e
      simp only [Machine.exec, execPowerFailClear] at e
      split at e
      · split at e <;> cases e <;> exact h.of_retains (by simp) retains
      · cases e; exact h
    case runEnable | runEnableOff => cases e; exact h.request fun _ => h.runEnable _ _
    case setCutoff => cases e; refine h.request fun _ => ?_; unfold State.setCutoff; split <;> exact h
    case setIntegrityLimit => cases e; refine h.request fun _ => ?_; unfold State.setIntegrityLimit; split <;> exact h
    case batchOpen => cases e; exact h.request fun _ => h.batchOpen
    case batchClose => cases e; exact h.request fun _ => h.batchClose
    case concur => cases e; exact h.request fun _ => h.concur _ _

/-- Settles O13: a posting takes the counter's id, which the table does not hold, and moves the counter to a free one; every other
change of a record keeps its id; only CONCUR with the other verdict CONCUR applies a proposal; and a restore empties the table. -/
theorem stepKeepsProposalTable : Obligations.StepKeepsProposalTable := fun s _ h e =>
  step_induction (State.tableLegal.tickClock h) (fun _ l => State.tableLegal.exec (s := { s with pending := l }) h) e

end

end Sys2Proof.Machine
end

section
/-! PROOFS. The argument bytes of PROPOSE (R129, R133): they spell a change within its ranges, or none. -/

namespace Sys2Proof.Machine

/-! ### Bytes and numbers (R166) -/

/-- A field between others is the number that its own bytes spell (R164). -/
theorem argument_field (front bytes back : List Byte) {offset size : Nat} (ho : front.length = offset)
    (hs : bytes.length = size) : argument (front ++ (bytes ++ back)) offset size = numberOf bytes := by
  rw [argument, ← ho, ← hs, List.drop_left, List.take_left]

/-- A figure that fits is read back from its bytes (R166). -/
theorem argument_bytesOf (front back : List Byte) {offset size v : Nat} (ho : front.length = offset)
    (hv : v < 256 ^ size) : argument (front ++ (bytesOf size v ++ back)) offset size = v := by
  rw [argument_field front _ back ho (bytesOf_length size v), numberOf_bytesOf, Nat.mod_eq_of_lt hv]

theorem byte_eq_of_toNat {x : Byte} {n : Nat} (h : x.toNat = n) : x = byteOf n := by
  rw [← h, byteOf, BitVec.ofNat_toNat, BitVec.setWidth_eq]

theorem runByte_of_runOfNumber {x : Byte} {r : Run} (h : runOfNumber x.toNat = some r) : x = runByte r := by
  refine byte_eq_of_toNat ?_
  unfold runOfNumber at h
  split at h
  case h_5 => cases h
  all_goals cases h; assumption

/-! ### What is read from the arguments, kind by kind (R129, R133) -/

theorem kindLength_eq_some {k n : Nat} (h : kindLength k = some n) :
    (k = 0 ∧ n = 6) ∨ (k = 1 ∧ n = 8) ∨ (k = 2 ∧ n = 4) ∨ (k = 3 ∧ n = 5) ∨ (k = 4 ∧ n = 10) := by
  unfold kindLength at h
  split at h <;> cases h <;> simp

theorem changeOfArguments_of_length {args : List Byte} (h : kindLength (argument args 0 1) ≠ some args.length) :
    changeOfArguments args = none := if_pos (.inr h)

section
variable {args : List Byte} {k n : Nat} (kind : argument args 0 1 = k) (size : args.length = n)
include kind size

/-- The check that PROPOSE makes of the kind and the number of bytes is passed (R133). -/
theorem changeOfArguments_passes (h : kindLength k = some n) :
    ¬(args = [] ∨ kindLength (argument args 0 1) ≠ some args.length) := by
  rw [kind, size, h]
  rintro (rfl | other)
  · cases size
    obtain ⟨-, e⟩ | ⟨-, e⟩ | ⟨-, e⟩ | ⟨-, e⟩ | ⟨-, e⟩ := kindLength_eq_some h <;> cases e
  · exact other rfl

end

section
variable {args : List Byte}

theorem changeOfArguments_kFactor (kind : argument args 0 1 = 0) (size : args.length = 6) : changeOfArguments args =
    if within 1000 99999999 (argument args 2 4) then
      (runOfNumber (argument args 1 1)).map (Change.kFactor · (argument args 2 4)) else none := by
  unfold changeOfArguments
  rw [if_neg (changeOfArguments_passes kind size rfl), kind]
  rfl

theorem changeOfArguments_mfPoint (kind : argument args 0 1 = 1) (size : args.length = 8) : changeOfArguments args =
    if within 1 50000 (argument args 2 2) && within 900000 1100000 (argument args 4 4) then
      (runOfNumber (argument args 1 1)).map (Change.mfPoint · (argument args 2 2) (argument args 4 4)) else none := by
  unfold changeOfArguments
  rw [if_neg (changeOfArguments_passes kind size rfl), kind]
  rfl

theorem changeOfArguments_mfPointDelete (kind : argument args 0 1 = 2) (size : args.length = 4) :
    changeOfArguments args = if within 1 50000 (argument args 2 2) then
      (runOfNumber (argument args 1 1)).map (Change.mfPointDelete · (argument args 2 2)) else none := by
  unfold changeOfArguments
  rw [if_neg (changeOfArguments_passes kind size rfl), kind]
  rfl

theorem changeOfArguments_proverVolume (kind : argument args 0 1 = 3) (size : args.length = 5) :
    changeOfArguments args = if within 20000 5000000 (argument args 1 4) then
      some (.proverVolume (argument args 1 4)) else none := by
  unfold changeOfArguments
  rw [if_neg (changeOfArguments_passes kind size rfl), kind]
  rfl

theorem changeOfArguments_samplerSetup (kind : argument args 0 1 = 4) (size : args.length = 10) :
    changeOfArguments args =
      if within 1 1000000 (argument args 1 4) && within 1 100 (argument args 5 1) &&
        within 100 100000 (argument args 6 4) && decide (argument args 5 1 ≤ argument args 6 4) then
      some (.samplerSetup (argument args 1 4) (argument args 5 1) (argument args 6 4)) else none := by
  unfold changeOfArguments
  rw [if_neg (changeOfArguments_passes kind size rfl), kind]
  rfl

end

/-! ### The bytes of a change are its only spelling (R129, R133) -/

/-- A change within its ranges is read back from its bytes. -/
theorem changeOfArguments_proposeBytes {c : Change} (legal : c.legal) : changeOfArguments (proposeBytes c) = some c := by
  cases c with
  | kFactor r kx =>
    obtain ⟨low, high⟩ := legal
    have factor : argument (proposeBytes (.kFactor r kx)) 2 4 = kx := by
      simpa [proposeBytes] using argument_bytesOf [0, runByte r] [] (size := 4) rfl (show kx < 256 ^ 4 by omega)
    have run : argument (proposeBytes (.kFactor r kx)) 1 1 = (runByte r).toNat := numberOf_one _
    rw [changeOfArguments_kFactor (argument_first _ _) (by simp [proposeBytes]), factor, run, runOfNumber_runByte,
      if_pos (by simp [within, low, high])]
    rfl
  | mfPoint r f m =>
    obtain ⟨f1, f2, m1, m2⟩ := legal
    dsimp only at f1 f2 m1 m2
    have freq : argument (proposeBytes (.mfPoint r f m)) 2 2 = f :=
      argument_bytesOf [1, runByte r] (bytesOf 4 m) (size := 2) rfl (show f < 256 ^ 2 by omega)
    have factor : argument (proposeBytes (.mfPoint r f m)) 4 4 = m := by
      simpa [proposeBytes] using
        argument_bytesOf ([1, runByte r] ++ bytesOf 2 f) [] (size := 4) (by simp) (show m < 256 ^ 4 by omega)
    have run : argument (proposeBytes (.mfPoint r f m)) 1 1 = (runByte r).toNat := numberOf_one _
    rw [changeOfArguments_mfPoint (argument_first _ _) (by simp [proposeBytes]), freq, factor, run, runOfNumber_runByte,
      if_pos (by simp [within, f1, f2, m1, m2])]
    rfl
  | mfPointDelete r f =>
    obtain ⟨low, high⟩ := legal
    have freq : argument (proposeBytes (.mfPointDelete r f)) 2 2 = f := by
      simpa [proposeBytes] using argument_bytesOf [2, runByte r] [] (size := 2) rfl (show f < 256 ^ 2 by omega)
    have run : argument (proposeBytes (.mfPointDelete r f)) 1 1 = (runByte r).toNat := numberOf_one _
    rw [changeOfArguments_mfPointDelete (argument_first _ _) (by simp [proposeBytes]), freq, run, runOfNumber_runByte,
      if_pos (by simp [within, low, high])]
    rfl
  | proverVolume bv =>
    obtain ⟨low, high⟩ := legal
    have volume : argument (proposeBytes (.proverVolume bv)) 1 4 = bv := by
      simpa [proposeBytes] using argument_bytesOf [3] [] (size := 4) rfl (show bv < 256 ^ 4 by omega)
    rw [changeOfArguments_proverVolume (argument_first _ _) (by simp [proposeBytes]), volume,
      if_pos (by simp [within, low, high])]
  | samplerSetup g size c =>
    obtain ⟨g1, g2, s1, s2, c1, c2, fits⟩ := legal
    dsimp only at g1 g2 s1 s2 c1 c2 fits
    have interval : argument (proposeBytes (.samplerSetup g size c)) 1 4 = g := by
      simpa [proposeBytes] using
        argument_bytesOf [4] ([byteOf size] ++ bytesOf 4 c) (size := 4) rfl (show g < 256 ^ 4 by omega)
    have volume : argument (proposeBytes (.samplerSetup g size c)) 5 1 = size := by
      have field := argument_field ([4] ++ bytesOf 4 g) [byteOf size] (bytesOf 4 c) (offset := 5) (by simp) rfl
      rw [numberOf_one, byteOf, BitVec.toNat_ofNat, Nat.mod_eq_of_lt (by omega)] at field
      simpa [proposeBytes, byteOf] using field
    have capacity : argument (proposeBytes (.samplerSetup g size c)) 6 4 = c := by
      simpa [proposeBytes] using
        argument_bytesOf (4 :: (bytesOf 4 g ++ [byteOf size])) [] (offset := 6) (size := 4) (by simp) (show c < 256 ^ 4 by omega)
    rw [changeOfArguments_samplerSetup (argument_first _ _) (by simp [proposeBytes]), interval, volume, capacity,
      if_pos (by simp [within, g1, g2, s1, s2, c1, c2, fits])]

/-- A change that is read from arguments is spelt by them. -/
theorem proposeBytes_of_changeOfArguments {args : List Byte} {c : Change} (h : changeOfArguments args = some c) :
    args = proposeBytes c := by
  have right : kindLength (argument args 0 1) = some args.length := by
    by_contra wrong
    rw [changeOfArguments_of_length wrong] at h
    cases h
  obtain ⟨kind, size⟩ | ⟨kind, size⟩ | ⟨kind, size⟩ | ⟨kind, size⟩ | ⟨kind, size⟩ := kindLength_eq_some right
  · rw [changeOfArguments_kFactor kind size] at h
    obtain ⟨-, h⟩ := Option.ite_none_right_eq_some.1 h
    obtain ⟨r, run, rfl⟩ := Option.map_eq_some_iff.1 h
    match args, size with
    | [k, n, a, b, c, d], _ =>
      rw [show k = 0 from byte_eq_of_toNat ((argument_first k _).symm.trans kind),
        runByte_of_runOfNumber ((congrArg runOfNumber (numberOf_one n).symm).trans run)]
      exact congrArg ([0, runByte r] ++ ·) (bytesOf_numberOf [a, b, c, d]).symm
  · rw [changeOfArguments_mfPoint kind size] at h
    obtain ⟨-, h⟩ := Option.ite_none_right_eq_some.1 h
    obtain ⟨r, run, rfl⟩ := Option.map_eq_some_iff.1 h
    match args, size with
    | [k, n, a, b, c, d, e, f], _ =>
      rw [show k = 1 from byte_eq_of_toNat ((argument_first k _).symm.trans kind),
        runByte_of_runOfNumber ((congrArg runOfNumber (numberOf_one n).symm).trans run)]
      exact congrArg₂ ([1, runByte r] ++ · ++ ·) (bytesOf_numberOf [a, b]).symm (bytesOf_numberOf [c, d, e, f]).symm
  · rw [changeOfArguments_mfPointDelete kind size] at h
    obtain ⟨-, h⟩ := Option.ite_none_right_eq_some.1 h
    obtain ⟨r, run, rfl⟩ := Option.map_eq_some_iff.1 h
    match args, size with
    | [k, n, a, b], _ =>
      rw [show k = 2 from byte_eq_of_toNat ((argument_first k _).symm.trans kind),
        runByte_of_runOfNumber ((congrArg runOfNumber (numberOf_one n).symm).trans run)]
      exact congrArg ([2, runByte r] ++ ·) (bytesOf_numberOf [a, b]).symm
  · rw [changeOfArguments_proverVolume kind size] at h
    obtain ⟨-, h⟩ := Option.ite_none_right_eq_some.1 h
    cases h
    match args, size with
    | [k, a, b, c, d], _ =>
      rw [show k = 3 from byte_eq_of_toNat ((argument_first k _).symm.trans kind)]
      exact congrArg ([3] ++ ·) (bytesOf_numberOf [a, b, c, d]).symm
  · rw [changeOfArguments_samplerSetup kind size] at h
    obtain ⟨-, h⟩ := Option.ite_none_right_eq_some.1 h
    cases h
    match args, size with
    | [k, a, b, c, d, e, f, g, h, i], _ =>
      rw [show k = 4 from byte_eq_of_toNat ((argument_first k _).symm.trans kind),
        proposeBytes, show byteOf (argument [4, a, b, c, d, e, f, g, h, i] 5 1) = e from
          (byte_eq_of_toNat (numberOf_one e).symm).symm]
      exact congrArg₂ ([4] ++ · ++ [e] ++ ·) (bytesOf_numberOf [a, b, c, d]).symm (bytesOf_numberOf [f, g, h, i]).symm

/-- PROPOSE's arguments spell a change exactly when they are the bytes of one within its ranges. -/
theorem changeOfArguments_eq_some_iff {args : List Byte} {c : Change} :
    changeOfArguments args = some c ↔ c.legal ∧ args = proposeBytes c :=
  ⟨fun h => ⟨changeOfArguments_legal h, proposeBytes_of_changeOfArguments h⟩,
    fun ⟨legal, e⟩ => e ▸ changeOfArguments_proposeBytes legal⟩

theorem changeOfArguments_eq_none {args : List Byte} (h : ∀ c : Change, c.legal → args ≠ proposeBytes c) :
    changeOfArguments args = none :=
  Option.eq_none_iff_forall_ne_some.2 fun c e =>
    have ⟨legal, spelt⟩ := changeOfArguments_eq_some_iff.1 e
    h c legal spelt

end Sys2Proof.Machine
end

section
/-! PROOFS. PROPOSE, CONCUR, REJECT, WITHDRAW and the expiry (R129 to R138, R142, R144), and the settled statement. -/

namespace Sys2Proof.Machine

section
variable {s : State} {p : Port} {slot : Nat} {x : Proposal}

/-! ### PROPOSE (R133 to R135) -/

theorem State.propose_badArgument {args : List Byte} (h : ∀ c : Change, c.legal → args ≠ proposeBytes c) :
    s.propose p args = refused .badArgument s := by
  rw [State.propose, changeOfArguments_eq_none h]

theorem State.propose_full {c : Change} (legal : c.legal) (full : s.tableFull) :
    s.propose p (proposeBytes c) = refused .full s := by
  simp only [State.propose, changeOfArguments_proposeBytes legal, State.postProposal_eq_none.2 full]

theorem State.propose_posted {c : Change} (legal : c.legal) {t : State} {id : Nat}
    (posted : s.postProposal c (portOriginator p) false = some (t, id, slot)) :
    s.propose p (proposeBytes c) = (t, .okWith (field 2 id ++ field 1 slot)) := by
  simp only [State.propose, changeOfArguments_proposeBytes legal, posted]

/-! ### The checks of CONCUR and REJECT, in their order (R137, R138) -/

theorem State.checkVerdict_notFound {id : Nat} (absent : id ∉ s.control.ids) :
    s.checkVerdict p id = .error .notFound := by
  rw [State.checkVerdict, ChangeControl.find_eq_none.2 absent]

section
variable (found : s.control.find x.id = some (slot, x))
include found

theorem State.checkVerdict_wrongState (ended : x.state ≠ .opened) : s.checkVerdict p x.id = .error .wrongState := by
  simp [State.checkVerdict, found, Proposal.isOpen, ended]

theorem State.checkVerdict_decided (opened : x.state = .opened) (decided : x.verdictOf p ≠ .none) :
    s.checkVerdict p x.id = .error .decided := by
  simp [State.checkVerdict, found, Proposal.isOpen, opened, decided]

theorem State.checkVerdict_undecided (opened : x.state = .opened) (undecided : x.verdictOf p = .none) :
    s.checkVerdict p x.id = .ok (slot, x) := by
  simp [State.checkVerdict, found, Proposal.isOpen, opened, undecided]

end

theorem State.concur_refused {id : Nat} {status : Status} (h : s.checkVerdict p id = .error status) :
    s.concur p id = refused status s := by
  rw [State.concur, h]

theorem State.reject_refused {id : Nat} {status : Status} (h : s.checkVerdict p id = .error status) :
    s.reject p id = refused status s := by
  rw [State.reject, h]

theorem State.reject_ended {id : Nat} (h : s.checkVerdict p id = .ok (slot, x)) : s.reject p id =
    ((s.putProposal slot ((x.setVerdict .reject p).endAs .rejected s.uptime)).raise .proposal,
      .okWith (field 2 id ++ [3])) := by
  rw [State.reject, h]
  rfl

/-! ### WITHDRAW (R142) -/

theorem mayWithdraw_iff : mayWithdraw p x = true ↔
    x.originator = portOriginator p ∨ (p = .sup ∧ x.originator = .prover) := by
  simp [mayWithdraw]

theorem State.withdraw_notFound {id : Nat} (absent : id ∉ s.control.ids) : s.withdraw p id = refused .notFound s := by
  rw [State.withdraw, ChangeControl.find_eq_none.2 absent]

section
variable (found : s.control.find x.id = some (slot, x))
include found

theorem State.withdraw_notPermitted (other : ¬ mayWithdraw p x = true) :
    s.withdraw p x.id = refused .notPermitted s := by
  simp [State.withdraw, found, other]

theorem State.withdraw_wrongState (mine : mayWithdraw p x = true) (ended : x.state ≠ .opened) :
    s.withdraw p x.id = refused .wrongState s := by
  simp [State.withdraw, found, mine, Proposal.isOpen, ended]

theorem State.withdraw_ended (mine : mayWithdraw p x = true) (opened : x.state = .opened) : s.withdraw p x.id =
    ((s.putProposal slot (x.endAs .withdrawn s.uptime)).raise .proposal, .okWith (field 2 x.id ++ [5])) := by
  simp only [State.withdraw, found, mine, Proposal.isOpen, opened]
  rfl

end

/-! ### The expiry (R144) -/

theorem Proposal.expiresAt_iff {now : Seconds} :
    x.expiresAt now = true ↔ x.state = .opened ∧ 900 ≤ (now - x.created).toNat := by
  rw [Proposal.expiresAt, Bool.and_eq_true, Proposal.isOpen_iff, decide_eq_true_iff]
  rfl

/-- The number of entries that have a property is that of the places where they stand. -/
theorem countP_eq_length {α : Type} {f : α → Bool} {entries : List α} {places : List Nat} (distinct : places.Nodup)
    (h : ∀ i, i ∈ places ↔ ∃ y, entries[i]? = some y ∧ f y = true) : entries.countP f = places.length := by
  rw [← List.length_findIdxs (s := 0)]
  refine ((List.perm_ext_iff_of_nodup List.nodup_findIdxs distinct).2 fun i => ?_).length_eq
  rw [h, List.mem_findIdxs_iff_exists_getElem_pos]
  constructor
  · rintro ⟨inside, hit⟩
    exact ⟨entries[i], List.getElem?_eq_getElem inside, hit⟩
  · rintro ⟨y, held, hit⟩
    obtain ⟨inside, rfl⟩ := List.getElem?_eq_some_iff.1 held
    exact ⟨inside, hit⟩

/-- An event raised several times sets its flag in every port (R177). -/
theorem State.raiseTimes_flag (c : EventClass) {n : Nat} (some : n ≠ 0) (s : State) (a : Port) :
    (((s.raiseTimes c n).ports.get a).events.get c).flag = true := by
  have stays (n : Nat) (u : State) (h : ((u.ports.get a).events.get c).flag = true) :
      (((u.raiseTimes c n).ports.get a).events.get c).flag = true := by
    induction n generalizing u with
    | zero => exact h
    | succ n ih => exact ih _ (by simp)
  obtain ⟨n, rfl⟩ := Nat.exists_eq_succ_of_ne_zero some
  exact stays n _ (by simp)

/-- The state after the expiry of a one-second event (R144). -/
def State.expired (s : State) : State :=
  State.raiseTimes .proposal (s.control.slots.countP fun y => y.any (Proposal.expiresAt s.uptime))
    (s.setControl { s.control with slots := s.control.slots.map (expireSlot s.uptime) })

theorem State.expired_slots (s : State) : s.expired.control.slots = s.control.slots.map (expireSlot s.uptime) := by
  simp [State.expired]

/-- Beside the slots and the ports nothing changes (R144). -/
theorem State.expired_frame (s : State) :
    s.expired = { s with control := { s.control with slots := s.expired.control.slots }, ports := s.expired.ports } := by
  rw [s.expired_slots, State.expired, State.raiseTimes_frame]
  rfl

/-- Where nothing expires, nothing changes. -/
theorem State.expired_eq_self (h : ∀ q, some q ∈ s.control.slots → q.expiresAt s.uptime = false) : s.expired = s := by
  have none_expires : (s.control.slots.countP fun y => y.any (Proposal.expiresAt s.uptime)) = 0 := by
    rw [List.countP_eq_zero]
    rintro (_ | q) held
    · simp
    · simp [h q held]
  have kept : s.control.slots.map (expireSlot s.uptime) = s.control.slots := by
    refine (List.map_congr_left fun y held => ?_).trans (List.map_id _)
    obtain e | ⟨q, rfl, expires, -⟩ := expireSlot_cases s.uptime y
    · exact e
    · rw [h q held] at expires; cases expires
  rw [State.expired, none_expires, kept]
  rfl

/-- The expiry as R144 has it: each proposal that expires ends, and PROPOSAL is raised once for each. -/
theorem State.expired_proposals (s : State) :
    (∀ (slot : Nat) (q : Proposal), s.control.slots[slot]? = some (some q) →
      (q.expiresAt s.uptime = true → s.expired.control.slots[slot]? = some (some (q.endAs .expired s.uptime))) ∧
      (q.expiresAt s.uptime = false → s.expired.control.slots[slot]? = some (some q))) ∧
    ∀ slot : Nat, s.control.slots[slot]? = some none → s.expired.control.slots[slot]? = some none := by
  simp only [s.expired_slots, List.getElem?_map]
  refine ⟨fun slot q held => ⟨fun expires => ?_, fun stays => ?_⟩, fun slot unused => ?_⟩
  · simp [held, expireSlot, expires]
  · simp [held, expireSlot, stays]
  · simp [unused, expireSlot]

/-- PROPOSAL after an expiry, the places of the expiring proposals given (R144, R177). -/
theorem State.expired_occurrences {places : List Nat} (distinct : places.Nodup)
    (h : ∀ i, i ∈ places ↔ ∃ q, s.control.slots[i]? = some (some q) ∧ q.expiresAt s.uptime = true) (a : Port)
    (low : ((s.ports.get a).events.get .proposal).count ≤ 255) :
    ((s.expired.ports.get a).events.get .proposal).count =
        min (((s.ports.get a).events.get .proposal).count + places.length) 255 ∧
      (places ≠ [] → ((s.expired.ports.get a).events.get .proposal).flag = true) ∧ (places = [] → s.expired = s) := by
  have number : (s.control.slots.countP fun y => y.any (Proposal.expiresAt s.uptime)) = places.length := by
    refine countP_eq_length distinct fun i => (h i).trans ⟨?_, ?_⟩
    · rintro ⟨q, held, expires⟩
      exact ⟨some q, held, expires⟩
    · rintro ⟨_ | q, held, expires⟩
      · cases expires
      · exact ⟨q, held, expires⟩
  refine ⟨?_, fun some_expire => ?_, fun none_expires => State.expired_eq_self fun q held => ?_⟩
  · rw [State.expired, number]
    exact State.raiseTimes_count .proposal _ _ a low
  · rw [State.expired, number]
    exact State.raiseTimes_flag .proposal (by simpa using some_expire) _ a
  · obtain ⟨i, at_i⟩ := List.mem_iff_getElem?.1 held
    by_contra expires
    have listed := (h i).2 ⟨q, at_i, by simpa using expires⟩
    rw [none_expires] at listed
    cases listed

/-! ### The statement -/

/-- Two bytes are the field of the number that they spell (R166). -/
theorem field_two (hi lo : Byte) : field 2 (hi ++ lo).toNat = [hi, lo] := by
  rw [field_eq (hi ++ lo).isLt, ← numberOf_two]
  exact bytesOf_numberOf [hi, lo]

section
variable (ready : s.isRestoring = false) {args : List Byte} {hi lo : Byte} {t : State} {a : Answer}
include ready

/-- PROPOSE is decided by its own rule for every number of argument bytes (R133, R169). -/
theorem exec_propose (e : s.propose p args = (t, a)) : exec (.propose p args) s = .next (t.respond p 0x39 a) :=
  congrArg Host.Outcome.next ((takeRequest_decided p _ args _ s ready rfl (.inl rfl)).trans (by rw [e]; rfl))

theorem exec_withdraw (e : s.withdraw p (hi ++ lo).toNat = (t, a)) :
    exec (.withdraw p [hi, lo]) s = .next (t.respond p 0x3C a) :=
  congrArg Host.Outcome.next (takeRequest_eq ready rfl rfl ((congrArg (s.withdraw p) (numberOf_two hi lo)).trans e))

section
variable (custody : p ≠ .sup)
include custody

theorem exec_concur (e : s.concur p (hi ++ lo).toNat = (t, a)) :
    exec (.concur p [hi, lo]) s = .next (t.respond p 0x3A a) :=
  congrArg Host.Outcome.next (takeRequest_eq ready (bne_iff_ne.2 custody) rfl
    ((congrArg (s.concur p) (numberOf_two hi lo)).trans e))

theorem exec_reject (e : s.reject p (hi ++ lo).toNat = (t, a)) :
    exec (.reject p [hi, lo]) s = .next (t.respond p 0x3B a) :=
  congrArg Host.Outcome.next (takeRequest_eq ready (bne_iff_ne.2 custody) rfl
    ((congrArg (s.reject p) (numberOf_two hi lo)).trans e))

/-- What the checks refuse, CONCUR and REJECT answer alike (R137, R138). -/
theorem exec_verdict_refused {status : Status} (h : s.checkVerdict p (hi ++ lo).toNat = .error status) :
    exec (.concur p [hi, lo]) s = .next (s.respond p 0x3A (.refuse status)) ∧
      exec (.reject p [hi, lo]) s = .next (s.respond p 0x3B (.refuse status)) :=
  ⟨exec_concur ready custody (State.concur_refused h), exec_reject ready custody (State.reject_refused h)⟩

end
end
end

/-- Settles O54: PROPOSE's arguments spell at most one change, the table holds an id in one slot, and each command's own rule takes
the branches of the rules in their order. -/
theorem proposalsArePostedAndEnded : Obligations.ProposalsArePostedAndEnded := by
  intro p s ready table origin verdict answer ended
  have origin_eq : origin = portOriginator p := by cases p <;> rfl
  have verdict_eq (q : Proposal) : verdict q = q.verdictOf p := by cases p <;> rfl
  refine ⟨fun args _ none => exec_propose ready (State.propose_badArgument none), fun c legal =>
    ⟨fun full => exec_propose ready (State.propose_full legal full), fun room => ?_⟩, fun hi lo absent =>
    ⟨exec_withdraw ready (State.withdraw_notFound absent), fun custody =>
      exec_verdict_refused ready custody (State.checkVerdict_notFound absent)⟩, ?_, s.expired, rfl, ?_⟩
  · obtain ⟨slot, takes, posted⟩ := State.postProposal_of_room c (portOriginator p) false room
    have small : slot < 256 := takes.lt_length.trans (table.control.six ▸ by decide)
    refine ⟨s.setControl _, slot, by rw [origin_eq]; exact table.posts takes rfl, ?_⟩
    rw [← field_eq table.nextId_lt, ← field_one small]
    exact exec_propose ready (State.propose_posted legal posted)
  · intro hi lo slot q held same mine
    have found := ChangeControl.find_eq_some table.control.unique held
    have mine_iff : mayWithdraw p q = true ↔ mine := by rw [mayWithdraw_iff, ← origin_eq]
    have rejected (custody : p ≠ .sup) (opened : q.state = .opened) (undecided : verdict q = .none) :
        exec (.reject p [hi, lo]) s =
          ended 0x3B [hi, lo, 3] slot ((q.setVerdict .reject p).endAs .rejected s.uptime) := by
      have e := State.reject_ended (State.checkVerdict_undecided found opened ((verdict_eq q).symm.trans undecided))
      rw [same, field_two] at e
      exact exec_reject ready custody e
    refine ⟨fun custody terminal => exec_verdict_refused ready custody
        (same ▸ State.checkVerdict_wrongState found terminal),
      fun custody opened decided => exec_verdict_refused ready custody
        (same ▸ State.checkVerdict_decided found opened (verdict_eq q ▸ decided)),
      ?_, ?_, fun other => ?_, fun own terminal => ?_, fun own opened => ?_⟩
    · rintro rfl; exact rejected nofun
    · rintro rfl; exact rejected nofun
    · exact exec_withdraw ready (same ▸ State.withdraw_notPermitted found (mine_iff.not.2 other))
    · exact exec_withdraw ready (same ▸ State.withdraw_wrongState found (mine_iff.2 own) terminal)
    · have e := State.withdraw_ended found (mine_iff.2 own) opened
      rw [same, field_two] at e
      exact exec_withdraw ready e
  · intro expires
    have expires_iff (q : Proposal) : q.expiresAt s.uptime = true ↔ expires q := Proposal.expiresAt_iff
    obtain ⟨used, unused⟩ := s.expired_proposals
    refine ⟨fun slot q held => ⟨fun h => (used slot q held).1 ((expires_iff q).2 h),
      fun h => (used slot q held).2 (Bool.eq_false_iff.2 ((expires_iff q).not.2 h))⟩, unused, ?_,
      fun places distinct h => State.expired_occurrences distinct ?_, s.expired_frame⟩
    · simp [s.expired_slots]
    · simpa only [expires_iff] using h

end Sys2Proof.Machine
end

section
/-! PROOFS. READ_PROPOSAL and READ_SAMPLER (R148, R161), and the settled statement. -/

namespace Sys2Proof.Machine

section
variable {s : State}

/-! ### READ_PROPOSAL, the summary (R148) -/

theorem kindCode_lt (c : Change) : kindCode c < 256 := by cases c <;> simp [kindCode]

theorem originatorCode_lt (o : Originator) : originatorCode o < 256 := by cases o <;> decide

theorem proposalStateCode_lt (x : ProposalState) : proposalStateCode x < 256 := by cases x <;> simp [proposalStateCode]

theorem legalId.lt {i : Nat} (h : legalId i) : i < 256 ^ 2 := Nat.lt_succ_of_le h.2

/-- A used slot's five bytes (R148). -/
theorem slotFields_some {q : Proposal} (h : legalId q.id) : slotFields (some q) = bytesOf 2 q.id ++
    [byteOf (proposalStateCode q.state), byteOf (kindCode q.change), byteOf (originatorCode q.originator)] := by
  rw [slotFields, field_eq h.lt, field_one (proposalStateCode_lt _), field_one (kindCode_lt _),
    field_one (originatorCode_lt _)]
  simp only [List.append_assoc, List.cons_append, List.nil_append]

theorem State.readProposal_summary (next : legalId s.control.nextId) (count : s.control.changeCount ≤ max32) :
    s.readProposal 0 = reads (s.control.slots.flatMap slotFields ++ bytesOf 2 s.control.nextId ++
      bytesOf 4 s.control.changeCount) s := by
  rw [State.readProposal, if_pos rfl, field_eq next.lt, field_eq (count.trans_lt (by decide))]

/-! ### READ_PROPOSAL, a record (R148) -/

/-- What the record's field for the superseding proposal reads: 0 unless it is SUPERSEDED (R148). -/
def ProposalState.byId : ProposalState → Nat
  | .superseded i => i
  | _ => 0

/-- What the record's field for the change number reads: 0 unless it is APPLIED (R148). -/
def ProposalState.changeNumber : ProposalState → Nat
  | .applied n => n
  | _ => 0

theorem Proposal.fits.byId_lt {q : Proposal} (h : q.fits) : q.state.byId < 256 ^ 2 := by
  obtain ⟨-, -, -, by_id⟩ := h
  unfold ProposalState.byId
  split
  · rename_i i e; exact (by_id i e).lt
  · decide

theorem Proposal.fits.changeNumber_lt {q : Proposal} (h : q.fits) : q.state.changeNumber < 256 ^ 4 := by
  obtain ⟨-, -, number, -⟩ := h
  unfold ProposalState.changeNumber
  split
  · rename_i n e; exact (number n e).trans_lt (by decide)
  · decide

/-- The seconds that remain are 900 less the age, while OPEN (R144, R148). -/
theorem Proposal.remaining_eq (q : Proposal) (now : Seconds) :
    q.remaining now = if q.state = .opened then 900 - (now - q.created).toNat else 0 :=
  if_congr Proposal.isOpen_iff rfl rfl

/-- A record shows the argument bytes of PROPOSE, padded with zeros (R129, R148). -/
theorem changeArguments_spelt {c : Change} (legal : c.legal) : (changeArguments c).length = 9 ∧
    ∃ pad, proposeBytes c ++ List.replicate pad 0 = byteOf (kindCode c) :: changeArguments c := by
  refine ⟨by cases c <;> simp [changeArguments], ?_⟩
  cases c with
  | kFactor r kx =>
    obtain ⟨-, high⟩ := legal
    refine ⟨4, ?_⟩
    rw [changeArguments, field_runNumber, field_eq (show kx < 256 ^ 4 by omega)]
    rfl
  | mfPoint r f m =>
    obtain ⟨-, f2, -, m2⟩ := legal
    dsimp only at f2 m2
    refine ⟨2, ?_⟩
    rw [changeArguments, field_runNumber, field_eq (show f < 256 ^ 2 by omega), field_eq (show m < 256 ^ 4 by omega)]
    rfl
  | mfPointDelete r f =>
    obtain ⟨-, high⟩ := legal
    refine ⟨6, ?_⟩
    rw [changeArguments, field_runNumber, field_eq (show f < 256 ^ 2 by omega)]
    rfl
  | proverVolume bv =>
    obtain ⟨-, high⟩ := legal
    refine ⟨5, ?_⟩
    rw [changeArguments, field_eq (show bv < 256 ^ 4 by omega)]
    rfl
  | samplerSetup g size c =>
    obtain ⟨-, g2, -, s2, -, c2, -⟩ := legal
    dsimp only at g2 s2 c2
    refine ⟨0, ?_⟩
    rw [changeArguments, field_eq (show g < 256 ^ 4 by omega), field_one (show size < 256 by omega),
      field_eq (show c < 256 ^ 4 by omega), List.replicate_zero, List.append_nil]
    rfl

/-- A record's 39 bytes (R148). -/
theorem State.proposalFields_eq {q : Proposal} (fits : q.fits) {slot : Nat} (small : slot < 256)
    (count : s.control.changeCount ≤ max32) : s.proposalFields slot q = field 2 q.id ++
      [byteOf slot, byteOf (kindCode q.change), byteOf (originatorCode q.originator),
        byteOf (proposalStateCode q.state), byteOf (failureCode q.state), byteOf (verdictCode q.oprVerdict),
        byteOf (verdictCode q.witVerdict), bitByte q.largeDeviation] ++ bytesOf 4 q.created.toNat ++
      bytesOf 4 q.ended.toNat ++ bytesOf 2 (q.remaining s.uptime) ++ changeArguments q.change ++
      bytesOf 2 q.state.byId ++ bytesOf 4 q.state.changeNumber ++ bytesOf 4 s.control.changeCount := by
  have failure : failureCode q.state < 256 := by unfold failureCode; split <;> decide
  have verdict (v : Verdict) : verdictCode v < 256 := by cases v <;> decide
  have remaining : q.remaining s.uptime < 256 ^ 2 := by unfold Proposal.remaining; split <;> omega
  show _ ++ field 2 q.state.byId ++ field 4 q.state.changeNumber ++ _ = _
  rw [field_one small, field_one (kindCode_lt _), field_one (originatorCode_lt _), field_one (proposalStateCode_lt _),
    field_one failure, field_one (verdict q.oprVerdict), field_one (verdict q.witVerdict), flagsByte_single,
    secondsField_eq, secondsField_eq, field_eq remaining, field_eq fits.byId_lt, field_eq fits.changeNumber_lt,
    field_eq (count.trans_lt (by decide))]
  simp only [List.append_assoc, List.cons_append, List.nil_append]

/-! ### READ_SAMPLER (R161) -/

/-- The code of the GRAB output and the ticks that its pulse or gap has left (R161). -/
def State.outputFields (s : State) : Nat × Nat :=
  match s.sampler.output with
  | .idle => (0, 0)
  | .pulse e => (1, (e - s.tick).toNat)
  | .gap e => (2, (e - s.tick).toNat)

theorem State.outputFields_code (s : State) : s.outputFields.1 < 256 := by
  unfold State.outputFields
  split <;> simp

/-- The batch counts that READ_SAMPLER shows: 0 with no batch open (R161). -/
def State.shownCounts (s : State) : GrabCounts := if s.batch = none then ⟨0, 0, 0, 0, 0, 0⟩ else s.sampler.counts

/-- READ_SAMPLER's fields, in their order (R161). -/
theorem State.samplerData_fields (s : State) :
    let x := s.sampler
    let u := x.setup.getD ⟨0, 0, 0⟩
    let c := s.shownCounts
    s.samplerData = flagsByte [x.setup.isSome, x.hold, x.full, x.rcvhi, x.activeLow] ++ field 4 u.interval ++
      field 1 u.size ++ field 4 u.capacity ++ field 2 x.width ++ field 1 s.outputFields.1 ++
      field 1 x.pendingGrabs.length ++ field 1 (x.pendingGrabs.filter (· = .carried)).length ++ field 4 x.volume ++
      field 4 x.fill ++ field 4 s.outputFields.2 ++ field 4 c.due ++ field 4 c.issued ++ field 4 c.hold ++
      field 4 c.full ++ field 4 c.overflow ++ field 1 c.carriedIn := by
  intro x u c
  have counts : (if s.batch.isSome then x.counts else .zero) = c := by
    unfold c State.shownCounts
    cases s.batch <;> rfl
  have carried : x.pendingGrabs.countP (· == .carried) = (x.pendingGrabs.filter (· = .carried)).length :=
    List.countP_eq_length_filter
  rw [← counts, ← carried]
  unfold State.samplerData State.outputFields
  dsimp only
  cases s.sampler.output <;> rfl

section
variable (fits : s.sampler.fits)
include fits

/-- The setup's figures fit in their fields, and read 0 where it is unset (R161). -/
theorem Sampler.fits.setup_lt : (s.sampler.setup.getD ⟨0, 0, 0⟩).interval < 2 ^ 32 ∧
    (s.sampler.setup.getD ⟨0, 0, 0⟩).size < 256 ∧ (s.sampler.setup.getD ⟨0, 0, 0⟩).capacity < 2 ^ 32 := by
  obtain ⟨legal, -⟩ := fits
  cases held : s.sampler.setup with
  | none => decide
  | some u =>
    obtain ⟨-, interval, -, size, -, capacity, -⟩ := legal u held
    rw [Option.getD_some]
    omega

theorem Sampler.fits.counts_lt : s.shownCounts.due < 2 ^ 32 ∧ s.shownCounts.issued < 2 ^ 32 ∧
    s.shownCounts.hold < 2 ^ 32 ∧ s.shownCounts.full < 2 ^ 32 ∧ s.shownCounts.overflow < 2 ^ 32 ∧
    s.shownCounts.carriedIn < 256 := by
  obtain ⟨-, -, -, -, -, due, issued, hold, full, overflow, carriedIn⟩ := fits
  unfold State.shownCounts
  split
  · decide
  · exact ⟨due, issued, hold, full, overflow, Nat.lt_succ_of_le carriedIn⟩

/-- The 48 bytes, their flags byte given (R161). -/
theorem State.samplerData_eq {flags : Byte}
    (hf : flagsByte [s.sampler.setup.isSome, s.sampler.hold, s.sampler.full, s.sampler.rcvhi, s.sampler.activeLow] =
      [flags]) (near : s.outputFields.2 < 2 ^ 32) :
    let x := s.sampler
    let u := x.setup.getD ⟨0, 0, 0⟩
    let c := s.shownCounts
    s.samplerData = [flags] ++ bytesOf 4 u.interval ++ [byteOf u.size] ++ bytesOf 4 u.capacity ++ bytesOf 2 x.width ++
      [byteOf s.outputFields.1, byteOf x.pendingGrabs.length,
        byteOf (x.pendingGrabs.filter (· = .carried)).length] ++ bytesOf 4 x.volume ++ bytesOf 4 x.fill ++
      bytesOf 4 s.outputFields.2 ++ bytesOf 4 c.due ++ bytesOf 4 c.issued ++ bytesOf 4 c.hold ++ bytesOf 4 c.full ++
      bytesOf 4 c.overflow ++ [byteOf c.carriedIn] := by
  obtain ⟨interval, size, capacity⟩ := Sampler.fits.setup_lt fits
  obtain ⟨due, issued, hold, full, overflow, carriedIn⟩ := Sampler.fits.counts_lt fits
  obtain ⟨-, width, pending, volume, fill, -⟩ := fits
  have carried := List.length_filter_le (fun g => decide (g = .carried)) s.sampler.pendingGrabs
  dsimp only
  rw [s.samplerData_fields, hf, field_four interval, field_one size, field_four capacity,
    field_eq (show s.sampler.width < 256 ^ 2 by omega), field_one s.outputFields_code, field_one (by omega),
    field_one (by omega), field_four volume, field_four fill, field_four near, field_four due, field_four issued,
    field_four hold, field_four full, field_four overflow, field_one carriedIn]
  simp only [List.append_assoc, List.cons_append, List.nil_append]

end
end

/-- Settles O58: both requests pass the checks of R169 and answer the fields of what they select, each figure within its field. -/
theorem custodyAndSamplerReadsAnswerTheFigures : Obligations.CustodyAndSamplerReadsAnswerTheFigures := by
  intro p s ready
  have read {hi lo : Byte} {a : Answer} (e : s.readProposal (hi ++ lo).toNat = (s, a)) :
      exec (.readProposal p [hi, lo]) s = .next (s.respond p 0x38 a) :=
    congrArg Host.Outcome.next (takeRequest_eq ready rfl rfl ((congrArg s.readProposal (numberOf_two hi lo)).trans e))
  refine ⟨fun table count => ⟨⟨Config.unusedSlotByte 0, Config.unusedSlotByte 1, ?_⟩, fun hi lo nonzero absent => ?_,
    fun hi lo slot q held same fits => ?_⟩, fun fits => ?_⟩
  · refine (read (hi := 0) (lo := 0) (State.readProposal_summary table.control.next count)).trans ?_
    congr 4
    refine congrArg₂ _ (List.flatMap_congr fun x held => ?_) rfl
    cases x with
    | none => rfl
    | some q => exact slotFields_some (table.control.ids _ (ChangeControl.mem_ids.2 ⟨q, held, rfl⟩))
  · refine read ?_
    rw [State.readProposal, if_neg nonzero, ChangeControl.find_eq_none.2 absent]
    rfl
  · have ⟨⟨positive, _⟩, legal, _⟩ := fits
    obtain ⟨nine, spelt⟩ := changeArguments_spelt legal
    have small : slot < 256 := (List.getElem?_eq_some_iff.1 held).1.trans (table.control.six ▸ by decide)
    have nonzero : q.id ≠ 0 := Nat.pos_iff_ne_zero.1 positive
    refine ⟨_, nine, spelt, read ?_⟩
    rw [← same, State.readProposal, if_neg nonzero, ChangeControl.find_eq_some table.control.unique held]
    dsimp only
    rw [State.proposalFields_eq fits small count, same, field_two, Proposal.remaining_eq]
    rfl
  · obtain ⟨flags, holds, byte⟩ := flagsByte_holds
      [s.sampler.setup.isSome, s.sampler.hold, s.sampler.full, s.sampler.rcvhi, s.sampler.activeLow]
    refine ⟨flags, holds, fun code left near output => ?_⟩
    have reads_output : s.outputFields = (code, left) := by
      unfold State.outputFields
      obtain ⟨e, rfl, rfl⟩ | ⟨_, e, rfl, rfl⟩ | ⟨_, e, rfl, rfl⟩ := output <;> rw [e]
    refine congrArg Host.Outcome.next (takeRequest_eq ready rfl rfl ?_)
    have data := State.samplerData_eq fits byte (reads_output ▸ near)
    rw [reads_output] at data
    exact congrArg (reads · s) data

end Sys2Proof.Machine
end

section
/-! PROOFS. A part that is RESTORING with a write in progress, and the refutation of the statement on the grab accounting
(R152, R160, R186). -/

namespace Sys2Proof.Machine

/-! ### A write in progress during RESTORING -/

/-- A write of the parameter area in progress. -/
def parameterWrite : Writing := ⟨.parameters ⟨1, State.reset.captureParameters⟩ false, 0⟩

/-- A part that is RESTORING with a full indication that was not evaluated, whose store is still writing the parameter area;
the job's completion is the next command. `State.samplerLegal` allows it, since the full indication is free during RESTORING, and
neither `State.storeLegal` nor `State.recordsLegal`, which exclude the write, is among the premises of the statement. -/
def State.restoringWithJob : State :=
  { State.reset with
    sampler := { Sampler.reset with full := true }
    store := { Store.reset with writing := some parameterWrite }
    pending := [.jobComplete] }

/-- The write in progress is of no checkpoint and no record. -/
theorem State.restoringWithJob_retains (P : CheckpointArea → Prop) (Q : BatchRecord → Prop) :
    State.restoringWithJob.Retains P Q :=
  ⟨{ (State.reset_retains P Q).store with writing := fun _ h => Option.some.inj h ▸ trivial },
    (State.reset_retains P Q).ring⟩

theorem State.restoringWithJob_samplerLegal : State.restoringWithJob.samplerLegal :=
  ⟨Nat.zero_le _, nofun, nofun, rfl, fun _ => ⟨rfl, rfl⟩,
    (State.retains_iff.1 (State.restoringWithJob_retains _ fun _ => True)).1,
    (State.retains_iff.1 (State.restoringWithJob_retains (fun _ => True) _)).2⟩

/-- The completed job leaves the store READY, with the full indication as it was and the setup unset. -/
theorem State.restoringWithJob_step : ∃ t, step State.restoringWithJob = .next t ∧ t.isRestoring = false ∧
    t.sampler.full = true ∧ t.sampler.isFull = false := ⟨_, rfl, rfl, rfl, rfl⟩

/-- Refutes O14: the full indication is free during RESTORING, and the statement's premise allows a write in progress then
(which `State.recordsLegal` excludes); the write's completion takes the store out of RESTORING without an evaluation of fullness. -/
theorem not_stepKeepsGrabAccounting : ¬ Obligations.StepKeepsGrabAccounting := by
  intro keeps
  obtain ⟨t, e, ready, full, empty⟩ := State.restoringWithJob_step
  obtain ⟨-, -, evaluated, -⟩ := keeps _ t State.restoringWithJob_samplerLegal e
  rw [evaluated ready, empty] at full
  cases full

end Sys2Proof.Machine
end

section
/-! PROOFS. SAMPLER_HOLD, SAMPLER_OUTPUT, RECEIVER_SWAP, the ends of a pulse and of a gap, and RCVHI (R152 to R157), and the
settled statement. -/

namespace Sys2Proof.Machine

/-! ### The full indication (R152) -/

section
variable (s : State)

/-- Once evaluated, the full indication is what R152 says. -/
theorem State.evaluateFull_receiverFull : s.evaluateFull.sampler.full = true ↔ s.evaluateFull.sampler.receiverFull := by
  rw [State.evaluateFull_sampler]
  exact Sampler.isFull_iff _

/-- An issued grab on its pulse, the indication left to be evaluated (R153). -/
theorem State.issueGrab_eq (g : GrabMark) : s.issueGrab g = State.evaluateFull { s with sampler := { s.sampler with
    output := .pulse (s.tick + BitVec.ofNat 48 (s.sampler.width * 10000)), grabLine := some (!s.sampler.activeLow)
    fill := match s.sampler.setup with
      | none => s.sampler.fill
      | some u => min (s.sampler.fill + u.size) u.capacity
    counts := { s.sampler.counts with issued := s.sampler.counts.issued + (if g = .own then 1 else 0) } } } := by
  have filled : s.sampler.filled = match s.sampler.setup with
      | none => s.sampler.fill
      | some u => min (s.sampler.fill + u.size) u.capacity := by
    unfold Sampler.filled
    cases s.sampler.setup with
    | none => rfl
    | some u => exact Nat.min_comm _ _
  rw [State.issueGrab, filled]
  rfl

/-! ### The sampler's requests (R155 to R157) -/

theorem State.samplerHold_byte (on : Byte) :
    (on.toNat ≤ 1 → s.samplerHold on.toNat = ({ s with sampler := { s.sampler with hold := decide (on = 1) } }, ⟨.ok, []⟩)) ∧
    (1 < on.toNat → s.samplerHold on.toNat = (s, ⟨.badArgument, []⟩)) := by
  constructor
  · intro low
    obtain zero | one : on.toNat = 0 ∨ on.toNat = 1 := by omega
    · rw [BitVec.eq_of_toNat_eq (y := 0) zero]; rfl
    · rw [BitVec.eq_of_toNat_eq (y := 1) one]; rfl
  · intro high
    obtain ⟨k, e⟩ := Nat.exists_eq_add_of_lt high
    rw [e, show 1 + k + 1 = k + 2 by omega]
    rfl

theorem State.samplerOutput_of_high {polarity : Nat} (high : 1 < polarity) (width : Nat) :
    s.samplerOutput polarity width = (s, ⟨.badArgument, []⟩) := by
  rw [State.samplerOutput, if_pos high]
  rfl

/-- Polarity and width are set, the width within 20 to 2 000 ms, and the line follows unless a pulse runs (R155). -/
theorem State.samplerOutput_byte {polarity : Byte} (low : polarity.toNat ≤ 1) (width : Nat) :
    s.samplerOutput polarity.toNat width = ({ s with sampler := { s.sampler with
      activeLow := decide (polarity = 1), width := max 20 (min width 2000)
      grabLine := match s.sampler.output with
        | .pulse _ => s.sampler.grabLine
        | _ => some (decide (polarity = 1)) } }, ⟨.ok, bytesOf 2 (max 20 (min width 2000))⟩) := by
  have activeLow : (polarity.toNat == 1) = decide (polarity = 1) :=
    decide_eq_decide.2 ⟨BitVec.eq_of_toNat_eq (y := 1), fun e => e ▸ rfl⟩
  rw [State.samplerOutput, if_neg (by omega), activeLow, clamp_eq _ (by decide)]
  dsimp only
  rw [field_eq (by omega)]
  cases s.sampler.output <;> rfl

/-- A swap empties the fill, answers it, and has the full indication evaluated (R157). -/
theorem State.receiverSwap_eq (free : ∀ e, s.sampler.output ≠ .pulse e) :
    s.receiverSwap = (State.evaluateFull { s with sampler := { s.sampler with fill := 0 } },
      ⟨.ok, field 4 s.sampler.fill⟩) := by
  unfold State.receiverSwap
  split
  · rename_i e output; exact absurd output (free e)
  · rfl

end

/-- Settles O57: each request passes the checks of R169 and its own rule decides; where the indication is evaluated afresh, it
is what R152 says, and SAMPLER is raised if it changed. -/
theorem samplerCommandsAndOutput : Obligations.SamplerCommandsAndOutput := by
  intro s
  dsimp only
  refine ⟨fun ready => ⟨fun on => ⟨fun low => ?_, fun high => ?_⟩, fun polarity hi lo => ⟨fun high => ?_, fun low => ?_⟩,
    fun e pulse => ?_, fun free small => ?_⟩, fun e pulse => ?_, fun free => ?_, fun e gap => ⟨fun none => ?_,
    fun g rest waiting => ?_⟩, fun free => ?_, fun level => ?_⟩
  · exact congrArg Host.Outcome.next (takeRequest_eq ready rfl rfl
      ((congrArg s.samplerHold (argument_first on [])).trans ((s.samplerHold_byte on).1 low)))
  · exact congrArg Host.Outcome.next (takeRequest_eq ready rfl rfl
      ((congrArg s.samplerHold (argument_first on [])).trans ((s.samplerHold_byte on).2 high)))
  · refine congrArg Host.Outcome.next (takeRequest_eq ready rfl rfl ?_)
    rw [argument_first]
    exact s.samplerOutput_of_high high _
  · refine congrArg Host.Outcome.next (takeRequest_eq ready rfl rfl ?_)
    rw [argument_first, show argument [polarity, hi, lo] 1 2 = numberOf [hi, lo] from rfl, numberOf_two]
    exact s.samplerOutput_byte low _
  · refine congrArg Host.Outcome.next (takeRequest_eq ready rfl rfl ?_)
    rw [State.receiverSwap, pulse]
    rfl
  · refine ⟨_, Sampler.isFull_iff _, congrArg Host.Outcome.next (takeRequest_eq ready rfl rfl ?_)⟩
    rw [s.receiverSwap_eq free, field_four small, State.evaluateFull_eq]
  · simp only [exec, execPulseEnd, pulse]
    rfl
  · show execPulseEnd s = .next s
    unfold execPulseEnd
    split
    · rename_i e output; exact absurd output (free e)
    · rfl
  · simp only [exec, execGapEnd, gap, none]
    rfl
  · have issued : exec .gapEnd s =
        .next (State.issueGrab g { s with sampler := { s.sampler with pendingGrabs := rest } }) := by
      simp only [exec, execGapEnd, gap, waiting]
      rfl
    exact ⟨_, Sampler.isFull_iff _, issued.trans
      (congrArg Host.Outcome.next ((State.issueGrab_eq _ g).trans (State.evaluateFull_eq _)))⟩
  · show execGapEnd s = .next s
    unfold execGapEnd
    split
    · rename_i e output; exact absurd output (free e)
    · rfl
  · simp only [exec, execRcvhiChange]
    split
    · rename_i restoring
      refine ⟨_, s.sampler.full, rfl, fun _ => rfl, fun ready => absurd (restoring.symm.trans ready) nofun, ?_⟩
      rw [bne_self_eq_false]
      rfl
    · rename_i ready
      refine ⟨_, _, rfl, fun restoring => absurd restoring ready, fun _ => Sampler.isFull_iff _, ?_⟩
      rw [State.evaluateFull_lines]
      exact State.evaluateFull_eq _

end Sys2Proof.Machine
end

section
/-! PROOFS. The grabs of a batched window's gross litres, one by one (R150 to R153), and the settled statement. -/

namespace Sys2Proof.Machine

/-! ### One grab (R150, R151) -/

/-- The grabs missed in the batch, for whatever cause (R151). -/
def GrabCounts.missed (c : GrabCounts) : Nat := c.hold + c.full + c.overflow

/-- A due count that stands at 4 294 967 295 stays there, and so does the rest of the sampler but A (R150). -/
theorem State.dueGrab_capped {s : State} (cap : 4294967295 ≤ s.sampler.counts.due) (g : Nat) :
    (s.dueGrab g).sampler = { s.sampler with volume := s.sampler.volume - g } := by
  have stands : s.dueGrab g = s.setSampler { s.sampler with volume := s.sampler.volume - g } := if_neg (Nat.not_lt.2 cap)
  rw [stands]
  rfl

section
variable {u : SamplerSetup} {s t v : State}

/-- One grab falls due as R150 says and is disposed of as R151 says. -/
theorem State.dueGrab_fallsDue (set : s.sampler.setup = some u) (room : s.sampler.counts.due < 4294967295) :
    grabFallsDue u s.tick s.sampler (s.dueGrab u.interval).sampler := by
  have falls : s.dueGrab u.interval = State.disposeGrab (s.setSampler { s.sampler with
      volume := s.sampler.volume - u.interval
      counts := { s.sampler.counts with due := s.sampler.counts.due + 1 } }) := if_pos room
  rw [falls]
  obtain ⟨held, e⟩ | ⟨free, full, e⟩ | ⟨free, empty, idle, e⟩ | ⟨free, empty, busy, wait, e⟩ | ⟨free, empty, busy, wait, e⟩ :=
    State.disposeGrab_cases (s.setSampler { s.sampler with
      volume := s.sampler.volume - u.interval
      counts := { s.sampler.counts with due := s.sampler.counts.due + 1 } })
  · exact ⟨fun _ => by rw [e]; rfl, fun free => absurd (held.symm.trans free) nofun,
      fun free => absurd (held.symm.trans free) nofun⟩
  · exact ⟨fun held => absurd (held.symm.trans free) nofun, fun _ _ => by rw [e]; rfl,
      fun _ empty => absurd (full.symm.trans empty) nofun⟩
  · refine ⟨fun held => absurd (held.symm.trans free) nofun, fun _ full => absurd (full.symm.trans empty) nofun,
      fun _ _ => ⟨fun _ => ?_, fun busy => absurd idle busy, fun busy => absurd idle busy, fun _ => ?_⟩⟩
    · rw [e, State.issueGrab_eq, State.evaluateFull_sampler]
      simp only [State.setSampler_sampler, set]
      rfl
    · rw [e]
      exact State.evaluateFull_receiverFull _
  · refine ⟨fun held => absurd (held.symm.trans free) nofun, fun _ full => absurd (full.symm.trans empty) nofun,
      fun _ _ => ⟨fun idle => absurd idle busy, fun _ _ => ?_, fun _ many => absurd many (Nat.not_le.2 wait), fun _ => ?_⟩⟩
    · rw [e, State.evaluateFull_sampler]
      rfl
    · rw [e]
      exact State.evaluateFull_receiverFull _
  · exact ⟨fun held => absurd (held.symm.trans free) nofun, fun _ full => absurd (full.symm.trans empty) nofun,
      fun _ _ => ⟨fun idle => absurd idle busy, fun _ few => absurd few (Nat.not_lt.2 wait), fun _ _ => by rw [e]; rfl,
        fun some => absurd some (not_or.2 ⟨busy, Nat.not_lt.2 wait⟩)⟩⟩

/-- A grab that is disposed of is missed, which raises SAMPLER, or it is taken: issued or queued as an own one, and the full
indication is evaluated (R151 to R153). -/
theorem State.disposeGrab_missed_or_taken (s : State) :
    (∃ c, s.disposeGrab = State.raise .sampler (s.setSampler { s.sampler with counts := c }) ∧
      c.due = s.sampler.counts.due ∧ c.issued = s.sampler.counts.issued ∧ c.missed = s.sampler.counts.missed + 1) ∨
    (∃ y, s.disposeGrab = State.evaluateFull (s.setSampler y) ∧ y.counts.due = s.sampler.counts.due ∧
      y.counts.missed = s.sampler.counts.missed ∧
      y.counts.issued + ownGrabs y.pendingGrabs =
        s.sampler.counts.issued + ownGrabs s.sampler.pendingGrabs + 1) := by
  obtain ⟨-, e⟩ | ⟨-, -, e⟩ | ⟨-, -, -, e⟩ | ⟨-, -, -, -, e⟩ | ⟨-, -, -, -, e⟩ := s.disposeGrab_cases
  · refine .inl ⟨_, e, rfl, rfl, ?_⟩
    simp only [GrabCounts.missed]
    omega
  · refine .inl ⟨_, e, rfl, rfl, ?_⟩
    simp only [GrabCounts.missed]
    omega
  · refine .inr ⟨_, e.trans (State.issueGrab_eq s .own), rfl, rfl, ?_⟩
    simp only [if_true]
    omega
  · refine .inr ⟨_, e, rfl, rfl, ?_⟩
    simp only [ownGrabs, List.countP_append, List.countP_singleton, beq_self_eq_true, if_true]
    omega
  · exact .inl ⟨_, e, rfl, rfl, rfl⟩

@[simp] theorem State.disposeGrab_due (s : State) : s.disposeGrab.sampler.counts.due = s.sampler.counts.due := by
  obtain ⟨c, e, due, -⟩ | ⟨y, e, due, -⟩ := s.disposeGrab_missed_or_taken <;> rw [e]
  · exact due
  · rw [State.evaluateFull_sampler]
    exact due

theorem State.dueGrab_due (g : Nat) (low : s.sampler.counts.due ≤ 4294967295) :
    (s.dueGrab g).sampler.counts.due = min (s.sampler.counts.due + 1) 4294967295 := by
  by_cases cap : 4294967295 ≤ s.sampler.counts.due
  · rw [State.dueGrab_capped cap, Nat.min_eq_right (cap.trans (Nat.le_succ _))]
    exact low.antisymm cap
  · have falls : s.dueGrab g = State.disposeGrab _ := if_pos (Nat.not_le.1 cap)
    rw [falls, State.disposeGrab_due]
    exact (Nat.min_eq_left (Nat.not_le.1 cap)).symm

/-! ### What falling grabs keep -/

/-- From one state to another the account of the grabs due is kept, so is the truth of the full indication, and SAMPLER is
raised in every port if a grab was missed (R151, R152, R158). -/
structure State.Paced (s t : State) : Prop where
  accounted : s.sampler.counts.accounted (ownGrabs s.sampler.pendingGrabs) →
    t.sampler.counts.accounted (ownGrabs t.sampler.pendingGrabs)
  full      : (s.sampler.full = true ↔ s.sampler.receiverFull) → (t.sampler.full = true ↔ t.sampler.receiverFull)
  missed    : t.sampler.counts.missed ≠ s.sampler.counts.missed → ∀ p, ((t.ports.get p).events.get .sampler).flag = true
  raises    : s.Raises windowClasses t

theorem State.Paced.refl (s : State) : s.Paced s := ⟨id, id, fun moved => absurd rfl moved, .refl s⟩

theorem State.Paced.trans (h : s.Paced t) (k : t.Paced v) : s.Paced v where
  accounted := k.accounted ∘ h.accounted
  full := k.full ∘ h.full
  missed moved p := by
    by_cases same : v.sampler.counts.missed = t.sampler.counts.missed
    · exact k.raises.flags p _ (h.missed (same ▸ moved) p)
    · exact k.missed same p
  raises := h.raises.trans k.raises

/-- A grab counted as due beside the account is accounted for once it is disposed of (R151, R158). -/
theorem State.disposeGrab_accounted (h : s.sampler.counts.due = s.sampler.counts.issued + s.sampler.counts.hold +
      s.sampler.counts.full + s.sampler.counts.overflow + ownGrabs s.sampler.pendingGrabs + 1) :
    s.disposeGrab.sampler.counts.accounted (ownGrabs s.disposeGrab.sampler.pendingGrabs) := by
  unfold GrabCounts.accounted
  obtain ⟨c, e, due, issued, missed⟩ | ⟨y, e, due, missed, taken⟩ := s.disposeGrab_missed_or_taken <;> rw [e]
  · simp only [State.raise_sampler, State.setSampler_sampler, GrabCounts.missed] at missed ⊢
    omega
  · simp only [State.evaluateFull_sampler, State.setSampler_sampler, GrabCounts.missed] at missed ⊢
    omega

theorem State.disposeGrab_receiverFull (h : s.sampler.full = true ↔ s.sampler.receiverFull) :
    s.disposeGrab.sampler.full = true ↔ s.disposeGrab.sampler.receiverFull := by
  obtain ⟨c, e, -⟩ | ⟨y, e, -⟩ := s.disposeGrab_missed_or_taken <;> rw [e]
  · exact h
  · exact State.evaluateFull_receiverFull _

/-- A missed grab raises SAMPLER (R151). -/
theorem State.disposeGrab_raises (moved : s.disposeGrab.sampler.counts.missed ≠ s.sampler.counts.missed) (p : Port) :
    ((s.disposeGrab.ports.get p).events.get .sampler).flag = true := by
  obtain ⟨c, e, -⟩ | ⟨y, e, -, kept, -⟩ := s.disposeGrab_missed_or_taken <;> rw [e] at moved ⊢
  · simp
  · rw [State.evaluateFull_sampler] at moved
    exact absurd kept moved

theorem State.dueGrab_paced (s : State) (g : Nat) : s.Paced (s.dueGrab g) := by
  unfold State.dueGrab
  dsimp only
  split
  · exact ⟨fun h => State.disposeGrab_accounted (congrArg (· + 1) h), fun h => State.disposeGrab_receiverFull h,
      State.disposeGrab_raises, (State.raises_disposeGrab _).from_ports rfl⟩
  · exact ⟨id, id, fun moved => absurd rfl moved, .of_ports rfl⟩

/-! ### Grab by grab (R150) -/

/-- As long as A holds a G for each, so many grabs fall due one after the other. -/
theorem State.dueGrabs_eq_iterate {g n : Nat} (holds : n * g ≤ s.sampler.volume) :
    State.dueGrabs g n s = (State.dueGrab g)^[n] s := by
  induction n generalizing s with
  | zero => rfl
  | succ n ih =>
    rw [Nat.succ_mul] at holds
    rw [State.dueGrabs, if_pos (by omega), Function.iterate_succ_apply]
    exact ih (by rw [State.dueGrab_volume]; omega)

/-- What one grab leaves, many leave. -/
theorem State.iterate_dueGrab_of_kept {α : Type} {f : State → α} {g : Nat} (kept : ∀ s, f (s.dueGrab g) = f s) (n : Nat) :
    f ((State.dueGrab g)^[n] s) = f s := by
  induction n with
  | zero => rfl
  | succ n ih => rw [Function.iterate_succ_apply', kept, ih]

theorem State.iterate_dueGrab_paced (s : State) (g n : Nat) : s.Paced ((State.dueGrab g)^[n] s) := by
  induction n with
  | zero => exact .refl s
  | succ n ih =>
    rw [Function.iterate_succ_apply']
    exact ih.trans (State.dueGrab_paced _ g)

theorem State.iterate_dueGrab_due (low : s.sampler.counts.due ≤ 4294967295) (g n : Nat) :
    ((State.dueGrab g)^[n] s).sampler.counts.due = min (s.sampler.counts.due + n) 4294967295 := by
  induction n with
  | zero => exact (Nat.min_eq_left low).symm
  | succ n ih => rw [Function.iterate_succ_apply', State.dueGrab_due g (by omega), ih]; omega

theorem State.iterate_dueGrab_capped (cap : 4294967295 ≤ s.sampler.counts.due) (g n : Nat) :
    ((State.dueGrab g)^[n] s).sampler = { s.sampler with volume := ((State.dueGrab g)^[n] s).sampler.volume } := by
  induction n with
  | zero => rfl
  | succ n ih =>
    rw [Function.iterate_succ_apply', State.dueGrab_capped (by rw [ih]; exact cap), ih]

/-! ### A gross increment (R150, R151) -/

/-- How many grabs an increment brings due: one for every whole G of the sum, and none past 4 294 967 295 (R150). -/
def Sampler.falls (x : Sampler) (u : SamplerSetup) (dG : Nat) : Nat :=
  min ((x.volume + dG) / u.interval) (4294967295 - x.counts.due)

/-- The state after some of an increment's grabs fell due. -/
def State.grabbed (s : State) (u : SamplerSetup) (dG n : Nat) : State :=
  (State.dueGrab u.interval)^[n] (s.setSampler { s.sampler with volume := s.sampler.volume + dG })

theorem State.dueGrabs_eq_grabbed (s : State) (u : SamplerSetup) (dG : Nat) :
    State.dueGrabs u.interval ((s.sampler.volume + dG) / u.interval)
      (s.setSampler { s.sampler with volume := s.sampler.volume + dG }) =
    s.grabbed u dG ((s.sampler.volume + dG) / u.interval) := State.dueGrabs_eq_iterate (Nat.div_mul_le_self _ _)

theorem State.sampleVolume_eq_grabbed (set : s.sampler.setup = some u) (room : s.sampler.counts.due < 4294967295)
    (dG : Nat) : s.sampleVolume dG = s.grabbed u dG ((s.sampler.volume + dG) / u.interval) := by
  rw [← State.dueGrabs_eq_grabbed]
  simp only [State.sampleVolume, set]
  exact if_pos room

theorem State.sampleVolume_of_cap (cap : 4294967295 ≤ s.sampler.counts.due) (dG : Nat) : s.sampleVolume dG = s := by
  unfold State.sampleVolume
  split
  · rfl
  · exact if_neg (Nat.not_lt.2 cap)

theorem State.grabbed_due (low : s.sampler.counts.due ≤ 4294967295) (u : SamplerSetup) (dG n : Nat) :
    (s.grabbed u dG n).sampler.counts.due = min (s.sampler.counts.due + n) 4294967295 :=
  State.iterate_dueGrab_due (s := s.setSampler { s.sampler with volume := s.sampler.volume + dG }) low u.interval n

theorem State.grabbed_fallsDue (set : s.sampler.setup = some u) {dG n : Nat} (less : n < s.sampler.falls u dG) :
    grabFallsDue u s.tick (s.grabbed u dG n).sampler (s.grabbed u dG (n + 1)).sampler := by
  unfold Sampler.falls at less
  have tick : (s.grabbed u dG n).tick = s.tick := State.iterate_dueGrab_of_kept (f := State.tick) (by simp) n
  have setup : (s.grabbed u dG n).sampler.setup = some u :=
    (State.iterate_dueGrab_of_kept (f := fun s => s.sampler.setup) (by simp) n).trans set
  have due := State.grabbed_due (show s.sampler.counts.due ≤ 4294967295 by omega) u dG n
  have next : s.grabbed u dG (n + 1) = (s.grabbed u dG n).dueGrab u.interval := Function.iterate_succ_apply' ..
  rw [next, ← tick]
  exact State.dueGrab_fallsDue setup (by omega)

/-- Past the last grab only A changes (R150). -/
theorem State.grabbed_falls (room : s.sampler.counts.due < 4294967295) (u : SamplerSetup) (dG : Nat) :
    let t := s.grabbed u dG ((s.sampler.volume + dG) / u.interval)
    t.sampler = { (s.grabbed u dG (s.sampler.falls u dG)).sampler with volume := t.sampler.volume } := by
  dsimp only
  by_cases all : (s.sampler.volume + dG) / u.interval ≤ 4294967295 - s.sampler.counts.due
  · rw [Sampler.falls, Nat.min_eq_left all]
  · have stop : s.sampler.falls u dG = 4294967295 - s.sampler.counts.due := Nat.min_eq_right (by omega)
    have cap : 4294967295 ≤ (s.grabbed u dG (s.sampler.falls u dG)).sampler.counts.due := by
      rw [State.grabbed_due room.le, stop]
      omega
    obtain ⟨k, e⟩ := Nat.exists_eq_add_of_le' (show s.sampler.falls u dG ≤ (s.sampler.volume + dG) / u.interval by omega)
    have rest : s.grabbed u dG ((s.sampler.volume + dG) / u.interval) =
        (State.dueGrab u.interval)^[k] (s.grabbed u dG (s.sampler.falls u dG)) := by
      rw [e]
      exact Function.iterate_add_apply ..
    rw [rest]
    exact State.iterate_dueGrab_capped cap ..

/-- What stays in A, and how many grabs fell due (R150). -/
theorem State.sampleVolume_counts (set : s.sampler.setup = some u) (room : s.sampler.counts.due < 4294967295)
    (positive : 0 < u.interval) (dG : Nat) :
    (s.sampleVolume dG).sampler.volume = (s.sampler.volume + dG) % u.interval ∧
      (s.sampleVolume dG).sampler.counts.due = s.sampler.counts.due + s.sampler.falls u dG := by
  rw [State.sampleVolume_eq_grabbed set room]
  constructor
  · rw [← State.dueGrabs_eq_grabbed]
    refine State.dueGrabs_volume _ _ _ ?_
    rw [Nat.mul_comm]
    exact Nat.lt_mul_div_succ _ positive
  · rw [State.grabbed_due room.le, Sampler.falls]
    omega

theorem State.grabbed_paced (s : State) (u : SamplerSetup) (dG n : Nat) : s.Paced (s.grabbed u dG n) := by
  have entered : s.Paced (s.setSampler { s.sampler with volume := s.sampler.volume + dG }) :=
    ⟨id, id, fun moved => absurd rfl moved, .of_ports rfl⟩
  exact entered.trans (State.iterate_dueGrab_paced _ _ n)

theorem State.sampleVolume_paced (s : State) (dG : Nat) : s.Paced (s.sampleVolume dG) := by
  cases set : s.sampler.setup with
  | none =>
    simp only [State.sampleVolume, set]
    exact .refl s
  | some u =>
    by_cases cap : 4294967295 ≤ s.sampler.counts.due
    · rw [State.sampleVolume_of_cap cap]
      exact .refl s
    · rw [State.sampleVolume_eq_grabbed set (Nat.not_le.1 cap)]
      exact s.grabbed_paced u dG _

end

/-! ### A sampler grab by grab (R151) -/

/-- The grabs of an increment that fall due at a tick take a sampler to another, one after the other: what the sampler is after
each is `grabs`, and past the last only A changes. -/
structure GrabByGrab (u : SamplerSetup) (tick : Tick) (dG : Nat) (x y : Sampler) (grabs : Nat → Sampler) : Prop where
  first : grabs 0 = { x with volume := x.volume + dG }
  each  : ∀ n, n < x.falls u dG → grabFallsDue u tick (grabs n) (grabs (n + 1))
  last  : y = { grabs (x.falls u dG) with volume := y.volume }

theorem State.sampleVolume_grabByGrab {u : SamplerSetup} {s : State} (set : s.sampler.setup = some u)
    (room : s.sampler.counts.due < 4294967295) (dG : Nat) :
    ∃ grabs, GrabByGrab u s.tick dG s.sampler (s.sampleVolume dG).sampler grabs := by
  refine ⟨fun n => (s.grabbed u dG n).sampler, rfl, fun _ less => State.grabbed_fallsDue set less, ?_⟩
  rw [State.sampleVolume_eq_grabbed set room]
  exact State.grabbed_falls room u dG

section
variable {u : SamplerSetup} {tick : Tick} {dG : Nat} {x y : Sampler} {grabs : Nat → Sampler}
  (h : GrabByGrab u tick dG x y grabs)
include h

/-- A sum below G brings no grab due. -/
theorem GrabByGrab.nothing (small : x.volume + dG < u.interval) (stays : y.volume = x.volume + dG) :
    y = { x with volume := x.volume + dG } := by
  have no_fall : x.falls u dG = 0 := by rw [Sampler.falls, Nat.div_eq_of_lt small, Nat.zero_min]
  have last := h.last
  rwa [no_fall, h.first, stays] at last

/-- Where each grab changes A and the counts alone, so do they all. -/
theorem GrabByGrab.run {counts : Nat → GrabCounts} (zero : counts 0 = x.counts)
    (next : ∀ n v w, grabFallsDue u tick { x with volume := v, counts := counts n } w →
      w = { x with volume := w.volume, counts := counts (n + 1) }) :
    y = { x with volume := y.volume, counts := counts (x.falls u dG) } := by
  have reaches (n : Nat) (le : n ≤ x.falls u dG) :
      grabs n = { x with volume := (grabs n).volume, counts := counts n } := by
    induction n with
    | zero => rw [h.first, zero]
    | succ n ih =>
      have falls := h.each n le
      rw [ih (by omega)] at falls
      exact next n _ _ falls
  refine h.last.trans ?_
  rw [reaches _ le_rfl]

/-- Under HOLD every grab is missed for HOLD. -/
theorem GrabByGrab.held (hold : x.hold = true) : y = { x with
    volume := y.volume
    counts := { x.counts with due := x.counts.due + x.falls u dG, hold := x.counts.hold + x.falls u dG } } := by
  refine h.run (counts := fun n => { x.counts with due := x.counts.due + n, hold := x.counts.hold + n }) rfl ?_
  rintro n v w ⟨missed, -⟩
  rw [missed hold]
  rfl

/-- With the receiver full, and no HOLD, every grab is missed for FULL. -/
theorem GrabByGrab.refused (free : x.hold = false) (full : x.full = true) : y = { x with
    volume := y.volume
    counts := { x.counts with due := x.counts.due + x.falls u dG, full := x.counts.full + x.falls u dG } } := by
  refine h.run (counts := fun n => { x.counts with due := x.counts.due + n, full := x.counts.full + n }) rfl ?_
  rintro n v w ⟨-, missed, -⟩
  rw [missed free full]
  rfl

/-- Grabs that fall due under HOLD or with the receiver full are missed. -/
theorem GrabByGrab.stopped (some : 0 < x.falls u dG) (stop : x.hold = true ∨ x.full = true) :
    y.counts.missed ≠ x.counts.missed := by
  cases hold : x.hold with
  | true =>
    rw [h.held hold]
    simp only [GrabCounts.missed]
    omega
  | false =>
    rw [h.refused hold (stop.resolve_left (by rw [hold]; nofun))]
    simp only [GrabCounts.missed]
    omega

/-- A single grab, with no HOLD and the receiver not full: issued from IDLE, queued, or missed for OVERFLOW (R151, R153). -/
theorem GrabByGrab.single (once : x.falls u dG = 1) (free : x.hold = false) (empty : x.full = false) :
    (x.output = .idle → y = { x with
      volume := y.volume, output := .pulse (tick + BitVec.ofNat 48 (x.width * 10000)), grabLine := some (!x.activeLow)
      fill := min (x.fill + u.size) u.capacity, full := y.full
      counts := { x.counts with due := x.counts.due + 1, issued := x.counts.issued + 1 } }) ∧
    (x.output ≠ .idle → x.pendingGrabs.length < 4 → y = { x with
      volume := y.volume, pendingGrabs := x.pendingGrabs ++ [.own], full := y.full
      counts := { x.counts with due := x.counts.due + 1 } }) ∧
    (x.output ≠ .idle → 4 ≤ x.pendingGrabs.length → y = { x with
      volume := y.volume
      counts := { x.counts with due := x.counts.due + 1, overflow := x.counts.overflow + 1 } }) := by
  have last := h.last
  obtain ⟨-, -, falls⟩ := h.each 0 (by omega)
  rw [once] at last
  rw [h.first] at falls
  obtain ⟨issued, queued, overflowed, -⟩ := falls free empty
  have full : y.full = (grabs 1).full := by rw [last]
  refine ⟨fun idle => last.trans ?_, fun busy few => last.trans ?_, fun busy many => last.trans ?_⟩
  · rw [issued idle, full]
  · rw [queued busy few, full]
  · rw [overflowed busy many]

/-- A grab that finds four waiting is missed (R151). -/
theorem GrabByGrab.overflowed (once : x.falls u dG = 1) (free : x.hold = false) (empty : x.full = false)
    (busy : x.output ≠ .idle) (many : 4 ≤ x.pendingGrabs.length) : y.counts.missed ≠ x.counts.missed := by
  obtain ⟨-, -, lost⟩ := h.single once free empty
  rw [lost busy many]
  simp only [GrabCounts.missed]
  omega

end

/-! ### The window of an expiry -/

/-- The sampler's side of a window that joins the batch below the target: it is that of the increment, and what the increment
raised stays raised. -/
theorem State.expiredJoined_sampler (s : State) (b : OpenBatch) (r : Run) :
    ∃ v : State, v.sampler = s.sampler ∧ v.tick = s.tick ∧
      (s.expiredJoined b r).sampler = (v.sampleVolume (closingGross s r)).sampler ∧
      (v.sampleVolume (closingGross s r)).Raises windowClasses (s.expiredJoined b r) := by
  refine ⟨(s.expiredTotals r).setBatch (some (b.addWindow r (closingFigures s r))), by simp, ?_, ?_,
    (State.raises_raiseIf (by decide) _ _).from_ports rfl⟩
  · simp [State.expiredTotals, State.afterTotals, State.evaluatedRun]
  · simp [State.expiredJoined, State.afterPreTarget]

/-- Settles O56: the window's gross litres go into A, each whole G of the sum brings one grab due, and R151 disposes of them one
by one. -/
theorem grabsFallDueByGrossVolume : Obligations.GrabsFallDueByGrossVolume := by
  intro r s b u x dG due falls on _ opened member below legal set setupLegal
  obtain ⟨-, -, evaluated, accounted, -⟩ := legal
  obtain ⟨positive, -⟩ := setupLegal
  have full : x.full = true ↔ x.receiverFull := by
    rw [evaluated on.1]
    exact Sampler.isFull_iff x
  obtain ⟨v, sampler, tick, increment, raised⟩ := s.expiredJoined_sampler b r
  rw [← State.expiredWindow_joined opened member below] at increment raised
  have paced := v.sampleVolume_paced dG
  refine ⟨_, exec_windowExpiry r on, fun cap => ?_, fun room => ?_, ?_⟩
  · rw [increment, State.sampleVolume_of_cap (by rw [sampler]; exact cap), sampler]
  · obtain ⟨volume, counted⟩ := State.sampleVolume_counts (by rwa [sampler]) (by rwa [sampler]) positive dG
    obtain ⟨grabs, paces⟩ := State.sampleVolume_grabByGrab (s := v) (by rwa [sampler]) (by rwa [sampler]) dG
    rw [sampler, tick, ← increment] at paces
    rw [sampler, ← increment] at volume counted
    have missed (moved : (s.expiredWindow r).sampler.counts.missed ≠ x.counts.missed) (p : Port) :
        (((s.expiredWindow r).ports.get p).events.get .sampler).flag = true :=
      raised.flags p _ (paced.missed (by rwa [← increment, sampler]) p)
    refine ⟨volume, counted, increment ▸ paced.accounted (sampler ▸ accounted), ⟨grabs, paces.first, paces.each, paces.last⟩,
      missed, fun none => ?_, paces.held, paces.refused, fun some stop => missed (paces.stopped ?_ stop),
      fun once free empty => ?_⟩
    · have small : x.volume + dG < u.interval := (Nat.div_eq_zero_iff.1 none).resolve_left (Nat.ne_of_gt positive)
      exact paces.nothing small (volume.trans (Nat.mod_eq_of_lt small))
    · exact Nat.lt_min.2 ⟨Nat.pos_of_ne_zero some, Nat.sub_pos_of_lt room⟩
    · obtain ⟨issued, queued, overflowed⟩ := paces.single once free empty
      have lost (busy : x.output ≠ .idle) (four : x.pendingGrabs.length = 4) :=
        missed (paces.overflowed once free empty busy four.ge)
      exact ⟨issued, queued, fun busy four => ⟨overflowed busy four.ge, lost busy four⟩⟩
  · rw [increment]
    exact paced.full (by rw [sampler]; exact full)

end Sys2Proof.Machine
end

section
/-! PROOFS. Commands, shared operations and the serial ports: each command's next state, what raising and responding leave
(R163, R166, R177, R178), the shifting of bits (R163, R166), the frames of requests (R164, R165), NOP and IDENTIFY (R173, R174),
with the settled statements. -/

namespace Sys2Proof.Machine

/-! ### Every command ends in a next state (R168) -/

/-- Settles O1: the front command is taken whole. -/
theorem stepTakesFrontCommand : Obligations.StepTakesFrontCommand := by
  intro c rest s front
  simp only [step, front]

section
variable (s : State)

/-- A choice between two next states is a next state. -/
theorem exists_next_ite {c : Prop} [Decidable c] (t u : State) :
    ∃ v, (if c then .next t else .next u : Host.Outcome State Fault Refusal) = .next v := by
  split
  · exact ⟨t, rfl⟩
  · exact ⟨u, rfl⟩

theorem execEdgeEvent_completes (r : Run) (a b : Bool) (tick : Tick) : ∃ t, execEdgeEvent r a b tick s = .next t := by
  unfold execEdgeEvent
  dsimp only
  split
  · exact ⟨_, rfl⟩
  · split <;> exact ⟨_, rfl⟩

theorem execWindowExpiry_completes (r : Run) : ∃ t, execWindowExpiry r s = .next t := by
  unfold execWindowExpiry
  dsimp only
  split
  · exact ⟨_, rfl⟩
  · exact exists_next_ite _ _

theorem execPulseEnd_completes : ∃ t, execPulseEnd s = .next t := by
  unfold execPulseEnd
  split <;> exact ⟨_, rfl⟩

theorem execGapEnd_completes : ∃ t, execGapEnd s = .next t := by
  unfold execGapEnd
  split
  · split <;> exact ⟨_, rfl⟩
  · exact ⟨_, rfl⟩

theorem execJobComplete_completes : ∃ t, execJobComplete s = .next t := by
  unfold execJobComplete
  split <;> exact ⟨_, rfl⟩

theorem execPowerFailClear_completes : ∃ t, execPowerFailClear s = .next t := by
  unfold execPowerFailClear
  split
  · exact exists_next_ite _ _
  · exact ⟨_, rfl⟩

theorem execSckEdge_completes (p : Port) (edge : SckEdge) : ∃ t, execSckEdge p edge s = .next t := by
  unfold execSckEdge
  dsimp only
  split <;> exact ⟨_, rfl⟩

end

/-- Settles O5: an event command takes one of its cases, each a next state, and a request or a frame error is answered. -/
theorem everyCommandCompletes : Obligations.EveryCommandCompletes := by
  intro i s
  cases i
  case edgeEvent => exact execEdgeEvent_completes s _ _ _ _
  case windowExpiry => exact execWindowExpiry_completes s _
  case pulseEnd => exact execPulseEnd_completes s
  case gapEnd => exact execGapEnd_completes s
  case jobComplete => exact execJobComplete_completes s
  case powerFailClear => exact execPowerFailClear_completes s
  case sckEdge => exact execSckEdge_completes s _ _
  case restoreComplete | integrityBlockEnd | rcvhiChange | noDetector | periodicCheckpoint | detectorEvent | passTimeout
    | powerFailWarning | transactionBegin => exact exists_next_ite _ _
  all_goals exact ⟨_, rfl⟩

/-! ### Raising and responding (R163, R166, R177, R178) -/

/-- A response moves no select pin but its own port's (log entry 6). -/
theorem State.respond_select_ne {p q : Port} (echo : Byte) (a : Answer) (s : State) (h : q ≠ p) :
    (s.respond p echo a).lines.select.get q = s.lines.select.get q := PerPort.get_set_ne _ _ h

/-- Settles O16: the occurrence of a class in one port, taken in every port; and the response put into its own port. -/
theorem raisingAndResponding : Obligations.RaisingAndResponding := by
  refine ⟨fun c s => ⟨s.raise_frame c, fun p => ⟨_, s.raise_get c p, ?_⟩⟩, fun p echo a s =>
    ⟨s.respond_frame p echo a, s.respond_get_self p echo a, fun q other => s.respond_get_ne echo a other, rfl,
      fun q other => s.respond_select_ne echo a other⟩⟩
  have own := PortState.occur_get_self c (s.ports.get p)
  refine ⟨PortState.occur_frame c _, ?_, ?_, ?_, fun d other => PortState.occur_get_ne _ other, alertCondition_iff _ _⟩ <;>
    rw [own]

/-! ### Frames that are not taken, and the bits of a transaction (R163, R165, R166, R169) -/

/-- Settles O19: both commands are a response and nothing else. -/
theorem malformedAndUnknownFramesChangeNothing : Obligations.MalformedAndUnknownFramesChangeNothing :=
  fun _ _ _ _ => ⟨rfl, rfl⟩

/-- The first bit that a port presents is that of its response's status byte (R163, R166). -/
theorem Response.bit_zero (x : Response) : x.bit 0 = byteBit (statusCode x.status) 0 := rfl

/-- Settles O20: the fall selects an idle port that was accepted high, and a selected port shifts at each edge of SCK. -/
theorem selectedPortShiftsItsResponse : Obligations.SelectedPortShiftsItsResponse := by
  refine fun p s => ⟨fun high idle => ?_, fun bits n selected => ⟨fun sdi => ?_, ?_⟩⟩
  · have begun : exec (.transactionBegin p) s = _ := if_pos ⟨high, idle⟩
    refine ⟨_, begun, rfl, fun q other => PerPort.get_set_ne _ _ other, ?_⟩
    rw [State.setPort_ports, Response.bit_zero]
  · show execSckEdge p (.rising sdi) s = _
    simp only [execSckEdge, selected]
  · show execSckEdge p .falling s = _
    simp only [execSckEdge, selected, Response.bit]

/-! ### The bits of a frame (R163, R164) -/

theorem byteOfBits_of_byte (b : Byte) : byteOfBits (b.getLsbD 7) (b.getLsbD 6) (b.getLsbD 5) (b.getLsbD 4) (b.getLsbD 3)
    (b.getLsbD 2) (b.getLsbD 1) (b.getLsbD 0) = b := by
  revert b; decide

/-- The bits of bytes are read as those bytes, with no bit left over. -/
theorem bytesOfBits_bitsOfBytes (bytes : List Byte) : bytesOfBits (bitsOfBytes bytes) = (bytes, []) := by
  induction bytes with
  | nil => rfl
  | cons b rest ih =>
    have bits : bitsOfBytes (b :: rest) = bitsOfByte b ++ bitsOfBytes rest := rfl
    rw [bits]
    simp only [bitsOfByte, List.cons_append, List.nil_append, bytesOfBits, ih, byteOfBits_of_byte]

theorem decodeFrame_bitsOfBytes (p : Port) (bytes : List Byte) : decodeFrame p (bitsOfBytes bytes) = decodeBytes p bytes := by
  rw [decodeFrame, bytesOfBits_bitsOfBytes]

/-- A frame with any fill after it is read as its code and arguments (R164). -/
theorem decodeBytes_frameBytes (p : Port) (code : Byte) {args : List Byte} (fits : args.length ≤ maxArguments) (fill : Nat) :
    decodeBytes p (frameBytes code args ++ List.replicate fill 0xFF) = requestOf p code args := by
  have length : (BitVec.ofNat 8 args.length).toNat = args.length := by
    rw [BitVec.toNat_ofNat]
    exact Nat.mod_eq_of_lt (fits.trans_lt (by decide))
  simp only [frameBytes, List.cons_append, decodeBytes, length, List.take_left, List.drop_left]
  exact if_pos ⟨fits, by simp, by simp⟩

/-- The frame of a well-formed request spells that request alone: its code leads to its row, and RUN_ENABLE and
RUN_ENABLE_OFF part at their second argument byte (R164, R169). -/
theorem requestOf_frameParts (i : Instr) : Laws.PortOfRequest.Statement i := by
  cases i
  case reset | restoreComplete | edgeEvent | integrityBlockEnd | windowExpiry | pulseEnd | gapEnd | rcvhiChange
    | oneSecondEvent | proposalExpiry | noDetector | periodicCheckpoint | detectorEvent | passTimeout | jobComplete
    | powerFailWarning | powerFailClear | frameError | transactionBegin | sckEdge =>
    exact Laws.PortOfRequest.of_none rfl
  case unknownRequest => exact Laws.PortOfRequest.unknownRequest _ _
  case runEnable => exact Laws.PortOfRequest.runEnable _ _
  case runEnableOff => exact Laws.PortOfRequest.runEnableOff _ _
  all_goals exact Laws.PortOfRequest.of_some rfl (fun _ => rfl) id

/-- Settles O17: the bits give back the bytes, the bytes the code and arguments, and these the request. -/
theorem decodeOfEncodedFrameIsTheRequest : Obligations.DecodeOfEncodedFrameIsTheRequest := by
  intro i fill p bits legal encoded
  obtain ⟨⟨_, code, args⟩, parts, same⟩ := Option.map_eq_some_iff.1 encoded
  obtain ⟨rfl, rfl⟩ := Prod.mk.inj same
  obtain ⟨request, fits⟩ := requestOf_frameParts i legal _ _ _ parts
  rw [decodeFrame_bitsOfBytes, decodeBytes_frameBytes _ _ fits, request]

/-! ### NOP and IDENTIFY (R173, R174) -/

theorem takeRequest_restoring {s : State} (restoring : s.isRestoring = true) (p : Port) (row : CatalogueRow) (args : List Byte)
    (body : State → State × Answer) : takeRequest p row args body s = s.respond p row.code (.refuse .starting) := by
  simp only [takeRequest, refusalBefore, restoring, if_true]

theorem identityFields_eq (p : Port) : identityFields p =
    [0x0C, 0x04, 1, BitVec.ofNat 8 (portNumber p), 4, 8, 8, 24, 28, 6, 20, 4, 14, 60, 64] := by
  cases p <;> decide

/-- Settles O21: both only read, and only RESTORING keeps them from their answer. -/
theorem nopAndIdentifyAnswer : Obligations.NopAndIdentifyAnswer := by
  refine fun p s => ⟨fun ready => congrArg Host.Outcome.next (takeRequest_eq ready rfl rfl rfl),
    fun restoring => congrArg Host.Outcome.next (takeRequest_restoring restoring p _ _ _), fun t e => ?_, fun ready => ?_,
    rfl, rfl, rfl⟩
  · have empty (x : Status) : (((s.respond p 0x00 ⟨x, []⟩).ports.get p).response.bytes).length = 3 := by
      rw [State.respond_get_self]; rfl
    cases e
    by_cases restoring : s.isRestoring = true
    · rw [takeRequest_restoring restoring]
      exact empty _
    · rw [takeRequest_eq (Bool.eq_false_iff.2 restoring) rfl rfl rfl]
      exact empty _
  · rw [← identityFields_eq]
    exact congrArg Host.Outcome.next (takeRequest_eq ready rfl rfl rfl)

end Sys2Proof.Machine
end

section
/-! PROOFS. What a request's own rule leaves in the ports (R163, R166, R177, R182): raising a class touches its flag, its count and
the ALERT line, and neither a transaction, a response, a threshold nor a level. One lemma per operation. -/

namespace Sys2Proof.Machine

/-! ### The settings of a port -/

/-- A port's transaction, its response and the settings of its event flags are as another's: all but flags, counts, causes and
the ALERT line. -/
structure PortState.SameSettings (x y : PortState) : Prop where
  transaction : y.transaction = x.transaction
  sdo         : y.sdo = x.sdo
  response    : y.response = x.response
  seenHigh    : y.selectSeenHigh = x.selectSeenHigh
  threshold   : y.threshold = x.threshold
  level       : ∀ c, (y.events.get c).level = (x.events.get c).level

/-- Every port's transaction, response and settings are as they were. -/
def State.SameSettings (s t : State) : Prop := ∀ p, (s.ports.get p).SameSettings (t.ports.get p)

theorem PortState.SameSettings.refl (x : PortState) : x.SameSettings x := ⟨rfl, rfl, rfl, rfl, rfl, fun _ => rfl⟩

theorem PortState.SameSettings.trans {x y z : PortState} (h : x.SameSettings y) (k : y.SameSettings z) : x.SameSettings z :=
  ⟨k.transaction.trans h.transaction, k.sdo.trans h.sdo, k.response.trans h.response, k.seenHigh.trans h.seenHigh,
    k.threshold.trans h.threshold, fun c => (k.level c).trans (h.level c)⟩

theorem PortState.occur_sameSettings (c : EventClass) (x : PortState) : x.SameSettings (x.occur c) := by
  refine ⟨rfl, rfl, rfl, rfl, rfl, fun d => ?_⟩
  by_cases e : d = c
  · subst e; rw [PortState.occur_get_self]
  · rw [PortState.occur_get_ne _ e]

theorem PortState.occurRetention_sameSettings (cause : RetentionCause) (x : PortState) :
    x.SameSettings (x.occurRetention cause) :=
  ⟨rfl, rfl, rfl, rfl, rfl,
    (PortState.occur_sameSettings .retention { x with causes := x.causes.insert cause }).level⟩

section
variable {s t u : State}

theorem State.SameSettings.of_ports (h : t.ports = s.ports) : s.SameSettings t := fun _ => h ▸ .refl _

theorem State.SameSettings.refl (s : State) : s.SameSettings s := .of_ports rfl

theorem State.SameSettings.trans (h : s.SameSettings t) (k : t.SameSettings u) : s.SameSettings u :=
  fun p => (h p).trans (k p)

/-- An operation's effect on the ports does not depend on what else the state before it holds. -/
theorem State.SameSettings.from_ports (h : s.SameSettings t) (e : s.ports = u.ports) : u.SameSettings t :=
  State.SameSettings.trans (.of_ports e) h

/-! ### Raising a class (R177) -/

theorem State.raise_sameSettings (c : EventClass) (s : State) : s.SameSettings (s.raise c) :=
  fun p => by rw [State.raise_get]; exact PortState.occur_sameSettings c _

theorem State.raiseIf_sameSettings (b : Bool) (c : EventClass) (s : State) : s.SameSettings (s.raiseIf b c) := by
  cases b
  · exact .refl s
  · exact s.raise_sameSettings c

theorem State.raiseTimes_sameSettings (c : EventClass) (n : Nat) (s : State) : s.SameSettings (s.raiseTimes c n) := by
  induction n generalizing s with
  | zero => exact .refl s
  | succ n ih => exact (s.raise_sameSettings c).trans (ih _)

theorem State.raiseFor_sameSettings (p : Port) (c : EventClass) (s : State) : s.SameSettings (s.raiseFor p c) := by
  intro q
  simp only [State.raiseFor, State.setPort_ports, PerPort.get_set]
  split
  · rename_i e; subst e; exact PortState.occur_sameSettings c _
  · exact .refl _

theorem State.raiseRetention_sameSettings (x : RetentionCause) (s : State) : s.SameSettings (s.raiseRetention x) :=
  fun p => by rw [State.raiseRetention_get]; exact PortState.occurRetention_sameSettings x _

theorem State.raiseRetentionTimes_sameSettings (x : RetentionCause) (n : Nat) (s : State) :
    s.SameSettings (s.raiseRetentionTimes x n) := by
  induction n generalizing s with
  | zero => exact .refl s
  | succ n ih => exact (s.raiseRetention_sameSettings x).trans (ih _)

/-! ### The write queue (R184 to R187) -/

theorem State.beginJob_sameSettings (s : State) : s.SameSettings s.beginJob := by
  unfold State.beginJob
  dsimp only
  split
  case h_4 =>
    split
    · exact (State.raiseRetentionTimes_sameSettings _ _ _).from_ports rfl
    · exact .of_ports rfl
  all_goals exact .of_ports rfl

theorem State.joinQueue_sameSettings (j : Job) (s : State) : s.SameSettings (s.joinQueue j) := by
  unfold State.joinQueue
  dsimp only
  split
  · exact (State.beginJob_sameSettings _).from_ports rfl
  · exact .of_ports rfl

theorem State.requestRecord_sameSettings (r : BatchRecord) (s : State) : s.SameSettings (s.requestRecord r) := by
  unfold State.requestRecord
  split
  · exact s.joinQueue_sameSettings _
  · exact (State.raiseRetention_sameSettings _ _).from_ports rfl

theorem State.requestCheckpoint_sameSettings (s : State) : s.SameSettings s.requestCheckpoint := by
  unfold State.requestCheckpoint
  split
  · exact .refl s
  · split
    · exact s.joinQueue_sameSettings _
    · exact .of_ports rfl

theorem State.requestParameters_sameSettings (s : State) : s.SameSettings s.requestParameters := by
  unfold State.requestParameters
  split
  · exact .of_ports rfl
  · split
    · exact .refl s
    · split
      · exact s.joinQueue_sameSettings _
      · exact .of_ports rfl

/-! ### The batch and the sampler (R68 to R80, R84, R88, R150 to R159) -/

theorem State.dropFor_sameSettings (oldest : Nat) (s : State) (p : Port) : s.SameSettings (State.dropFor oldest s p) := by
  unfold State.dropFor
  split
  · exact (State.raiseFor_sameSettings p _ _).from_ports rfl
  · exact .refl s

theorem State.appendRecord_sameSettings (r : BatchRecord) (s : State) : s.SameSettings (s.appendRecord r) := by
  have dropped : s.SameSettings s.dropOldest := by
    unfold State.dropOldest
    split
    · exact (((State.dropFor_sameSettings _ _ .opr).trans (State.dropFor_sameSettings _ _ .wit)).trans
        (State.dropFor_sameSettings _ _ .sup)).from_ports rfl
    · exact .refl s
  exact dropped.trans (.of_ports rfl)

theorem State.closeBatch_sameSettings (cause : CloseCause) (overshoot : Nat) (b : OpenBatch) (s : State) :
    s.SameSettings (s.closeBatch cause overshoot b) := by
  rw [State.closeBatch_eq]
  have appended : s.SameSettings (s.afterAppend (s.assembleRecord b cause overshoot)) :=
    (s.appendRecord_sameSettings (s.assembleRecord b cause overshoot)).trans (.of_ports rfl)
  exact ((appended.trans (State.requestRecord_sameSettings _ _)).trans (State.requestCheckpoint_sameSettings _)).trans
    (State.raise_sameSettings _ _)

theorem State.openBatch_sameSettings (plan : Plan) (index remaining : Nat) (s : State) :
    s.SameSettings (s.openBatch plan index remaining) := (State.raise_sameSettings _ _).from_ports rfl

theorem State.openFromQueue_sameSettings (plan : Plan) (rest : List Plan) (s : State) :
    s.SameSettings (s.openFromQueue plan rest) := (State.openBatch_sameSettings _ _ _ _).from_ports rfl

theorem State.continueAfter_sameSettings (b : OpenBatch) (s : State) : s.SameSettings (s.continueAfter b) := by
  unfold State.continueAfter
  split
  · exact .refl s
  · split
    · exact .refl s
    · split
      · exact .refl s
      · exact s.openFromQueue_sameSettings _ _
    · split
      · exact s.openBatch_sameSettings _ _ _
      · exact .refl s

theorem State.evaluateFull_sameSettings (s : State) : s.SameSettings s.evaluateFull :=
  (State.raiseIf_sameSettings _ _ _).from_ports rfl

theorem State.disposeGrab_sameSettings (s : State) : s.SameSettings s.disposeGrab := by
  obtain ⟨-, e⟩ | ⟨-, -, e⟩ | ⟨-, -, -, e⟩ | ⟨-, -, -, -, e⟩ | ⟨-, -, -, -, e⟩ := s.disposeGrab_cases <;> rw [e]
  · exact (State.raise_sameSettings _ _).from_ports rfl
  · exact (State.raise_sameSettings _ _).from_ports rfl
  · exact (State.evaluateFull_sameSettings _).from_ports rfl
  · exact (State.evaluateFull_sameSettings _).from_ports rfl
  · exact (State.raise_sameSettings _ _).from_ports rfl

theorem State.dueGrab_sameSettings (interval : Nat) (s : State) : s.SameSettings (s.dueGrab interval) := by
  unfold State.dueGrab
  dsimp only
  split
  · exact (State.disposeGrab_sameSettings _).from_ports rfl
  · exact .of_ports rfl

theorem State.dueGrabs_sameSettings (interval n : Nat) (s : State) : s.SameSettings (s.dueGrabs interval n) := by
  induction n generalizing s with
  | zero => exact .refl s
  | succ n ih =>
    unfold State.dueGrabs
    split
    · exact (s.dueGrab_sameSettings interval).trans (ih _)
    · exact .refl s

theorem State.sampleVolume_sameSettings (dG : Nat) (s : State) : s.SameSettings (s.sampleVolume dG) := by
  unfold State.sampleVolume
  split
  · exact .refl s
  · split
    · exact (State.dueGrabs_sameSettings _ _ _).from_ports rfl
    · exact .refl s

/-! ### A window's hand-off (R25 to R33, R36 to R41, R70 to R72) -/

theorem State.testTargets_sameSettings (b : OpenBatch) (s : State) : s.SameSettings (s.testTargets b) := by
  have tested : s.SameSettings (s.afterPreTarget b) := (State.raiseIf_sameSettings _ _ _).from_ports rfl
  obtain ⟨-, e⟩ | ⟨-, e⟩ := s.testTargets_cases b <;> rw [e]
  · exact (tested.trans (State.closeBatch_sameSettings _ _ _ _)).trans (State.continueAfter_sameSettings _ _)
  · exact tested

theorem State.routeWindow_sameSettings (r : Run) (w : WindowFigures) (s : State) : s.SameSettings (s.routeWindow r w) := by
  unfold State.routeWindow State.batchWindow
  split
  · rename_i b _
    have sampled : s.SameSettings ((s.setBatch (some (b.addWindow r w))).sampleVolume w.gross) :=
      (State.sampleVolume_sameSettings _ _).from_ports (State.setBatch_ports _ _)
    exact sampled.trans (State.testTargets_sameSettings _ _)
  · exact .of_ports (State.unbatchedWindow_ports _ _ _)

theorem State.computeWindow_sameSettings (r : Run) (f : Nat) (w : WindowCounts) (s : State) :
    s.SameSettings (s.computeWindow r f w) := by
  rw [State.computeWindow_eq]
  have totalled : s.SameSettings (s.afterTotals r f w.pulses) :=
    (State.raiseIf_sameSettings _ _ _).from_ports (State.setTotalizer_ports _ _ _)
  exact totalled.trans (State.routeWindow_sameSettings _ _ _)

/-! ### Sessions and run states (R17, R20, R21, R119 to R126) -/

theorem State.offerResult_sameSettings (r : Run) (x : ProvingResult) (s : State) : s.SameSettings (s.offerResult r x).1 := by
  obtain e | e | ⟨c, slot, -, e⟩ := s.offerResult_cases r x <;> rw [e]
  · exact .of_ports rfl
  · exact .of_ports rfl
  · exact (State.raise_sameSettings .proposal (s.setControl c)).from_ports rfl

theorem State.abortSession_sameSettings (a : AbortReason) (s : State) : s.SameSettings (s.abortSession a) := by
  have ended (u : State) : u.SameSettings (u.endSession .resultAborted a 0 0) := by
    unfold State.endSession
    dsimp only
    split
    · exact (State.raise_sameSettings _ _).from_ports rfl
    · exact (State.raise_sameSettings _ _).from_ports (by simp)
  unfold State.abortSession
  dsimp only
  split
  · exact ended s
  iterate 2 exact (ended _).from_ports rfl
  · exact .refl s

theorem State.setRunState_sameSettings (r : Run) (x : RunState) (s : State) : s.SameSettings (s.setRunState r x) := by
  have raised : s.SameSettings (State.raise .runState (s.setChannel r { s.channels.get r with runState := x })) :=
    (State.raise_sameSettings _ _).from_ports rfl
  obtain ⟨-, e⟩ | ⟨-, -, -, e⟩ | ⟨-, -, e⟩ := s.setRunState_cases r x <;> rw [e]
  · exact .refl s
  · exact raised.trans (State.abortSession_sameSettings _ _)
  · exact raised

theorem State.disabledRun_sameSettings (r : Run) (s : State) : s.SameSettings (s.disabledRun r) := by
  have final : s.SameSettings (s.finalWindow r) := (State.computeWindow_sameSettings _ _ _ _).from_ports rfl
  exact (final.trans (State.setRunState_sameSettings _ _ _)).trans (.of_ports rfl)

/-! ### Change control (R134 to R143) -/

theorem State.postProposal_sameSettings {c : Change} {o : Originator} {d : Bool} {id slot : Nat}
    (h : s.postProposal c o d = some (t, id, slot)) : s.SameSettings t := by
  obtain ⟨-, -, x, rfl, -⟩ := State.postProposal_some h
  exact (State.raise_sameSettings .proposal (s.setControl x)).from_ports rfl

theorem State.applyChange_sameSettings (c : Change) (s : State) : s.SameSettings (s.applyChange c).1 := by
  have curve (r : Run) (changed : Except FailureReason (List CurvePoint)) : s.SameSettings (s.ownCurve r changed).1 := by
    unfold State.ownCurve
    split <;> exact .of_ports rfl
  cases c with
  | kFactor r kx =>
    have applied : s.SameSettings (s.applyKFactor r kx) := .of_ports (State.applyKFactor_ports _ _ _)
    simp only [State.applyChange, State.ownKFactor]
    split
    · exact applied.trans (State.abortSession_sameSettings _ _)
    · exact applied
  | mfPoint r f m => exact curve r _
  | mfPointDelete r f => exact curve r _
  | proverVolume bv => exact (State.abortSession_sameSettings .paramChanged _).from_ports rfl
  | samplerSetup g size cap => exact (State.evaluateFull_sameSettings _).from_ports rfl

theorem State.applyProposal_sameSettings (slot : Nat) (x : Proposal) (s : State) :
    s.SameSettings (s.applyProposal slot x) := by
  have owned (c : ChangeControl) : s.SameSettings ((s.applyChange x.change).1.setControl c) :=
    (s.applyChange_sameSettings _).trans (.of_ports rfl)
  obtain ⟨c, e⟩ | ⟨c, d, n, e⟩ := s.applyProposal_cases slot x <;> rw [e]
  · exact (owned c).trans (State.raise_sameSettings _ _)
  · exact ((owned c).trans (State.requestParameters_sameSettings _)).trans
      ((State.raiseTimes_sameSettings _ _ _).from_ports rfl)

theorem State.concur_sameSettings (p : Port) (id : Nat) (s : State) : s.SameSettings (s.concur p id).1 := by
  obtain e | ⟨slot, x, -, e | e⟩ := s.concur_cases p id <;> rw [e]
  · exact .refl s
  · exact .of_ports rfl
  · exact (State.applyProposal_sameSettings _ _ _).from_ports rfl

end

end Sys2Proof.Machine
end

section
/-! PROOFS. The own rule of every request (R162, R163, R169): it refuses and changes nothing, or answers OK with at most 64 bytes, and
reaches no other port's transaction, response or settings. -/

namespace Sys2Proof.Machine

/-- What holds of the state that a request on a port leaves and of its answer, whatever the request: a refusal changes nothing
and carries no data, the data have at most 64 bytes, and the other ports keep their transaction, response and settings. -/
structure Decision (p : Port) (s : State) (x : State × Answer) : Prop where
  refuses : x.2.status ≠ .ok → x = refused x.2.status s
  size    : s.custodyLegal → s.tableLegal → x.2.data.length ≤ 64
  others  : ∀ q, q ≠ p → (s.ports.get q).SameSettings (x.1.ports.get q)

section
variable {p : Port} {s t : State} {data : List Byte}

/-! ### Refusals, reads and completions -/

theorem Decision.refused (status : Status) : Decision p s (refused status s) :=
  ⟨fun _ => rfl, fun _ _ => Nat.zero_le _, fun _ _ => .refl _⟩

theorem Decision.completed (size : data.length ≤ 64) (kept : s.SameSettings t) : Decision p s (t, .okWith data) :=
  ⟨fun failed => absurd rfl failed, fun _ _ => size, fun q _ => kept q⟩

theorem Decision.reads (size : data.length ≤ 64) : Decision p s (reads data s) := .completed size (.refl s)

/-- A request that changes its own port alone. -/
theorem Decision.ownPort (size : data.length ≤ 64) (x : PortState) : Decision p s (s.setPort p x, .okWith data) :=
  ⟨fun failed => absurd rfl failed, fun _ _ => size,
    fun q other => (PerPort.get_set_ne s.ports x other).symm ▸ .refl (s.ports.get q)⟩

/-! ### Reads (R45 to R47, R57, R65, R83, R127, R128, R148, R161, R175, R179, R180) -/

theorem Decision.readTime : Decision p s (Machine.reads s.timeFields s) :=
  .reads (by simp [State.timeFields, tickField, secondsField, flagsByte])

theorem Decision.readEvents : Decision p s (Machine.reads (s.ports.get p).eventFields s) :=
  .reads (by simp [PortState.eventFields, allClasses, indication, causesByte, flagsByte])

theorem Decision.topEvent : Decision p s (Machine.reads (s.ports.get p).topFields s) := by
  refine .reads ?_
  unfold PortState.topFields
  split <;> simp [indication]

theorem Decision.readSampler : Decision p s (Machine.reads s.samplerData s) := by
  refine .reads ?_
  simp only [State.samplerData, flagsByte, List.length_append, field_length, List.length_singleton]
  decide

theorem Decision.readRun (number part : Nat) : Decision p s (s.readRun number part) := by
  unfold State.readRun
  split
  · exact .refused _
  · split
    · exact .reads (by simp [channelFields, faultFields, flagsByte])
    · exact .reads (by simp [totalizerFields, tripleFields, faultFields, flagsByte])
    · exact .refused _

theorem Decision.readTotals (number scale : Nat) : Decision p s (s.readTotals number scale) := by
  unfold State.readTotals
  split
  · exact .refused _
  · exact .reads (by simp [tickField, tripleFields])

theorem pointFields_flatMap_length (points : List CurvePoint) : (points.flatMap pointFields).length = points.length * 6 := by
  simp [List.length_flatMap, pointFields]

/-- READ_CURVE carries six bytes for each point, of which a legal curve has at most 8 (R48, R57). -/
theorem Decision.readCurve (number : Nat) : Decision p s (s.readCurve number) := by
  unfold State.readCurve
  split
  · exact .refused _
  · rename_i r _
    refine ⟨fun failed => absurd rfl failed, fun custody _ => ?_, fun _ _ => .refl _⟩
    obtain ⟨⟨-, curves, -⟩, -⟩ := custody
    obtain ⟨points, -⟩ := curves r
    have captured : s.captureParameters.curves.get r = s.curves.get r := rfl
    rw [captured] at points
    simp only [Machine.reads, Answer.okWith, List.length_append, field_length, pointFields_flatMap_length]
    omega

theorem Decision.readQueue (index : Nat) : Decision p s (s.readQueue index) := by
  unfold State.readQueue
  split
  · exact .refused _
  · exact .reads (by simp [planFields])

theorem batchHeaderFields_length (b : Option OpenBatch) : (batchHeaderFields b).length = 33 := by
  cases b <;> simp [batchHeaderFields, flagsByte, secondsField]

theorem Decision.readBatch (part : Nat) : Decision p s (s.readBatch part) := by
  unfold State.readBatch
  split
  · exact .refused _
  · split
    · exact .reads (by simp [batchHeaderFields_length])
    · split
      · exact .refused _
      · exact .reads (by simp [batchRunFields, tripleFields, faultFields])

theorem Decision.readProving (sel : Nat) : Decision p s (s.readProving sel) := by
  unfold State.readProving
  split
  · exact .reads (by simp [State.sessionFields, indication, tickField, secondsField])
  · split
    · exact .refused _
    · rename_i r _
      refine .reads ?_
      cases s.prover.results.get r <;> simp [resultFields, indication, flagsByte, secondsField]

theorem Decision.readPass (index : Nat) : Decision p s (s.readPass index) := by
  unfold State.readPass
  split
  · exact .refused _
  · exact .reads (by simp [passFields, tickField])

theorem slotFields_length (x : Option Proposal) : (slotFields x).length = 5 := by cases x <;> simp [slotFields]

theorem changeArguments_length (c : Change) : (changeArguments c).length = 9 := by cases c <;> simp [changeArguments]

/-- READ_PROPOSAL carries five bytes for each of the six slots, or one record (R131, R148). -/
theorem Decision.readProposal (id : Nat) : Decision p s (s.readProposal id) := by
  unfold State.readProposal
  split
  · refine ⟨fun failed => absurd rfl failed, fun _ table => ?_, fun _ _ => .refl _⟩
    obtain ⟨slots, -⟩ := table
    simp [Machine.reads, Answer.okWith, List.length_flatMap, slotFields_length, slots]
  · split
    · exact .refused _
    · exact .reads (by simp [State.proposalFields, changeArguments_length, flagsByte, secondsField])

/-! ### Event flags (R181, R182) -/

theorem Decision.clearEvents (mask : Nat) : Decision p s (s.clearEvents p mask) := by
  unfold State.clearEvents
  split
  · exact .refused _
  · exact .ownPort (by simp) _

theorem Decision.setLevel (number level : Nat) : Decision p s (s.setLevel p number level) := by
  unfold State.setLevel
  split
  · exact .refused _
  · exact .ownPort (by simp) _

theorem Decision.setThreshold (threshold : Nat) : Decision p s (s.setThreshold p threshold) :=
  .ownPort (by simp [indication]) _

/-! ### Runs (R14, R19 to R21) -/

theorem Decision.enableRun (r : Run) : Decision p s (s.enableRun r) := by
  unfold State.enableRun
  dsimp only
  split
  · exact .completed (Nat.zero_le _) (.refl s)
  · split
    · exact .refused _
    · exact .completed (Nat.zero_le _) ((State.setRunState_sameSettings _ _ _).from_ports rfl)

theorem Decision.disableRun (r : Run) : Decision p s (s.disableRun r) := by
  by_cases off : (s.channels.get r).runState = .offline
  · rw [State.disableRun_of_offline off]
    exact .completed (Nat.zero_le _) (.refl s)
  · rw [State.disableRun_of_enabled off]
    exact .completed (Nat.zero_le _) (s.disabledRun_sameSettings r)

theorem Decision.runEnable (number on : Nat) : Decision p s (s.runEnable number on) := by
  unfold State.runEnable
  split
  · exact .refused _
  · split
    · exact .disableRun _
    · exact .enableRun _
    · exact .refused _

theorem Decision.setCutoff (number hz : Nat) : Decision p s (s.setCutoff number hz) := by
  unfold State.setCutoff
  split
  · exact .refused _
  · exact .completed (Nat.zero_le _) (.of_ports rfl)

theorem Decision.setIntegrityLimit (number limit : Nat) : Decision p s (s.setIntegrityLimit number limit) := by
  unfold State.setIntegrityLimit
  split
  · exact .refused _
  · exact .completed (Nat.zero_le _) (.of_ports rfl)

/-! ### Plans, the batch and the history (R62 to R64, R67, R74, R90 to R95) -/

theorem Decision.planAdd (args : List Byte) : Decision p s (s.planAdd args) := by
  unfold State.planAdd
  split
  · exact .refused _
  · split
    · exact .refused _
    · split
      · exact .refused _
      · exact .completed (by simp) (.of_ports rfl)

theorem Decision.planRemove (parcel : Nat) : Decision p s (s.planRemove parcel) := by
  unfold State.planRemove
  split
  · exact .refused _
  · split
    · exact .refused _
    · exact .completed (by simp) (.of_ports rfl)

theorem Decision.batchOpen : Decision p s s.batchOpen := by
  unfold State.batchOpen
  split
  · exact .refused _
  · split
    · exact .refused _
    · split
      · exact .refused _
      · exact .completed (by simp) (s.openFromQueue_sameSettings _ _)

theorem Decision.batchClose : Decision p s s.batchClose := by
  unfold State.batchClose
  split
  · exact .refused _
  · exact .completed (by simp) (s.closeBatch_sameSettings _ _ _)

theorem Decision.readRecord (selector part advance : Nat) : Decision p s (s.readRecord p selector part advance) := by
  unfold State.readRecord
  split
  · exact .refused _
  · dsimp only
    split
    · exact .refused _
    · split
      · exact .completed (recordPart_length _ _).le (.of_ports rfl)
      · exact .completed (recordPart_length _ _).le (.refl s)

theorem Decision.findParcel (parcel direction move : Nat) : Decision p s (s.findParcel p parcel direction move) := by
  unfold State.findParcel
  split
  · exact .refused _
  · dsimp only
    split
    · exact .refused _
    · refine .completed (by simp) ?_
      split <;> exact .of_ports rfl

theorem Decision.moveCursor (v : Nat) : Decision p s (s.moveCursor p v) := by
  refine .completed (by simp) ?_
  split <;> exact .of_ports rfl

/-! ### Proving (R102, R103, R119, R126) -/

theorem Decision.proveStart (number passes limit spread post : Nat) :
    Decision p s (s.proveStart number passes limit spread post) := by
  unfold State.proveStart
  split
  · exact .refused _
  · split
    · exact .refused _
    · split
      · exact .refused _
      · split
        · exact .refused _
        · exact .completed (by simp) (.of_ports rfl)

theorem Decision.proveAbort : Decision p s s.proveAbort := by
  unfold State.proveAbort
  split
  · exact .completed (Nat.zero_le _) (s.abortSession_sameSettings _)
  · exact .refused _

theorem Decision.provePost (number : Nat) : Decision p s (s.provePost number) := by
  unfold State.provePost
  split
  · exact .refused _
  · rename_i r _
    split
    · exact .refused _
    · rename_i x _
      split
      · exact .refused _
      · have offered := s.offerResult_sameSettings r x
        split
        · exact .refused _
        · exact .refused _
        · rename_i posted
          rw [posted] at offered
          exact .completed (by simp) offered

/-! ### Change control (R133, R137, R138, R142) -/

theorem Decision.propose (args : List Byte) : Decision p s (s.propose p args) := by
  unfold State.propose
  split
  · exact .refused _
  · split
    · exact .refused _
    · rename_i posted
      exact .completed (by simp) (State.postProposal_sameSettings posted)

theorem Decision.concur (id : Nat) : Decision p s (s.concur p id) := by
  have kept := s.concur_sameSettings p id
  unfold State.concur at kept ⊢
  split at kept
  · exact .refused _
  · exact .completed (by simp) kept

theorem Decision.reject (id : Nat) : Decision p s (s.reject p id) := by
  unfold State.reject
  split
  · exact .refused _
  · exact .completed (by simp) ((State.raise_sameSettings _ _).from_ports rfl)

theorem Decision.withdraw (id : Nat) : Decision p s (s.withdraw p id) := by
  unfold State.withdraw
  split
  · exact .refused _
  · split
    · exact .refused _
    · split
      · exact .refused _
      · exact .completed (by simp) ((State.raise_sameSettings _ _).from_ports rfl)

/-! ### The sampler and the clock (R4, R155 to R157) -/

theorem Decision.samplerHold (on : Nat) : Decision p s (s.samplerHold on) := by
  unfold State.samplerHold
  split
  · exact .completed (Nat.zero_le _) (.of_ports rfl)
  · exact .completed (Nat.zero_le _) (.of_ports rfl)
  · exact .refused _

theorem Decision.samplerOutput (polarity width : Nat) : Decision p s (s.samplerOutput polarity width) := by
  unfold State.samplerOutput
  split
  · exact .refused _
  · exact .completed (by simp) (.of_ports rfl)

theorem Decision.receiverSwap : Decision p s s.receiverSwap := by
  unfold State.receiverSwap
  split
  · exact .refused _
  · exact .completed (by simp) ((State.evaluateFull_sameSettings _).from_ports rfl)

end

end Sys2Proof.Machine
end

section
/-! PROOFS. Every request command taken by its row of the catalogue (R168, R169, R171), and the settled statement on the order of the
checks. -/

namespace Sys2Proof.Machine

/-! ### The catalogue -/

theorem Catalogue.holds_code {row : CatalogueRow} (mem : row ∈ Catalogue.rows) : Catalogue.holds row.code = true :=
  List.any_eq_true.2 ⟨row, mem, beq_self_eq_true _⟩

/-- No two rows share a code. -/
theorem Catalogue.eq_of_code {x y : CatalogueRow} (hx : x ∈ Catalogue.rows) (hy : y ∈ Catalogue.rows)
    (same : x.code = y.code) : x = y :=
  List.inj_on_of_nodup_map (f := CatalogueRow.code) (by decide) hx hy same

/-! ### Which row takes a command -/

/-- The command is the request of a row of the catalogue, decided by R169 and then by its own rule. -/
def takenByRow (i : Instr) (p : Port) (code : Byte) (args : List Byte) (s : State) : Prop :=
  ∃ row ∈ Catalogue.rows, row.code = code ∧ ∃ body : State → State × Answer,
    exec i s = .next (takeRequest p row args body s) ∧ Decision p s (body s)

section
variable {i : Instr} {p : Port} {code : Byte} {args : List Byte} {s : State}

theorem takenByRow.intro {row : CatalogueRow} {body : State → State × Answer}
    (e : exec i s = .next (takeRequest p row args body s)) (spelled : row.code = code) (mem : row ∈ Catalogue.rows)
    (own : Decision p s (body s)) : takenByRow i p code args s := ⟨row, mem, spelled, body, e, own⟩

/-- A command that travels as a frame is UNKNOWN_REQUEST or the request of the row with its code (R164, R169). -/
theorem takenByRow_of_frameParts (parts : frameParts i = some (p, code, args)) (s : State) :
    i = .unknownRequest p code ∨ takenByRow i p code args s := by
  cases i <;> cases parts
  case unknownRequest => exact .inl rfl
  all_goals refine .inr (.intro rfl rfl (by decide) ?_)
  case nop => exact .reads (Nat.zero_le _)
  case identify => exact .reads (by simp [identityFields_eq])
  case readTime => exact .readTime
  case readEvents => exact .readEvents
  case topEvent => exact .topEvent
  case clearEvents => exact .clearEvents _
  case setLevel => exact .setLevel _ _
  case setThreshold => exact .setThreshold _
  case readRun => exact .readRun _ _
  case readTotals => exact .readTotals _ _
  case readCurve => exact .readCurve _
  case runEnable => exact .runEnable _ _
  case runEnableOff => exact .runEnable _ _
  case setCutoff => exact .setCutoff _ _
  case setIntegrityLimit => exact .setIntegrityLimit _ _
  case readBatch => exact .readBatch _
  case readQueue => exact .readQueue _
  case planAdd => exact .planAdd _
  case planRemove => exact .planRemove _
  case planClear => exact .completed (Nat.zero_le _) (.of_ports rfl)
  case batchOpen => exact .batchOpen
  case batchClose => exact .batchClose
  case readRecord => exact .readRecord _ _ _
  case findParcel => exact .findParcel _ _ _
  case setCursor => exact .moveCursor _
  case readProving => exact .readProving _
  case readPass => exact .readPass _
  case proveStart => exact .proveStart _ _ _ _ _
  case proveAbort => exact .proveAbort
  case provePost => exact .provePost _
  case readProposal => exact .readProposal _
  case propose => exact .propose _
  case concur => exact .concur _
  case reject => exact .reject _
  case withdraw => exact .withdraw _
  case readSampler => exact .readSampler
  case samplerHold => exact .samplerHold _
  case samplerOutput => exact .samplerOutput _ _
  case receiverSwap => exact .receiverSwap
  case setTime => exact .completed (Nat.zero_le _) (.of_ports rfl)

/-! ### The decision of a request (R169) -/

/-- Taken by a row, a request is refused or decided by its own rule: a decision put into the port's response. -/
theorem takeRequest_decision {row : CatalogueRow} {body : State → State × Answer} (own : Decision p s (body s)) :
    ∃ x, Decision p s x ∧ takeRequest p row args body s = x.1.respond p row.code x.2 := by
  rcases takeRequest_cases p row args body s with ⟨-, e⟩ | ⟨-, -, e⟩ | ⟨-, -, -, e⟩ | ⟨-, -, -, e⟩
  · exact ⟨_, .refused .starting, e⟩
  · exact ⟨_, .refused .notPermitted, e⟩
  · exact ⟨_, .refused .badArgument, e⟩
  · exact ⟨_, own, e⟩

/-- Every command that travels as a frame is answered by a decision, under its own code (R166, R169). -/
theorem exec_decision (parts : frameParts i = some (p, code, args)) (s : State) :
    ∃ x, Decision p s x ∧ exec i s = .next (x.1.respond p code x.2) := by
  obtain rfl | ⟨row, -, rfl, body, e, own⟩ := takenByRow_of_frameParts parts s
  · exact ⟨refused (if s.isRestoring then .starting else .unknownRequest) s, .refused _, rfl⟩
  · obtain ⟨x, decided, answered⟩ := takeRequest_decision (args := args) (row := row) own
    exact ⟨x, decided, e.trans (congrArg _ answered)⟩

theorem takeRequest_notPermitted {row : CatalogueRow} {body : State → State × Answer} (ready : s.isRestoring = false)
    (denied : row.ports.has p = false) :
    takeRequest p row args body s = s.respond p row.code (.refuse .notPermitted) := by
  simp [takeRequest, refusalBefore, ready, denied]

theorem takeRequest_wrongLength {row : CatalogueRow} {body : State → State × Answer} {n : Nat}
    (ready : s.isRestoring = false) (permitted : row.ports.has p = true) (length : row.length = some n)
    (wrong : args.length ≠ n) : takeRequest p row args body s = s.respond p row.code (.refuse .badArgument) := by
  simp [takeRequest, refusalBefore, ready, permitted, length, wrong.symm]

/-! ### The checks, in their order (R169) -/

theorem exec_of_restoring (parts : frameParts i = some (p, code, args)) (restoring : s.isRestoring = true) :
    exec i s = .next (s.respond p code (.refuse .starting)) := by
  obtain rfl | ⟨row, -, rfl, body, e, -⟩ := takenByRow_of_frameParts parts s
  · exact (malformedAndUnknownFramesChangeNothing p none code s).2.trans (by rw [restoring]; rfl)
  · exact e.trans (congrArg _ (takeRequest_restoring restoring p row args body))

theorem exec_of_unlisted (parts : frameParts i = some (p, code, args)) (ready : s.isRestoring = false)
    (unlisted : Catalogue.holds code = false) : exec i s = .next (s.respond p code (.refuse .unknownRequest)) := by
  obtain rfl | ⟨row, mem, rfl, -⟩ := takenByRow_of_frameParts parts s
  · exact (malformedAndUnknownFramesChangeNothing p none code s).2.trans (by rw [ready]; rfl)
  · rw [Catalogue.holds_code mem] at unlisted
    cases unlisted

/-- A well-formed request whose code stands in a row is taken by that row. -/
theorem exec_of_row {row : CatalogueRow} (legal : i.wellFormed = true) (parts : frameParts i = some (p, row.code, args))
    (mem : row ∈ Catalogue.rows) (s : State) : ∃ body, exec i s = .next (takeRequest p row args body s) := by
  obtain rfl | ⟨row', mem', same, body, e, -⟩ := takenByRow_of_frameParts parts s
  · simp [Instr.wellFormed, Catalogue.holds_code mem] at legal
  · obtain rfl := Catalogue.eq_of_code mem' mem same
    exact ⟨body, e⟩

end

/-- Settles O18: the checks of R169 come before a request's own rule, every own rule makes a decision, and a response reaches its own
port alone. -/
theorem requestsAreDecidedInOrder : Obligations.RequestsAreDecidedInOrder := by
  refine ⟨fun i p code args s legal parts => ⟨exec_of_restoring parts, exec_of_unlisted parts,
    fun row mem spelled ready => ?_, fun t e => ?_⟩, fun i p q code args s t parts e other => ?_⟩
  · subst spelled
    obtain ⟨body, e⟩ := exec_of_row legal parts mem s
    exact ⟨fun denied => e.trans (congrArg _ (takeRequest_notPermitted ready denied)),
      fun permitted n length wrong => e.trans (congrArg _ (takeRequest_wrongLength ready permitted length wrong))⟩
  · obtain ⟨x, decided, answered⟩ := exec_decision parts s
    obtain rfl := Host.Outcome.next.inj (e.symm.trans answered)
    rw [State.respond_get_self]
    exact ⟨rfl, fun failed => congrArg (fun y : State × Answer => y.1.respond p code y.2) (decided.refuses failed),
      decided.size⟩
  · obtain ⟨x, decided, answered⟩ := exec_decision parts s
    obtain rfl := Host.Outcome.next.inj (e.symm.trans answered)
    rw [State.respond_get_self, State.respond_get_ne _ _ _ other]
    obtain ⟨transaction, sdo, response, seenHigh, threshold, level⟩ := decided.others q other
    exact ⟨rfl, rfl, transaction, sdo, response, seenHigh, threshold, level⟩

end Sys2Proof.Machine
end

section
/-! PROOFS. Flag sets and ALERT lines (R177, R178): a legal flag set stays legal through an occurrence, a clear, a level and a
threshold; and so does every port's through each operation that raises a class. One lemma per operation. -/

namespace Sys2Proof.Machine

/-! ### A port's flag set (R177, R178, R181, R182) -/

theorem EventEntry.legal.occurred {e : EventEntry} (h : e.legal) :
    EventEntry.legal { e with flag := true, count := min (e.count + 1) 255 } := by
  obtain ⟨-, level, -⟩ := h
  refine ⟨Nat.min_le_right _ _, level, (decide_eq_true ?_).symm⟩
  show 0 < min (e.count + 1) 255
  omega

theorem EventEntry.legal.cleared {e : EventEntry} (h : e.legal) :
    EventEntry.legal { e with flag := false, count := 0 } := by
  obtain ⟨-, level, -⟩ := h
  exact ⟨Nat.zero_le _, level, rfl⟩

theorem EventEntry.legal.atLevel {e : EventEntry} (h : e.legal) {l : Nat} (hl : l ≤ 7) :
    EventEntry.legal { e with level := l } := by
  obtain ⟨count, -, flag⟩ := h
  exact ⟨count, hl, flag⟩

/-- The port with a class at another level (R182). -/
def PortState.atLevel (c : EventClass) (l : Nat) (x : PortState) : PortState :=
  PortState.evaluateAlert { x with events := x.events.set c { x.events.get c with level := l } }

/-- The port with another threshold (R182). -/
def PortState.atThreshold (t : Nat) (x : PortState) : PortState := PortState.evaluateAlert { x with threshold := t }

theorem PortState.atLevel_get (c d : EventClass) (l : Nat) (x : PortState) :
    (x.atLevel c l).events.get d = if d = c then { x.events.get c with level := l } else x.events.get d :=
  ClassMap.get_set x.events d c _

theorem PortState.clearClasses_get (mask : Nat) (x : PortState) (c : EventClass) :
    (x.clearClasses mask).events.get c =
      if mask.testBit (classNumber c) then { x.events.get c with flag := false, count := 0 } else x.events.get c :=
  ClassMap.get_ofFn _ c

section
variable {x : PortState}

/-- An ALERT line evaluated afresh follows the flags, whatever they are (R178). -/
theorem PortState.eventsLegal.of_evaluateAlert (entries : ∀ c, (x.events.get c).legal) (low : 1 ≤ x.threshold)
    (high : x.threshold ≤ 7) : x.evaluateAlert.eventsLegal :=
  ⟨entries, low, high, alertCondition_iff x.events x.threshold⟩

theorem PortState.eventsLegal.occur (h : x.eventsLegal) (c : EventClass) : (x.occur c).eventsLegal := by
  obtain ⟨entries, low, high, -⟩ := h
  refine .of_evaluateAlert (fun d => ?_) low high
  show ((x.occur c).events.get d).legal
  by_cases e : d = c
  · subst e
    rw [PortState.occur_get_self]
    exact (entries d).occurred
  · rw [PortState.occur_get_ne _ e]
    exact entries d

theorem PortState.eventsLegal.occurRetention (h : x.eventsLegal) (cause : RetentionCause) :
    (x.occurRetention cause).eventsLegal :=
  PortState.eventsLegal.occur (x := { x with causes := x.causes.insert cause }) h .retention

theorem PortState.eventsLegal.clearClasses (h : x.eventsLegal) (mask : Nat) : (x.clearClasses mask).eventsLegal := by
  obtain ⟨entries, low, high, -⟩ := h
  refine .of_evaluateAlert (fun c => ?_) low high
  show ((x.clearClasses mask).events.get c).legal
  rw [PortState.clearClasses_get]
  split
  · exact (entries c).cleared
  · exact entries c

theorem PortState.eventsLegal.atLevel (h : x.eventsLegal) (c : EventClass) {l : Nat} (hl : l ≤ 7) :
    (x.atLevel c l).eventsLegal := by
  obtain ⟨entries, low, high, -⟩ := h
  refine .of_evaluateAlert (fun d => ?_) low high
  show ((x.atLevel c l).events.get d).legal
  rw [PortState.atLevel_get]
  split
  · exact (entries c).atLevel hl
  · exact entries d

theorem PortState.eventsLegal.atThreshold (h : x.eventsLegal) {t : Nat} (low : 1 ≤ t) (high : t ≤ 7) :
    (x.atThreshold t).eventsLegal := by
  obtain ⟨entries, -⟩ := h
  exact .of_evaluateAlert entries low high

end

section
variable {s t u : State}

/-- Whatever port's flag set was legal in one state is legal in the other (R177, R178). -/
def State.KeepsEvents (s t : State) : Prop := ∀ p, (s.ports.get p).eventsLegal → (t.ports.get p).eventsLegal

theorem State.KeepsEvents.of_ports (h : t.ports = s.ports) : s.KeepsEvents t := fun _ legal => h ▸ legal

theorem State.KeepsEvents.refl (s : State) : s.KeepsEvents s := .of_ports rfl

theorem State.KeepsEvents.trans (h : s.KeepsEvents t) (k : t.KeepsEvents u) : s.KeepsEvents u :=
  fun p legal => k p (h p legal)

/-- The same with the later operation named first, which tells what the earlier one left. -/
theorem State.KeepsEvents.after (k : t.KeepsEvents u) (h : s.KeepsEvents t) : s.KeepsEvents u := h.trans k

/-- An operation's effect on the ports does not depend on what else the state before it holds. -/
theorem State.KeepsEvents.from_ports (h : s.KeepsEvents t) (e : s.ports = u.ports) : u.KeepsEvents t :=
  State.KeepsEvents.trans (.of_ports e) h

/-- A change in one port alone. -/
theorem State.KeepsEvents.of_setPort {p : Port} {x : PortState}
    (h : (s.ports.get p).eventsLegal → x.eventsLegal) : s.KeepsEvents (s.setPort p x) := by
  intro q legal
  rw [State.setPort_ports, PerPort.get_set]
  split
  · rename_i same; subst same; exact h legal
  · exact legal

/-! ### Raising a class (R177) -/

theorem State.raise_keepsEvents (c : EventClass) (s : State) : s.KeepsEvents (s.raise c) := by
  intro p legal
  rw [State.raise_get]
  exact legal.occur c

theorem State.raiseFor_keepsEvents (p : Port) (c : EventClass) (s : State) : s.KeepsEvents (s.raiseFor p c) :=
  .of_setPort fun legal => legal.occur c

theorem State.raiseRetention_keepsEvents (c : RetentionCause) (s : State) : s.KeepsEvents (s.raiseRetention c) := by
  intro p legal
  rw [State.raiseRetention_get]
  exact legal.occurRetention c

theorem State.raiseIf_keepsEvents (b : Bool) (c : EventClass) (s : State) : s.KeepsEvents (s.raiseIf b c) := by
  cases b
  · exact .refl s
  · exact s.raise_keepsEvents c

theorem State.raiseTimes_keepsEvents (c : EventClass) (n : Nat) (s : State) : s.KeepsEvents (s.raiseTimes c n) := by
  induction n generalizing s with
  | zero => exact .refl s
  | succ n ih => exact (s.raise_keepsEvents c).trans (ih _)

theorem State.raiseRetentionTimes_keepsEvents (c : RetentionCause) (n : Nat) (s : State) :
    s.KeepsEvents (s.raiseRetentionTimes c n) := by
  induction n generalizing s with
  | zero => exact .refl s
  | succ n ih => exact (s.raiseRetention_keepsEvents c).trans (ih _)

/-! ### The write queue (R184 to R189) -/

theorem State.beginJob_keepsEvents (s : State) : s.KeepsEvents s.beginJob := by
  unfold State.beginJob
  dsimp only
  split
  case h_4 =>
    split
    · exact (State.raiseRetentionTimes_keepsEvents _ _ _).from_ports rfl
    · exact .of_ports rfl
  all_goals exact .of_ports rfl

theorem State.joinQueue_keepsEvents (j : Job) (s : State) : s.KeepsEvents (s.joinQueue j) := by
  unfold State.joinQueue
  dsimp only
  split
  · exact (State.beginJob_keepsEvents _).from_ports rfl
  · exact .of_ports rfl

theorem State.requestRecord_keepsEvents (r : BatchRecord) (s : State) : s.KeepsEvents (s.requestRecord r) := by
  unfold State.requestRecord
  split
  · exact s.joinQueue_keepsEvents _
  · exact (State.raiseRetention_keepsEvents _ _).from_ports rfl

theorem State.requestParameters_keepsEvents (s : State) : s.KeepsEvents s.requestParameters := by
  unfold State.requestParameters
  split
  · exact .of_ports rfl
  · split
    · exact .refl s
    · split
      · exact s.joinQueue_keepsEvents _
      · exact .of_ports rfl

theorem State.requestCheckpoint_keepsEvents (s : State) : s.KeepsEvents s.requestCheckpoint := by
  unfold State.requestCheckpoint
  split
  · exact .refl s
  · split
    · exact s.joinQueue_keepsEvents _
    · exact .of_ports rfl

theorem State.afterCompletion_keepsEvents (s : State) : s.KeepsEvents s.afterCompletion := by
  unfold State.afterCompletion
  split
  · exact .of_ports rfl
  · exact s.beginJob_keepsEvents

/-- A warning raises RETENTION for each dropped record and once more for itself (R188). -/
theorem State.actOnPowerFail_keepsEvents (s : State) : s.KeepsEvents s.actOnPowerFail := by
  unfold State.actOnPowerFail
  split
  · dsimp only
    refine State.KeepsEvents.trans ?_ (State.raiseRetention_keepsEvents _ _)
    split
    · exact (State.joinQueue_keepsEvents _ _).after ((State.raiseRetentionTimes_keepsEvents _ _ _).from_ports rfl)
    · exact (State.raiseRetentionTimes_keepsEvents _ _ _).from_ports rfl
  · exact .refl s

theorem execJobComplete_keepsEvents (e : execJobComplete s = .next t) : s.KeepsEvents t := by
  unfold execJobComplete at e
  split at e <;> cases e
  · exact .refl s
  · exact (State.afterCompletion_keepsEvents _).from_ports rfl

theorem execPowerFailWarning_keepsEvents (e : execPowerFailWarning s = .next t) : s.KeepsEvents t := by
  unfold execPowerFailWarning at e
  split at e <;> cases e
  · exact .refl s
  · exact (State.actOnPowerFail_keepsEvents _).from_ports rfl

theorem execPowerFailClear_keepsEvents (e : execPowerFailClear s = .next t) : s.KeepsEvents t := by
  unfold execPowerFailClear at e
  split at e
  · dsimp only at e
    split at e <;> cases e
    · exact (State.beginJob_keepsEvents _).from_ports rfl
    · exact .of_ports rfl
  · cases e; exact .refl s

theorem execPeriodicCheckpoint_keepsEvents (e : execPeriodicCheckpoint s = .next t) : s.KeepsEvents t := by
  unfold execPeriodicCheckpoint at e
  split at e <;> cases e
  · exact s.requestCheckpoint_keepsEvents
  · exact .refl s

/-! ### The ring, the batch and the sampler (R68 to R80, R84, R88, R150 to R159) -/

theorem State.dropFor_keepsEvents (oldest : Nat) (s : State) (p : Port) : s.KeepsEvents (State.dropFor oldest s p) := by
  unfold State.dropFor
  split
  · exact (State.raiseFor_keepsEvents p _ _).from_ports rfl
  · exact .refl s

theorem State.appendRecord_keepsEvents (r : BatchRecord) (s : State) : s.KeepsEvents (s.appendRecord r) := by
  have dropped : s.KeepsEvents s.dropOldest := by
    unfold State.dropOldest
    split
    · exact (((State.dropFor_keepsEvents _ _ .opr).trans (State.dropFor_keepsEvents _ _ .wit)).trans
        (State.dropFor_keepsEvents _ _ .sup)).from_ports rfl
    · exact .refl s
  exact dropped.trans (.of_ports rfl)

theorem State.closeBatch_keepsEvents (cause : CloseCause) (overshoot : Nat) (b : OpenBatch) (s : State) :
    s.KeepsEvents (s.closeBatch cause overshoot b) := by
  rw [State.closeBatch_eq]
  have appended : s.KeepsEvents (s.afterAppend (s.assembleRecord b cause overshoot)) :=
    (s.appendRecord_keepsEvents (s.assembleRecord b cause overshoot)).trans (.of_ports rfl)
  exact ((appended.trans (State.requestRecord_keepsEvents _ _)).trans (State.requestCheckpoint_keepsEvents _)).trans
    (State.raise_keepsEvents _ _)

theorem State.openBatch_keepsEvents (plan : Plan) (index remaining : Nat) (s : State) :
    s.KeepsEvents (s.openBatch plan index remaining) := (State.raise_keepsEvents _ _).from_ports rfl

theorem State.openFromQueue_keepsEvents (plan : Plan) (rest : List Plan) (s : State) :
    s.KeepsEvents (s.openFromQueue plan rest) := (State.openBatch_keepsEvents _ _ _ _).from_ports rfl

theorem State.continueAfter_keepsEvents (b : OpenBatch) (s : State) : s.KeepsEvents (s.continueAfter b) := by
  unfold State.continueAfter
  split
  · exact .refl s
  · split
    · exact .refl s
    · split
      · exact .refl s
      · exact s.openFromQueue_keepsEvents _ _
    · split
      · exact s.openBatch_keepsEvents _ _ _
      · exact .refl s

theorem State.evaluateFull_keepsEvents (s : State) : s.KeepsEvents s.evaluateFull :=
  (State.raiseIf_keepsEvents _ _ _).from_ports rfl

theorem State.disposeGrab_keepsEvents (s : State) : s.KeepsEvents s.disposeGrab := by
  obtain ⟨-, e⟩ | ⟨-, -, e⟩ | ⟨-, -, -, e⟩ | ⟨-, -, -, -, e⟩ | ⟨-, -, -, -, e⟩ := s.disposeGrab_cases <;> rw [e]
  · exact (State.raise_keepsEvents _ _).from_ports rfl
  · exact (State.raise_keepsEvents _ _).from_ports rfl
  · exact (State.evaluateFull_keepsEvents _).from_ports rfl
  · exact (State.evaluateFull_keepsEvents _).from_ports rfl
  · exact (State.raise_keepsEvents _ _).from_ports rfl

theorem State.dueGrabs_keepsEvents (interval n : Nat) (s : State) : s.KeepsEvents (s.dueGrabs interval n) := by
  induction n generalizing s with
  | zero => exact .refl s
  | succ n ih =>
    have first : s.KeepsEvents (s.dueGrab interval) := by
      unfold State.dueGrab
      dsimp only
      split
      · exact (State.disposeGrab_keepsEvents _).from_ports rfl
      · exact .of_ports rfl
    unfold State.dueGrabs
    split
    · exact first.trans (ih _)
    · exact .refl s

theorem State.sampleVolume_keepsEvents (dG : Nat) (s : State) : s.KeepsEvents (s.sampleVolume dG) := by
  unfold State.sampleVolume
  split
  · exact .refl s
  · split
    · exact (State.dueGrabs_keepsEvents _ _ _).from_ports rfl
    · exact .refl s

theorem State.issueGrab_keepsEvents (mark : GrabMark) (s : State) : s.KeepsEvents (s.issueGrab mark) := by
  unfold State.issueGrab
  exact (State.evaluateFull_keepsEvents _).from_ports rfl

theorem execPulseEnd_keepsEvents (e : execPulseEnd s = .next t) : s.KeepsEvents t := by
  unfold execPulseEnd at e
  split at e <;> cases e <;> exact .of_ports rfl

theorem execGapEnd_keepsEvents (e : execGapEnd s = .next t) : s.KeepsEvents t := by
  unfold execGapEnd at e
  split at e
  · split at e <;> cases e
    · exact .of_ports rfl
    · exact (State.issueGrab_keepsEvents _ _).from_ports rfl
  · cases e; exact .refl s

theorem execRcvhiChange_keepsEvents {level : Bool} (e : execRcvhiChange level s = .next t) : s.KeepsEvents t := by
  unfold execRcvhiChange at e
  dsimp only at e
  split at e <;> cases e
  · exact .of_ports rfl
  · exact (State.evaluateFull_keepsEvents _).from_ports rfl

/-! ### A window's hand-off (R25 to R33, R36 to R41, R70 to R72) -/

theorem State.testTargets_keepsEvents (b : OpenBatch) (s : State) : s.KeepsEvents (s.testTargets b) := by
  have tested : s.KeepsEvents (s.afterPreTarget b) := (State.raiseIf_keepsEvents _ _ _).from_ports rfl
  obtain ⟨-, e⟩ | ⟨-, e⟩ := s.testTargets_cases b <;> rw [e]
  · exact (tested.trans (State.closeBatch_keepsEvents _ _ _ _)).trans (State.continueAfter_keepsEvents _ _)
  · exact tested

theorem State.routeWindow_keepsEvents (r : Run) (w : WindowFigures) (s : State) : s.KeepsEvents (s.routeWindow r w) := by
  unfold State.routeWindow State.batchWindow
  split
  · rename_i b _
    have sampled : s.KeepsEvents ((s.setBatch (some (b.addWindow r w))).sampleVolume w.gross) :=
      (State.sampleVolume_keepsEvents _ _).from_ports rfl
    exact sampled.trans (State.testTargets_keepsEvents _ _)
  · exact .of_ports (State.unbatchedWindow_ports _ _ _)

theorem State.computeWindow_keepsEvents (r : Run) (f : Nat) (w : WindowCounts) (s : State) :
    s.KeepsEvents (s.computeWindow r f w) := by
  rw [State.computeWindow_eq]
  have totalled : s.KeepsEvents (s.afterTotals r f w.pulses) := (State.raiseIf_keepsEvents _ _ _).from_ports rfl
  exact totalled.trans (State.routeWindow_keepsEvents _ _ _)

/-! ### Proving (R102 to R126) -/

theorem State.offerResult_keepsEvents (r : Run) (x : ProvingResult) (s : State) : s.KeepsEvents (s.offerResult r x).1 := by
  obtain e | e | ⟨c, slot, -, e⟩ := s.offerResult_cases r x <;> rw [e]
  · exact .of_ports rfl
  · exact .of_ports rfl
  · exact (State.raise_keepsEvents .proposal (s.setControl c)).from_ports rfl

/-- The end of a session raises PROVING, and PROPOSAL if its result is posted (R124, R125, R136). -/
theorem State.endSession_keepsEvents (state : SessionState) (a : AbortReason) (mf freq : Nat) (s : State) :
    s.KeepsEvents (s.endSession state a mf freq) := by
  unfold State.endSession
  dsimp only
  split
  · exact (State.raise_keepsEvents _ _).from_ports rfl
  · refine (State.raise_keepsEvents _ _).after ?_
    split
    · exact (State.offerResult_keepsEvents _ _ _).after (.of_ports (by split <;> simp))
    · exact .of_ports (by split <;> simp)

theorem State.abortSession_keepsEvents (a : AbortReason) (s : State) : s.KeepsEvents (s.abortSession a) := by
  unfold State.abortSession
  dsimp only
  split
  · exact s.endSession_keepsEvents _ _ _ _
  iterate 2 exact (State.endSession_keepsEvents _ _ _ _ _).from_ports rfl
  · exact .refl s

theorem State.testSession_keepsEvents (valid : Bool) (s : State) : s.KeepsEvents (s.testSession valid) := by
  unfold State.testSession
  dsimp only
  split
  · split
    · exact (State.endSession_keepsEvents _ _ _ _ _).from_ports rfl
    · split
      · exact (State.endSession_keepsEvents _ _ _ _ _).from_ports rfl
      · exact .of_ports rfl
  · split
    · exact s.endSession_keepsEvents _ _ _ _
    · exact .refl s

theorem State.recordPass_keepsEvents (y : PassRecord) (s : State) : s.KeepsEvents (s.recordPass y) := by
  unfold State.recordPass
  exact (State.testSession_keepsEvents _ _).after ((State.raise_keepsEvents _ _).from_ports rfl)

theorem State.awaitDet1_keepsEvents (s : State) : s.KeepsEvents s.awaitDet1 := .of_ports (State.awaitDet1_ports s)

theorem State.pulseInWaitStop_keepsEvents (r : Run) (stamp : Tick) (s : State) :
    s.KeepsEvents (s.pulseInWaitStop r stamp) := by
  have ended (y : PassRecord) : s.KeepsEvents (s.recordPass y).awaitDet1 :=
    (s.recordPass_keepsEvents y).trans (State.awaitDet1_keepsEvents _)
  unfold State.pulseInWaitStop
  dsimp only
  split
  · split
    · exact ended _
    · exact .of_ports rfl
  · split
    · exact .refl s
    · split
      · exact .of_ports rfl
      · exact ended _

theorem State.proverCycle_keepsEvents (r : Run) (cls : CycleClass) (d : Option Direction) (stamp : Tick) (s : State) :
    s.KeepsEvents (s.proverCycle r cls d stamp) := by
  have marked : s.KeepsEvents (s.setPass (s.prover.session.pass.mark cls d)) := .of_ports rfl
  unfold State.proverCycle
  dsimp only
  split
  · split
    · split
      · exact marked.trans (.of_ports (State.pulseInPass_ports _ _))
      · exact marked
    · split
      · exact marked.trans (State.pulseInWaitStop_keepsEvents _ _ _)
      · exact marked
    · exact .refl s
  · exact .refl s

theorem State.detectorEvent_keepsEvents (d : Detector) (tick : Tick) (s : State) :
    s.KeepsEvents (s.detectorEvent d tick) := by
  unfold State.detectorEvent
  dsimp only
  split
  case h_5 | h_6 =>
    split
    · exact (s.recordPass_keepsEvents _).trans (.of_ports (State.beginPass_ports _ _))
    · exact s.recordPass_keepsEvents _
  all_goals exact .of_ports rfl

theorem execDetectorEvent_keepsEvents {d : Detector} {tick : Tick} (e : execDetectorEvent d tick s = .next t) :
    s.KeepsEvents t := by
  have seen (l : Lines) (x : DetectorInput) : s.KeepsEvents ((s.setLines l).setDetector d x) := by
    cases d <;> exact .of_ports rfl
  unfold execDetectorEvent at e
  dsimp only at e
  split at e <;> cases e
  · exact seen _ _
  · exact (seen _ _).trans (State.detectorEvent_keepsEvents _ _ _)

theorem execPassTimeout_keepsEvents {tD1 : Tick} (e : execPassTimeout tD1 s = .next t) : s.KeepsEvents t := by
  unfold execPassTimeout at e
  dsimp only at e
  split at e <;> cases e
  · exact (s.recordPass_keepsEvents _).trans (State.awaitDet1_keepsEvents _)
  · exact .refl s

theorem execNoDetector_keepsEvents (e : execNoDetector s = .next t) : s.KeepsEvents t := by
  unfold execNoDetector at e
  dsimp only at e
  split at e <;> cases e
  · exact s.abortSession_keepsEvents _
  · exact .refl s

/-! ### The pulse front end (R5 to R24) -/

theorem State.setRunState_keepsEvents (r : Run) (x : RunState) (s : State) : s.KeepsEvents (s.setRunState r x) := by
  have raised : s.KeepsEvents (State.raise .runState (s.setChannel r { s.channels.get r with runState := x })) :=
    (State.raise_keepsEvents _ _).from_ports rfl
  obtain ⟨-, e⟩ | ⟨-, -, -, e⟩ | ⟨-, -, e⟩ := s.setRunState_cases r x <;> rw [e]
  · exact .refl s
  · exact raised.trans (State.abortSession_keepsEvents _ _)
  · exact raised

theorem State.endBlock_keepsEvents (r : Run) (errors : Nat) (s : State) : s.KeepsEvents (s.endBlock r errors) :=
  (State.raiseIf_keepsEvents _ _ _).from_ports rfl

theorem State.advanceBlock_keepsEvents (r : Run) (isError : Bool) (s : State) :
    s.KeepsEvents (s.advanceBlock r isError) := by
  unfold State.advanceBlock
  dsimp only
  split
  · exact s.endBlock_keepsEvents _ _
  · exact .of_ports rfl

theorem State.countCycle_keepsEvents (r : Run) (cls : CycleClass) (stamp : Tick) (s : State) :
    s.KeepsEvents (s.countCycle r cls stamp) := by
  unfold State.countCycle
  dsimp only
  split
  · exact .of_ports rfl
  · split
    · exact (State.raiseIf_keepsEvents _ _ _).from_ports rfl
    · refine (State.proverCycle_keepsEvents _ _ _ _ _).after ((State.advanceBlock_keepsEvents _ _ _).after ?_)
      exact (State.raiseIf_keepsEvents _ _ _).from_ports rfl

theorem execEdgeEvent_keepsEvents {r : Run} {a b : Bool} {tick : Tick} (e : execEdgeEvent r a b tick s = .next t) :
    s.KeepsEvents t := by
  unfold execEdgeEvent at e
  dsimp only at e
  split at e
  · cases e; exact .refl s
  · split at e <;> cases e
    · exact .of_ports rfl
    · exact (State.countCycle_keepsEvents _ _ _ _).from_ports rfl

theorem execIntegrityBlockEnd_keepsEvents {r : Run} {isError : Bool} (e : execIntegrityBlockEnd r isError s = .next t) :
    s.KeepsEvents t := by
  unfold execIntegrityBlockEnd at e
  dsimp only at e
  split at e <;> cases e
  · exact s.endBlock_keepsEvents _ _
  · exact .refl s

theorem execWindowExpiry_keepsEvents {r : Run} (e : execWindowExpiry r s = .next t) : s.KeepsEvents t := by
  unfold execWindowExpiry at e
  dsimp only at e
  split at e
  · cases e; exact .of_ports rfl
  · split at e <;> cases e
    · exact .of_ports rfl
    · refine (State.computeWindow_keepsEvents _ _ _ _).after ?_
      exact (State.setRunState_keepsEvents _ _ _).from_ports rfl

theorem State.disabledRun_keepsEvents (r : Run) (s : State) : s.KeepsEvents (s.disabledRun r) := by
  have final : s.KeepsEvents (s.finalWindow r) := (State.computeWindow_keepsEvents _ _ _ _).from_ports rfl
  exact (final.trans (State.setRunState_keepsEvents _ _ _)).trans (.of_ports rfl)

/-! ### Change control (R134 to R144) -/

theorem State.postProposal_keepsEvents {c : Change} {o : Originator} {d : Bool} {id slot : Nat}
    (e : s.postProposal c o d = some (t, id, slot)) : s.KeepsEvents t := by
  obtain ⟨-, -, x, rfl, -⟩ := State.postProposal_some e
  exact (State.raise_keepsEvents .proposal (s.setControl x)).from_ports rfl

theorem execProposalExpiry_keepsEvents (e : execProposalExpiry s = .next t) : s.KeepsEvents t := by
  cases e
  exact (State.raiseTimes_keepsEvents _ _ _).from_ports rfl

theorem State.applyChange_keepsEvents (c : Change) (s : State) : s.KeepsEvents (s.applyChange c).1 := by
  have curve (r : Run) (changed : Except FailureReason (List CurvePoint)) : s.KeepsEvents (s.ownCurve r changed).1 := by
    unfold State.ownCurve
    split <;> exact .of_ports rfl
  cases c with
  | kFactor r kx =>
    have applied : s.KeepsEvents (s.applyKFactor r kx) := .of_ports (State.applyKFactor_ports _ _ _)
    simp only [State.applyChange, State.ownKFactor]
    split
    · exact applied.trans (State.abortSession_keepsEvents _ _)
    · exact applied
  | mfPoint r f m => exact curve r _
  | mfPointDelete r f => exact curve r _
  | proverVolume bv => exact (State.abortSession_keepsEvents .paramChanged _).from_ports rfl
  | samplerSetup g size cap => exact (State.evaluateFull_keepsEvents _).from_ports rfl

theorem State.applyProposal_keepsEvents (slot : Nat) (x : Proposal) (s : State) :
    s.KeepsEvents (s.applyProposal slot x) := by
  have owned (c : ChangeControl) : s.KeepsEvents ((s.applyChange x.change).1.setControl c) :=
    (s.applyChange_keepsEvents _).trans (.of_ports rfl)
  obtain ⟨c, e⟩ | ⟨c, d, n, e⟩ := s.applyProposal_cases slot x <;> rw [e]
  · exact (owned c).trans (State.raise_keepsEvents _ _)
  · exact ((owned c).trans (State.requestParameters_keepsEvents _)).trans
      ((State.raiseTimes_keepsEvents _ _ _).from_ports rfl)

/-! ### The restore (R24, R160, R188, R190) -/

theorem State.settleChannel_keepsEvents (f : Found) (r : Run) (s : State) : s.KeepsEvents (State.settleChannel f s r) := by
  unfold State.settleChannel
  dsimp only
  split
  · exact (State.raiseIf_keepsEvents _ _ _).after ((State.raise_keepsEvents _ _).from_ports rfl)
  · exact (State.raiseIf_keepsEvents _ _ _).from_ports rfl

theorem State.settleChannels_keepsEvents (f : Found) (l : List Run) (s : State) :
    s.KeepsEvents (l.foldl (State.settleChannel f) s) := by
  induction l generalizing s with
  | nil => exact .refl s
  | cons r l ih => exact (s.settleChannel_keepsEvents f r).trans (ih _)

theorem Found.announce_keepsEvents (f : Found) (s : State) : s.KeepsEvents (f.announce s) := by
  have first : s.KeepsEvents (if f.parameters.isNone then s.raiseRetention .parametersLost else s) := by
    split
    · exact s.raiseRetention_keepsEvents _
    · exact .refl s
  unfold Found.announce
  dsimp only
  split
  · exact first
  · split <;> exact first.trans (State.raiseRetention_keepsEvents _ _)

theorem State.announced_keepsEvents (s : State) : s.KeepsEvents s.announced := by
  have settled : s.KeepsEvents s.settleAll := (State.settleChannels_keepsEvents _ _ _).from_ports rfl
  exact (settled.trans (State.evaluateFull_keepsEvents _)).trans (Found.announce_keepsEvents _ _)

theorem State.completeRestore_keepsEvents (s : State) : s.KeepsEvents s.completeRestore := by
  have requested : s.KeepsEvents
      (if s.store.found.checkpoint.isNone then s.announced.requestCheckpoint else s.announced) := by
    split
    · exact s.announced_keepsEvents.trans (State.requestCheckpoint_keepsEvents _)
    · exact s.announced_keepsEvents
  rw [State.completeRestore_eq]
  generalize (if s.store.found.checkpoint.isNone then s.announced.requestCheckpoint else s.announced) = v at requested ⊢
  dsimp only
  split
  · exact requested.trans (State.actOnPowerFail_keepsEvents v)
  · exact requested

theorem execRestoreComplete_keepsEvents (e : execRestoreComplete s = .next t) : s.KeepsEvents t := by
  unfold execRestoreComplete at e
  split at e <;> cases e
  · exact s.completeRestore_keepsEvents
  · exact .refl s

end

end Sys2Proof.Machine
end

section
/-! PROOFS. Every command keeps legal flag sets legal (R169, R177, R178, R181, R182), and the settled statement. -/

namespace Sys2Proof.Machine

section
variable {s t : State}

/-! ### The ports themselves (R163, R166) -/

/-- A change that leaves each port's entries, threshold and ALERT line. -/
theorem State.KeepsEvents.of_flags (events : ∀ p, (t.ports.get p).events = (s.ports.get p).events)
    (threshold : ∀ p, (t.ports.get p).threshold = (s.ports.get p).threshold)
    (alert : ∀ p, (t.ports.get p).alertLow = (s.ports.get p).alertLow) : s.KeepsEvents t := by
  intro p legal
  unfold PortState.eventsLegal
  rw [events, threshold, alert]
  exact legal

theorem State.respond_keepsEvents (p : Port) (echo : Byte) (a : Answer) (s : State) : s.KeepsEvents (s.respond p echo a) :=
  .of_flags (fun _ => State.respond_events ..) (fun _ => State.respond_threshold ..) fun _ => State.respond_alertLow ..

theorem takeRequest_keepsEvents {p : Port} {row : CatalogueRow} {args : List Byte} {body : State → State × Answer}
    (h : s.KeepsEvents (body s).1) : s.KeepsEvents (takeRequest p row args body s) :=
  takeRequest_induction (I := s.KeepsEvents) (.refl s) h fun _ _ _ _ k => k.trans (State.respond_keepsEvents _ _ _ _)

theorem execTransactionBegin_keepsEvents {p : Port} (e : execTransactionBegin p s = .next t) : s.KeepsEvents t := by
  unfold execTransactionBegin at e
  dsimp only at e
  split at e <;> cases e
  · exact .from_ports (.of_setPort fun legal => legal) rfl
  · exact .refl s

theorem execSckEdge_keepsEvents {p : Port} {edge : SckEdge} (e : execSckEdge p edge s = .next t) : s.KeepsEvents t := by
  unfold execSckEdge at e
  dsimp only at e
  split at e <;> cases e
  · exact .refl s
  · exact .of_setPort fun legal => legal
  · exact .of_setPort fun legal => legal

theorem State.tickClock_keepsEvents (s : State) : s.KeepsEvents s.tickClock := by
  unfold State.tickClock
  split
  · intro p legal
    show (s.followLines.ports.get p).eventsLegal
    rw [State.followLines_ports]
    exact legal
  · exact .of_ports rfl

/-! ### Event flags (R181, R182) -/

theorem State.clearEvents_keepsEvents (p : Port) (mask : Nat) (s : State) : s.KeepsEvents (s.clearEvents p mask).1 := by
  unfold State.clearEvents
  split
  · exact .refl s
  · exact .of_setPort fun legal => legal.clearClasses mask

theorem State.setLevel_keepsEvents (p : Port) (number level : Nat) (s : State) :
    s.KeepsEvents (s.setLevel p number level).1 := by
  unfold State.setLevel
  split
  · exact .refl s
  · rename_i c _
    exact .of_setPort fun legal => legal.atLevel c (clamp_range level (Nat.zero_le 7)).2

theorem State.setThreshold_keepsEvents (p : Port) (threshold : Nat) (s : State) :
    s.KeepsEvents (s.setThreshold p threshold).1 := by
  obtain ⟨low, high⟩ := clamp_range threshold (show 1 ≤ 7 by decide)
  exact .of_setPort fun legal => legal.atThreshold low high

/-! ### Runs and the batch (R14, R19 to R21, R62 to R64, R67, R74) -/

theorem State.runEnable_keepsEvents (number on : Nat) (s : State) : s.KeepsEvents (s.runEnable number on).1 := by
  have enabled (r : Run) : s.KeepsEvents (s.enableRun r).1 := by
    unfold State.enableRun
    dsimp only
    split
    · exact .refl s
    · split
      · exact .refl s
      · exact (State.setRunState_keepsEvents _ _ _).from_ports rfl
  have disabled (r : Run) : s.KeepsEvents (s.disableRun r).1 := by
    by_cases off : (s.channels.get r).runState = .offline
    · rw [State.disableRun_of_offline off]
      exact .refl s
    · rw [State.disableRun_of_enabled off]
      exact s.disabledRun_keepsEvents r
  unfold State.runEnable
  split
  · exact .refl s
  · split
    · exact disabled _
    · exact enabled _
    · exact .refl s

theorem State.setCutoff_ports (number hz : Nat) (s : State) : (s.setCutoff number hz).1.ports = s.ports := by
  unfold State.setCutoff
  split <;> rfl

theorem State.setIntegrityLimit_ports (number limit : Nat) (s : State) :
    (s.setIntegrityLimit number limit).1.ports = s.ports := by
  unfold State.setIntegrityLimit
  split <;> rfl

theorem State.planAdd_ports (args : List Byte) (s : State) : (s.planAdd args).1.ports = s.ports := by
  unfold State.planAdd
  split
  · rfl
  · split
    · rfl
    · split <;> rfl

theorem State.planRemove_ports (parcel : Nat) (s : State) : (s.planRemove parcel).1.ports = s.ports := by
  unfold State.planRemove
  split
  · rfl
  · split <;> rfl

theorem State.batchOpen_keepsEvents (s : State) : s.KeepsEvents s.batchOpen.1 := by
  unfold State.batchOpen
  split
  · exact .refl s
  · split
    · exact .refl s
    · split
      · exact .refl s
      · exact s.openFromQueue_keepsEvents _ _

theorem State.batchClose_keepsEvents (s : State) : s.KeepsEvents s.batchClose.1 := by
  unfold State.batchClose
  split
  · exact .refl s
  · exact s.closeBatch_keepsEvents _ _ _

/-! ### The history (R90 to R95) -/

theorem State.readRecord_ports (p : Port) (selector part advance : Nat) (s : State) :
    (s.readRecord p selector part advance).1.ports = s.ports := by
  obtain e | ⟨v, e⟩ := s.readRecord_fst_cases p selector part advance <;> rw [e]
  rfl

theorem State.findParcel_ports (p : Port) (parcel direction move : Nat) (s : State) :
    (s.findParcel p parcel direction move).1.ports = s.ports := by
  obtain e | ⟨x, -, e⟩ := s.findParcel_fst_cases p parcel direction move <;> rw [e]
  rfl

theorem State.moveCursor_ports (p : Port) (v : Nat) (s : State) : (s.moveCursor p v).1.ports = s.ports := by
  obtain ⟨u, rfl | ⟨w, rfl⟩, e⟩ := s.moveCursor_fst_cases p v <;> rw [e] <;> rfl

/-! ### Proving (R102, R103, R119, R126) -/

theorem State.proveStart_ports (number p m l post : Nat) (s : State) :
    (s.proveStart number p m l post).1.ports = s.ports := by
  unfold State.proveStart
  split
  · rfl
  · split
    · rfl
    · split
      · rfl
      · split <;> rfl

theorem State.proveAbort_keepsEvents (s : State) : s.KeepsEvents s.proveAbort.1 := by
  unfold State.proveAbort
  split
  · exact s.abortSession_keepsEvents _
  · exact .refl s

theorem State.provePost_keepsEvents (number : Nat) (s : State) : s.KeepsEvents (s.provePost number).1 := by
  unfold State.provePost
  split
  · exact .refl s
  · rename_i r _
    split
    · exact .refl s
    · rename_i x _
      split
      · exact .refl s
      · have offered := s.offerResult_keepsEvents r x
        split
        · exact .refl s
        · exact .refl s
        · rename_i posted; rwa [posted] at offered

/-! ### Change control (R133, R137, R138, R142) -/

theorem State.propose_keepsEvents (p : Port) (args : List Byte) (s : State) : s.KeepsEvents (s.propose p args).1 := by
  unfold State.propose
  split
  · exact .refl s
  · split
    · exact .refl s
    · rename_i posted; exact State.postProposal_keepsEvents posted

theorem State.concur_keepsEvents (p : Port) (id : Nat) (s : State) : s.KeepsEvents (s.concur p id).1 := by
  obtain e | ⟨slot, x, -, e | e⟩ := s.concur_cases p id <;> rw [e]
  · exact .refl s
  · exact .of_ports rfl
  · exact (State.applyProposal_keepsEvents _ _ _).from_ports rfl

theorem State.reject_keepsEvents (p : Port) (id : Nat) (s : State) : s.KeepsEvents (s.reject p id).1 := by
  unfold State.reject
  split
  · exact .refl s
  · exact (State.raise_keepsEvents _ _).from_ports rfl

theorem State.withdraw_keepsEvents (p : Port) (id : Nat) (s : State) : s.KeepsEvents (s.withdraw p id).1 := by
  unfold State.withdraw
  split
  · exact .refl s
  · split
    · exact .refl s
    · split
      · exact .refl s
      · exact (State.raise_keepsEvents _ _).from_ports rfl

/-! ### The sampler (R155 to R157) -/

theorem State.samplerHold_ports (on : Nat) (s : State) : (s.samplerHold on).1.ports = s.ports := by
  unfold State.samplerHold
  split <;> rfl

theorem State.samplerOutput_ports (polarity width : Nat) (s : State) : (s.samplerOutput polarity width).1.ports = s.ports := by
  unfold State.samplerOutput
  split <;> rfl

theorem State.receiverSwap_keepsEvents (s : State) : s.KeepsEvents s.receiverSwap.1 := by
  unfold State.receiverSwap
  split
  · exact .refl s
  · exact (State.evaluateFull_keepsEvents _).from_ports rfl

/-! ### Every command -/

/-- What a request leaves is what its own rule leaves, as far as the flag sets go (R166, R169). -/
theorem exec_keepsEvents {i : Instr} (e : exec i s = .next t) : s.KeepsEvents t := by
  have request {p : Port} {row : CatalogueRow} {args : List Byte} {body : State → State × Answer}
      (h : (body s).1.ports = s.ports) : s.KeepsEvents (takeRequest p row args body s) :=
    takeRequest_keepsEvents (.of_ports h)
  cases i
  case reset => cases e; exact fun p _ => State.reset_atReset.eventsLegal p
  case restoreComplete => exact execRestoreComplete_keepsEvents e
  case edgeEvent => exact execEdgeEvent_keepsEvents e
  case integrityBlockEnd => exact execIntegrityBlockEnd_keepsEvents e
  case windowExpiry => exact execWindowExpiry_keepsEvents e
  case pulseEnd => exact execPulseEnd_keepsEvents e
  case gapEnd => exact execGapEnd_keepsEvents e
  case rcvhiChange => exact execRcvhiChange_keepsEvents e
  case oneSecondEvent => cases e; exact .of_ports rfl
  case proposalExpiry => exact execProposalExpiry_keepsEvents e
  case noDetector => exact execNoDetector_keepsEvents e
  case periodicCheckpoint => exact execPeriodicCheckpoint_keepsEvents e
  case detectorEvent => exact execDetectorEvent_keepsEvents e
  case passTimeout => exact execPassTimeout_keepsEvents e
  case jobComplete => exact execJobComplete_keepsEvents e
  case powerFailWarning => exact execPowerFailWarning_keepsEvents e
  case powerFailClear => exact execPowerFailClear_keepsEvents e
  case transactionBegin => exact execTransactionBegin_keepsEvents e
  case sckEdge => exact execSckEdge_keepsEvents e
  all_goals cases e
  case frameError | unknownRequest => exact State.respond_keepsEvents _ _ _ _
  case nop | identify | readTime | readEvents | topEvent | readSampler | planClear | setTime => exact request rfl
  case clearEvents => exact takeRequest_keepsEvents (State.clearEvents_keepsEvents _ _ _)
  case setLevel => exact takeRequest_keepsEvents (State.setLevel_keepsEvents _ _ _ _)
  case setThreshold => exact takeRequest_keepsEvents (State.setThreshold_keepsEvents _ _ _)
  case readRun => exact request (by rw [State.readRun_fst])
  case readTotals => exact request (by rw [State.readTotals_fst])
  case readCurve => exact request (by rw [State.readCurve_fst])
  case readBatch => exact request (by rw [State.readBatch_fst])
  case readQueue => exact request (by rw [State.readQueue_fst])
  case readProving => exact request (by rw [State.readProving_fst])
  case readPass => exact request (by rw [State.readPass_fst])
  case readProposal => exact request (by rw [State.readProposal_fst])
  case runEnable => exact takeRequest_keepsEvents (State.runEnable_keepsEvents _ _ _)
  case runEnableOff => exact takeRequest_keepsEvents (State.runEnable_keepsEvents _ _ _)
  case setCutoff => exact request (State.setCutoff_ports _ _ _)
  case setIntegrityLimit => exact request (State.setIntegrityLimit_ports _ _ _)
  case planAdd => exact request (State.planAdd_ports _ _)
  case planRemove => exact request (State.planRemove_ports _ _)
  case batchOpen => exact takeRequest_keepsEvents s.batchOpen_keepsEvents
  case batchClose => exact takeRequest_keepsEvents s.batchClose_keepsEvents
  case readRecord => exact request (State.readRecord_ports _ _ _ _ _)
  case findParcel => exact request (State.findParcel_ports _ _ _ _ _)
  case setCursor => exact request (State.moveCursor_ports _ _ _)
  case proveStart => exact request (State.proveStart_ports _ _ _ _ _ _)
  case proveAbort => exact takeRequest_keepsEvents s.proveAbort_keepsEvents
  case provePost => exact takeRequest_keepsEvents (State.provePost_keepsEvents _ _)
  case propose => exact takeRequest_keepsEvents (State.propose_keepsEvents _ _ _)
  case concur => exact takeRequest_keepsEvents (State.concur_keepsEvents _ _ _)
  case reject => exact takeRequest_keepsEvents (State.reject_keepsEvents _ _ _)
  case withdraw => exact takeRequest_keepsEvents (State.withdraw_keepsEvents _ _ _)
  case samplerHold => exact request (State.samplerHold_ports _ _)
  case samplerOutput => exact request (State.samplerOutput_ports _ _ _)
  case receiverSwap => exact takeRequest_keepsEvents s.receiverSwap_keepsEvents

end

/-- Settles O6: an occurrence counts with its flag and has the ALERT line evaluated; CLEAR_EVENTS, SET_LEVEL and SET_THRESHOLD
keep the ranges and have it evaluated too; and nothing else reaches a flag set. -/
theorem stepKeepsEventFlagsAndAlert : Obligations.StepKeepsEventFlagsAndAlert := fun s _ h e =>
  step_induction (fun p => s.tickClock_keepsEvents p (h p)) (fun _ _ e p => exec_keepsEvents e p (h p)) e

end Sys2Proof.Machine
end

section
/-! PROOFS. The event flag requests (R178 to R182): the flags word and the bytes of READ_EVENTS, the choice of TOP_EVENT, and what
CLEAR_EVENTS, SET_LEVEL and SET_THRESHOLD leave and answer; with the settled statements. -/

namespace Sys2Proof.Machine

/-! ### Numbers of classes (the table before R177) -/

theorem classOfNumber_classNumber (c : EventClass) : classOfNumber (classNumber c) = some c := by cases c <;> rfl

theorem classNumber_lt (c : EventClass) : classNumber c < 14 := by cases c <;> decide

/-! ### The flags word (R179) -/

theorem flagsWord_eq_foldr (events : ClassMap EventEntry) :
    flagsWord events = (allClasses.map fun c => (events.get c).flag).foldr (fun (b : Bool) n => b.toNat + 2 * n) 0 := by
  have bit (b : Bool) (n : Nat) : (if b then n else 0) = b.toNat * n := by cases b <;> simp
  simp only [flagsWord, allClasses, classNumber, bit, List.map_cons, List.map_nil, List.sum_cons, List.sum_nil,
    List.foldr_cons, List.foldr_nil]
  omega

/-- Bit n of the flags word is the flag of class n (R179). -/
theorem testBit_flagsWord (events : ClassMap EventEntry) (c : EventClass) :
    (flagsWord events).testBit (classNumber c) = (events.get c).flag := by
  rw [flagsWord_eq_foldr, testBit_flags]
  cases c <;> rfl

/-- There is no class 14 or above. -/
theorem testBit_flagsWord_of_le (events : ClassMap EventEntry) {i : Nat} (h : 14 ≤ i) :
    (flagsWord events).testBit i = false := by
  rw [flagsWord_eq_foldr, testBit_flags]
  exact List.getD_eq_default _ _ h

theorem flagsWord_lt (events : ClassMap EventEntry) : flagsWord events < 2 ^ 16 :=
  Nat.lt_pow_two_of_testBit _ fun _ h => testBit_flagsWord_of_le events (Nat.le_trans (by decide) h)

/-- The flags word as the two bytes of a response carry it. -/
def flagsBits (events : ClassMap EventEntry) : BitVec 16 := BitVec.ofNat 16 (flagsWord events)

theorem flagsBits_getLsbD (events : ClassMap EventEntry) (c : EventClass) :
    (flagsBits events).getLsbD (classNumber c) = (events.get c).flag := by
  have small : classNumber c < 16 := (classNumber_lt c).trans (by decide)
  rw [flagsBits, BitVec.getLsbD_ofNat, testBit_flagsWord, decide_eq_true small, Bool.true_and]

theorem flagsBits_getLsbD_of_le (events : ClassMap EventEntry) {i : Nat} (h : 14 ≤ i) :
    (flagsBits events).getLsbD i = false := by
  rw [flagsBits, BitVec.getLsbD_ofNat, testBit_flagsWord_of_le events h, Bool.and_false]

theorem field_flagsWord (events : ClassMap EventEntry) :
    field 2 (flagsWord events) = bytesOf 2 (flagsBits events).toNat := by
  rw [flagsBits, BitVec.toNat_ofNat, Nat.mod_eq_of_lt (flagsWord_lt events)]
  exact field_eq (flagsWord_lt events)

/-! ### READ_EVENTS (R179) -/

theorem flatMap_field_one {f : EventClass → Nat} (small : ∀ c, f c < 256) (l : List EventClass) :
    l.flatMap (fun c => field 1 (f c)) = l.map fun c => BitVec.ofNat 8 (f c) := by
  induction l with
  | nil => rfl
  | cons c l ih => rw [List.flatMap_cons, ih, field_one (small c)]; rfl

theorem EventEntry.legal.count_lt {e : EventEntry} (h : e.legal) : e.count < 256 :=
  have ⟨count, _⟩ := h
  Nat.lt_succ_of_le count

theorem EventEntry.legal.level_lt {e : EventEntry} (h : e.legal) : e.level < 256 :=
  have ⟨_, level, _⟩ := h
  Nat.lt_of_le_of_lt level (by decide)

/-- The 33 bytes of READ_EVENTS, the causes byte given (R179). -/
theorem PortState.eventFields_eq {x : PortState} (h : x.eventsLegal) {causes : Byte}
    (hc : causesByte x.causes = [causes]) : x.eventFields =
      bytesOf 2 (flagsBits x.events).toNat ++ (allClasses.map fun c => BitVec.ofNat 8 (x.events.get c).count) ++
        (allClasses.map fun c => BitVec.ofNat 8 (x.events.get c).level) ++
        [BitVec.ofNat 8 x.threshold, if x.alertLow then 1 else 0, causes] := by
  obtain ⟨entries, -, high, -⟩ := h
  have threshold : field 1 x.threshold = [BitVec.ofNat 8 x.threshold] := field_one (Nat.lt_of_le_of_lt high (by decide))
  rw [PortState.eventFields, hc, threshold, field_flagsWord, flatMap_field_one fun c => (entries c).count_lt,
    flatMap_field_one fun c => (entries c).level_lt]
  simp only [indication, List.append_assoc, List.cons_append, List.nil_append]

/-! ### TOP_EVENT (R180) -/

section
variable {events : ClassMap EventEntry} {l : List EventClass} {b c : EventClass}

/-- A class that TOP_EVENT may choose: its flag is set with a level of 1 or more (R180). -/
def Presses (events : ClassMap EventEntry) (c : EventClass) : Prop :=
  (events.get c).flag = true ∧ 1 ≤ (events.get c).level

/-- A class does not come before another in TOP_EVENT's choice: its level is lower, or equal with a number not lower (R180). -/
def YieldsTo (events : ClassMap EventEntry) (d c : EventClass) : Prop :=
  (events.get d).level < (events.get c).level ∨
    (events.get d).level = (events.get c).level ∧ classNumber c ≤ classNumber d

/-- What was chosen among some classes: one that presses and that each of them that presses yields to, or none where none
presses (R180). -/
def ChosenFrom (events : ClassMap EventEntry) (l : List EventClass) : Option EventClass → Prop
  | none => ∀ d ∈ l, ¬ Presses events d
  | some b => b ∈ l ∧ Presses events b ∧ ∀ d ∈ l, Presses events d → YieldsTo events d b

theorem YieldsTo.refl (events : ClassMap EventEntry) (c : EventClass) : YieldsTo events c c := .inr ⟨rfl, Nat.le_refl _⟩

/-- What yields to a class yields to one of a higher level (R180). -/
theorem YieldsTo.trans_lt {d : EventClass} (h : YieldsTo events d b)
    (higher : (events.get b).level < (events.get c).level) : YieldsTo events d c := by
  obtain lower | ⟨same, -⟩ := h
  · exact .inl (lower.trans higher)
  · exact .inl (same ▸ higher)

theorem classNumber_inj (h : classNumber b = classNumber c) : b = c := by
  have same := classOfNumber_classNumber c
  rw [← h, classOfNumber_classNumber] at same
  exact Option.some.inj same

/-- No two classes yield to each other. -/
theorem YieldsTo.antisymm (h : YieldsTo events b c) (k : YieldsTo events c b) : b = c := by
  refine classNumber_inj ?_
  unfold YieldsTo at h k
  omega

theorem not_presses_iff : ¬ Presses events c ↔ (events.get c).flag = false ∨ (events.get c).level = 0 := by
  rw [Presses, not_and_or, Bool.not_eq_true, Nat.not_le, Nat.lt_one_iff]

theorem pressing_of_not_presses (h : ¬ Presses events c) (best : Option EventClass) : pressing events best c = best :=
  if_pos (not_presses_iff.1 h)

theorem pressing_none (h : Presses events c) : pressing events none c = some c :=
  if_neg fun quiet => not_presses_iff.2 quiet h

theorem pressing_some (h : Presses events c) (b : EventClass) : pressing events (some b) c =
    if (events.get b).level < (events.get c).level then some c else some b :=
  if_neg fun quiet => not_presses_iff.2 quiet h

theorem ChosenFrom.append_quiet {best : Option EventClass} (h : ChosenFrom events l best) (quiet : ¬ Presses events c) :
    ChosenFrom events (l ++ [c]) best := by
  cases best with
  | none => exact List.forall_mem_append.2 ⟨h, List.forall_mem_singleton.2 quiet⟩
  | some b =>
    obtain ⟨mem, presses, top⟩ := h
    exact ⟨List.mem_append_left _ mem, presses,
      List.forall_mem_append.2 ⟨top, List.forall_mem_singleton.2 fun pressed => absurd pressed quiet⟩⟩

/-- A class numbered above all before it takes the place of the chosen one with a higher level alone (R180). -/
theorem ChosenFrom.append {best : Option EventClass} (h : ChosenFrom events l best)
    (above : ∀ d ∈ l, classNumber d < classNumber c) : ChosenFrom events (l ++ [c]) (pressing events best c) := by
  have last : c ∈ l ++ [c] := List.mem_append_right _ (List.mem_singleton_self c)
  by_cases presses : Presses events c
  · cases best with
    | none =>
      rw [pressing_none presses]
      exact ⟨last, presses, List.forall_mem_append.2
        ⟨fun d mem pressed => absurd pressed (h d mem), List.forall_mem_singleton.2 fun _ => .refl events c⟩⟩
    | some b =>
      obtain ⟨mem, held, top⟩ := h
      rw [pressing_some presses]
      split
      · rename_i higher
        exact ⟨last, presses, List.forall_mem_append.2
          ⟨fun d mem pressed => (top d mem pressed).trans_lt higher, List.forall_mem_singleton.2 fun _ => .refl events c⟩⟩
      · rename_i notHigher
        have yields : YieldsTo events c b :=
          (Nat.lt_or_eq_of_le (Nat.not_lt.1 notHigher)).imp_right fun same => ⟨same, (above b mem).le⟩
        exact ⟨List.mem_append_left _ mem, held,
          List.forall_mem_append.2 ⟨top, List.forall_mem_singleton.2 fun _ => yields⟩⟩
  · rw [pressing_of_not_presses presses]
    exact h.append_quiet presses

/-- The fold over classes in ascending order chooses among them (R180). -/
theorem foldl_pressing_chosen (ascending : l.Pairwise fun c d => classNumber c < classNumber d) :
    ChosenFrom events l (l.foldl (pressing events) none) := by
  induction l using List.reverseRecOn with
  | nil => exact List.forall_mem_nil _
  | append_singleton l c ih =>
    obtain ⟨before, -, above⟩ := List.pairwise_append.1 ascending
    rw [List.foldl_append, List.foldl_cons, List.foldl_nil]
    exact (ih before).append fun d mem => above d mem c (List.mem_singleton_self c)

theorem topClass_chosen (events : ClassMap EventEntry) : ChosenFrom events allClasses (topClass events) :=
  foldl_pressing_chosen (by decide)

theorem topClass_eq_none (quiet : ∀ d, ¬ Presses events d) : topClass events = none := by
  have chosen := topClass_chosen events
  cases top : topClass events with
  | none => rfl
  | some b =>
    rw [top] at chosen
    obtain ⟨-, presses, -⟩ := chosen
    exact absurd presses (quiet b)

theorem topClass_eq_some (presses : Presses events c) (top : ∀ d, Presses events d → YieldsTo events d c) :
    topClass events = some c := by
  have chosen := topClass_chosen events
  cases first : topClass events with
  | none =>
    rw [first] at chosen
    exact absurd presses (chosen c (mem_allClasses c))
  | some b =>
    rw [first] at chosen
    obtain ⟨-, pressed, yields⟩ := chosen
    exact congrArg some ((top b pressed).antisymm (yields c (mem_allClasses c) presses))

theorem PortState.topFields_of_none {x : PortState} (h : topClass x.events = none) :
    x.topFields = [0xFF, 0, 0, if x.alertLow then 1 else 0] := by
  rw [PortState.topFields, h]
  simp only [field_one (show 255 < 256 by decide), field_one (show 0 < 256 by decide)]
  rfl

theorem PortState.topFields_of_some {x : PortState} (legal : x.eventsLegal) (h : topClass x.events = some c) :
    x.topFields = [BitVec.ofNat 8 (classNumber c), BitVec.ofNat 8 (x.events.get c).level,
      BitVec.ofNat 8 (x.events.get c).count, if x.alertLow then 1 else 0] := by
  obtain ⟨entries, -⟩ := legal
  have number : classNumber c < 256 := (classNumber_lt c).trans (by decide)
  rw [PortState.topFields, h]
  simp only [field_one number, field_one (entries c).level_lt, field_one (entries c).count_lt]
  rfl

end

/-- Settles O23: READ_EVENTS field by field; the fold of TOP_EVENT runs over the classes in the order of their numbers, so a later
class takes over with a higher level alone. -/
theorem eventReadsAnswerOwnFlags : Obligations.EventReadsAnswerOwnFlags := by
  refine ⟨fun p s ready legal => ?_, fun p s ready legal => ⟨fun quiet => ?_, fun c flag level top => ?_⟩⟩
  · obtain ⟨causes, holds, byte⟩ := flagsByte_holds [(s.ports.get p).causes.powerWarning,
      (s.ports.get p).causes.parametersLost, (s.ports.get p).causes.totalsFromRecord, (s.ports.get p).causes.totalsLost,
      (s.ports.get p).causes.recordNotRetained]
    refine ⟨flagsBits (s.ports.get p).events, causes, ?_, flagsBits_getLsbD _, flagsBits_getLsbD_of_le _ (by decide),
      flagsBits_getLsbD_of_le _ (by decide), holds 0 (by decide), holds 1 (by decide), holds 2 (by decide),
      holds 3 (by decide), holds 4 (by decide)⟩
    rw [← PortState.eventFields_eq legal byte]
    exact congrArg Host.Outcome.next (takeRequest_eq ready rfl rfl rfl)
  · have unchosen : topClass (s.ports.get p).events = none := topClass_eq_none fun d ⟨flag, level⟩ => by
      rw [quiet d flag] at level
      exact absurd level (by decide)
    rw [← PortState.topFields_of_none unchosen]
    exact congrArg Host.Outcome.next (takeRequest_eq ready rfl rfl rfl)
  · have chosen : topClass (s.ports.get p).events = some c :=
      topClass_eq_some ⟨flag, level⟩ fun d ⟨flag, _⟩ => top d flag
    rw [← PortState.topFields_of_some legal chosen]
    exact congrArg Host.Outcome.next (takeRequest_eq ready rfl rfl rfl)

/-! ### CLEAR_EVENTS (R181) -/

theorem argument_two (hi lo : Byte) : argument [hi, lo] 0 2 = (hi ++ lo).toNat := numberOf_two hi lo

theorem State.clearEvents_of_reserved {mask : Nat} (h : mask.testBit 14 = true ∨ mask.testBit 15 = true) (p : Port)
    (s : State) : s.clearEvents p mask = refused .badArgument s :=
  if_pos (by rwa [Bool.or_eq_true])

theorem State.clearEvents_of_classes {mask : Nat} (h14 : mask.testBit 14 = false) (h15 : mask.testBit 15 = false) (p : Port)
    (s : State) : s.clearEvents p mask = (s.setPort p ((s.ports.get p).clearClasses mask),
      .okWith (bytesOf 2 (flagsBits ((s.ports.get p).clearClasses mask).events).toNat)) := by
  rw [← field_flagsWord]
  exact if_neg (by simp [h14, h15])

/-- Settles O24: bits 14 and 15 name no class; the others clear their classes one by one, and ALERT is evaluated last. -/
theorem clearEventsClearsNamedClasses : Obligations.ClearEventsClearsNamedClasses := by
  intro p hi lo s ready mask
  have spelled : argument [hi, lo] 0 2 = mask.toNat := argument_two hi lo
  refine ⟨fun reserved => ?_, fun h14 h15 => ?_⟩
  · exact congrArg Host.Outcome.next
      (takeRequest_eq ready rfl rfl (by rw [spelled]; exact State.clearEvents_of_reserved reserved p s))
  · refine ⟨(s.ports.get p).clearClasses mask.toNat, flagsBits ((s.ports.get p).clearClasses mask.toNat).events, ?_,
      flagsBits_getLsbD _, rfl, (s.ports.get p).clearClasses_get mask.toNat, rfl, alertCondition_iff _ _⟩
    exact congrArg Host.Outcome.next
      (takeRequest_eq ready rfl rfl (by rw [spelled]; exact State.clearEvents_of_classes h14 h15 p s))

/-! ### SET_LEVEL and SET_THRESHOLD (R182) -/

theorem argument_second (a b : Byte) : argument [a, b] 1 1 = b.toNat := numberOf_one b

theorem classOfNumber_eq_none {n : Nat} (h : 13 < n) : classOfNumber n = none := List.getElem?_eq_none h

theorem State.setLevel_classNumber (p : Port) (c : EventClass) (level : Nat) (s : State) :
    s.setLevel p (classNumber c) level = (s.setPort p ((s.ports.get p).atLevel c (min level 7)),
      .okWith [BitVec.ofNat 8 (classNumber c), BitVec.ofNat 8 (min level 7)]) := by
  have number : classNumber c < 256 := (classNumber_lt c).trans (by decide)
  have clamped : min level 7 < 256 := Nat.lt_of_le_of_lt (Nat.min_le_right _ _) (by decide)
  simp only [State.setLevel, classOfNumber_classNumber, clamp_zero_left, field_one number, field_one clamped]
  rfl

theorem State.setLevel_of_no_class {number : Nat} (h : 13 < number) (p : Port) (level : Nat) (s : State) :
    s.setLevel p number level = refused .badArgument s := by
  rw [State.setLevel, classOfNumber_eq_none h]

theorem State.setThreshold_eq (p : Port) (threshold : Nat) (s : State) :
    let x := (s.ports.get p).atThreshold (max 1 (min threshold 7))
    s.setThreshold p threshold =
      (s.setPort p x, .okWith [BitVec.ofNat 8 x.threshold, if x.alertLow then 1 else 0]) := by
  have clamped : max 1 (min threshold 7) < 256 := by omega
  simp only [State.setThreshold, clamp_eq threshold (show 1 ≤ 7 by decide), field_one clamped]
  rfl

/-- Settles O25: the level and the threshold are clamped into the port's flag set, and ALERT is evaluated after them. -/
theorem levelsAndThresholdsAreSet : Obligations.LevelsAndThresholdsAreSet := by
  intro p s ready
  refine ⟨fun c l => ?_, fun n l above => ?_, fun n => ?_⟩
  · have number : (BitVec.ofNat 8 (classNumber c)).toNat = classNumber c := by cases c <;> rfl
    refine ⟨(s.ports.get p).atLevel c (min l.toNat 7), ?_, rfl, fun d => (s.ports.get p).atLevel_get c d _,
      alertCondition_iff _ _⟩
    refine congrArg Host.Outcome.next (takeRequest_eq ready rfl rfl ?_)
    rw [argument_first, number, argument_second]
    exact State.setLevel_classNumber p c l.toNat s
  · refine congrArg Host.Outcome.next (takeRequest_eq ready rfl rfl ?_)
    rw [argument_first]
    exact State.setLevel_of_no_class above p _ s
  · refine ⟨(s.ports.get p).atThreshold (max 1 (min n.toNat 7)), ?_, rfl, alertCondition_iff _ _⟩
    refine congrArg Host.Outcome.next (takeRequest_eq ready rfl rfl ?_)
    rw [argument_first]
    exact State.setThreshold_eq p n.toNat s

end Sys2Proof.Machine
end

section
/-! PROOFS. The write queue through every command (R186, R188, R189): a job that begins is the first of the queue, a request or an
owed kind joins where there is room, and the settled statement that no step breaks the queue's rules. -/

namespace Sys2Proof.Machine

section
variable {s t : State} {x : Store}

/-! ### What the queue is held to between two jobs -/

/-- What stays of a legal store while no job is in progress to account for: at most 4 jobs, and the power-fail indication only
while PFAIL is active (R186, R189). -/
structure Store.Bounded (x : Store) : Prop where
  size    : x.queue.length ≤ 4
  powered : x.powerFail = true → x.pfailActive = true

theorem State.storeLegal.bounded (h : s.storeLegal) : s.store.Bounded :=
  have ⟨size, _, _, _, _, powered⟩ := h
  ⟨size, powered⟩

theorem State.storeLegal.of_store (h : s.storeLegal) (e : t.store = s.store) : t.storeLegal := by
  unfold State.storeLegal
  rw [e]
  exact h

theorem State.storeLegal_of_writing (bounded : s.store.Bounded) (status : s.store.status = .writing) {j : Job}
    {rest : List Job} {w : Writing} (queue : s.store.queue = j :: rest) (writing : s.store.writing = some w)
    (belongs : w.payload.belongsTo j) : s.storeLegal :=
  ⟨bounded.size, fun _ => ⟨j, rest, w, queue, writing, belongs⟩, absurd status, by simp [status], by simp [status],
    bounded.powered⟩

/-- While the store is WRITING, the jobs behind the first may be others (R186, R188). -/
theorem State.storeLegal.setWaiting (h : s.storeLegal) (status : t.store.status = .writing)
    (same : s.store.status = .writing) (writing : t.store.writing = s.store.writing) (bounded : t.store.Bounded)
    {l : List Job} (queue : t.store.queue = s.store.queue.take 1 ++ l) : t.storeLegal := by
  obtain ⟨-, jobs, -⟩ := h
  obtain ⟨j, rest, w, first, inProgress, belongs⟩ := jobs same
  rw [first] at queue
  exact State.storeLegal_of_writing bounded status queue (writing.trans inProgress) belongs

/-- READY with no job. -/
theorem State.storeLegal_of_ready (bounded : s.store.Bounded) (status : s.store.status = .ready)
    (queue : s.store.queue = []) (writing : s.store.writing = none) : s.storeLegal :=
  ⟨bounded.size, by simp [status], fun _ => ⟨queue, writing⟩, by simp [status], by simp [status], bounded.powered⟩

theorem State.storeLegal.idle_of_ready (h : s.storeLegal) (ready : s.store.status = .ready) : s.store.queue = [] := by
  obtain ⟨-, -, rest, -⟩ := h
  obtain ⟨queue, -⟩ := rest (by simp [ready])
  exact queue

/-! ### A job begins (R184 to R186) -/

/-- The first job of the queue is the one that is written then. -/
theorem State.beginJob_writes {j : Job} {rest : List Job} (queue : s.store.queue = j :: rest) :
    s.beginJob.store.status = .writing ∧ ∃ w, s.beginJob.store.writing = some w ∧ w.payload.belongsTo j := by
  cases j with
  | parameters | checkpoint =>
    simp only [State.beginJob, queue]
    exact ⟨rfl, _, rfl, trivial⟩
  | record r =>
    cases old : needsErase s.store.slots r.seq with
    | false => rw [State.beginJob_plain queue old]; exact ⟨rfl, _, rfl, rfl⟩
    | true =>
      rw [State.beginJob_erase queue old, State.raiseRetentionTimes_store]
      exact ⟨rfl, _, rfl, rfl⟩

theorem State.beginJob_storeLegal (h : s.store.Bounded) : s.beginJob.storeLegal := by
  have bounded : s.beginJob.store.Bounded := ⟨by simpa using h.size, by simpa using h.powered⟩
  cases queue : s.store.queue with
  | nil =>
    obtain ⟨ready, -⟩ := s.beginJob_status
    rw [ready queue] at bounded ⊢
    exact State.storeLegal_of_ready bounded rfl queue rfl
  | cons j rest =>
    obtain ⟨status, w, writing, belongs⟩ := State.beginJob_writes queue
    exact State.storeLegal_of_writing bounded status (s.beginJob_store_queue.trans queue) writing belongs

/-- A job that joins a store with room begins in READY, and waits in WRITING (R186). -/
theorem State.storeLegal.joinQueue (h : s.storeLegal) (takes : s.store.takesJobs = true) (room : s.store.queue.length < 4)
    (j : Job) : (s.joinQueue j).storeLegal := by
  have joined : (s.setStore { s.store with queue := s.store.queue ++ [j] }).store.Bounded :=
    ⟨by simpa using room, h.bounded.powered⟩
  rcases s.store.takesJobs_iff.1 takes with ready | writing
  · rw [State.joinQueue, if_pos ready]
    exact State.beginJob_storeLegal joined
  · rw [State.joinQueue_of_not_ready (by simp [writing])]
    refine h.setWaiting (l := s.store.queue.drop 1 ++ [j]) writing writing rfl joined ?_
    rw [← List.append_assoc, List.take_append_drop]
    rfl

/-! ### Requests (R141, R186, R187) -/

theorem State.storeLegal.requestRecord (h : s.storeLegal) (r : BatchRecord) : (s.requestRecord r).storeLegal := by
  unfold State.requestRecord
  split
  · rename_i taken
    obtain ⟨takes, -, room⟩ := taken
    exact h.joinQueue takes room _
  · exact h.of_store (State.loseRecord_store ..)

theorem State.storeLegal.requestParameters (h : s.storeLegal) : s.requestParameters.storeLegal := by
  unfold State.requestParameters
  split
  · exact h
  · split
    · exact h
    · split
      · rename_i taken
        obtain ⟨takes, room⟩ := taken
        exact h.joinQueue takes room _
      · exact h

theorem State.storeLegal.requestCheckpoint (h : s.storeLegal) : s.requestCheckpoint.storeLegal := by
  unfold State.requestCheckpoint
  split
  · exact h
  · split
    · rename_i taken
      obtain ⟨takes, -, room⟩ := taken
      exact h.joinQueue takes room _
    · exact h

theorem State.storeLegal.closeBatch (h : s.storeLegal) (cause : CloseCause) (overshoot : Nat) (b : OpenBatch) :
    (s.closeBatch cause overshoot b).storeLegal := by
  have appended : (s.afterAppend (s.assembleRecord b cause overshoot)).storeLegal := h.of_store (s.afterAppend_store _)
  rw [State.closeBatch_eq]
  exact (appended.requestRecord _).requestCheckpoint.of_store (State.raise_store ..)

/-! ### JOB_COMPLETE (R186) -/

theorem State.afterCompletion_storeLegal (h : s.store.Bounded) : s.afterCompletion.storeLegal := by
  unfold State.afterCompletion
  split
  · rename_i halts
    obtain ⟨queue, fail⟩ := halts
    exact ⟨h.size, nofun, fun _ => ⟨queue, rfl⟩, fun _ => fail, nofun, h.powered⟩
  · exact State.beginJob_storeLegal h

theorem Store.length_joining (x : Store) : x.joining.length ≤ 4 - x.waiting.length := by
  unfold Store.joining
  split
  · exact Nat.zero_le _
  · exact List.length_take_le ..

/-- The owed kinds take the room that the waiting jobs leave (R186). -/
theorem Store.Bounded.finish (h : x.Bounded) (p : Payload) : ((x.finished p).joinedBy x.joining).Bounded := by
  refine ⟨?_, ?_⟩
  · have waits : x.waiting.length ≤ 4 := (List.drop_sublist 1 x.queue).length_le.trans h.size
    have joins := x.length_joining
    show (x.waiting ++ x.joining).length ≤ 4
    rw [List.length_append]
    omega
  · cases p <;> exact h.powered

theorem execJobComplete_storeLegal (h : s.storeLegal) (e : execJobComplete s = .next t) : t.storeLegal := by
  cases writing : s.store.writing with
  | none =>
    rw [execJobComplete_idle writing] at e
    cases e
    exact h
  | some w =>
    rw [execJobComplete_done writing] at e
    cases e
    exact State.afterCompletion_storeLegal (h.bounded.finish w.payload)

/-! ### Power fail (R188, R189) -/

/-- Under the indication the first job stays, and of the others no more than were there, or a CHECKPOINT. -/
theorem Store.Bounded.warned (h : x.Bounded) (active : x.pfailActive = true) : x.warned.Bounded := by
  refine ⟨?_, fun _ => active⟩
  have first : (x.queue.take 1).length ≤ 1 := List.length_take_le ..
  have waits : x.waiting.length = x.queue.length - 1 := List.length_drop ..
  have size := h.size
  unfold Store.warned
  rw [List.length_append]
  split
  · have kept := List.length_filter_le (fun j => decide (j = Job.checkpoint)) x.waiting
    omega
  · rw [List.length_singleton]
    omega

theorem State.storeLegal.actOnPowerFail (h : s.storeLegal) (active : s.store.pfailActive = true) :
    s.actOnPowerFail.storeLegal := by
  have warned := h.bounded.warned active
  by_cases takes : s.store.takesJobs = true
  · rcases s.store.takesJobs_iff.1 takes with ready | writing
    · obtain ⟨acts, -⟩ := State.actOnPowerFail_of_idle ready (h.idle_of_ready ready)
      have begun : (s.setStore s.store.warned).beginJob.storeLegal := State.beginJob_storeLegal warned
      rw [acts, State.announceWarning_frame]
      exact begun
    · rw [State.actOnPowerFail_of_busy writing, State.announceWarning_frame]
      exact h.setWaiting writing writing rfl warned rfl
  · exact h.of_store (by rw [State.actOnPowerFail, if_neg takes])

theorem execPowerFailWarning_storeLegal (h : s.storeLegal) (e : execPowerFailWarning s = .next t) : t.storeLegal := by
  cases active : s.store.pfailActive with
  | true =>
    rw [execPowerFailWarning_active active] at e
    cases e
    exact h
  | false =>
    rw [execPowerFailWarning_inactive active] at e
    cases e
    obtain ⟨size, jobs, rest, halts, restores, -⟩ := h
    have low : s.pfailLow.storeLegal := ⟨size, jobs, rest, halts, restores, fun _ => rfl⟩
    exact low.actOnPowerFail rfl

theorem Store.length_owedJobs (x : Store) : x.owedJobs.length ≤ 4 := by
  unfold Store.owedJobs
  split <;> split <;> decide

theorem execPowerFailClear_storeLegal (h : s.storeLegal) (e : execPowerFailClear s = .next t) : t.storeLegal := by
  have ⟨size, jobs, rest, _⟩ := h
  cases active : s.store.pfailActive with
  | false =>
    rw [execPowerFailClear_inactive active] at e
    cases e
    exact h
  | true =>
    by_cases halted : s.store.status = .halted
    · rw [execPowerFailClear_halted active halted] at e
      cases e
      have ⟨idle, _⟩ := rest (by simp [halted])
      rw [Store.joinOwed_of_empty (x := s.pfailHigh.store) idle]
      exact State.beginJob_storeLegal ⟨Store.length_owedJobs _, nofun⟩
    · rw [execPowerFailClear_running active halted] at e
      cases e
      exact ⟨size, jobs, rest, fun now => absurd now halted, fun _ => rfl, nofun⟩

/-! ### Reset and restore (R190, R191) -/

theorem execReset_storeLegal (e : execReset s = .next t) : t.storeLegal := by
  cases e
  exact ⟨Nat.zero_le _, nofun, fun _ => ⟨rfl, rfl⟩, nofun, fun _ => rfl, nofun⟩

theorem execRestoreComplete_storeLegal (h : s.storeLegal) (e : execRestoreComplete s = .next t) : t.storeLegal := by
  unfold execRestoreComplete at e
  split at e <;> cases e
  · rename_i restoring
    obtain ⟨queue, writing, -⟩ := h.idle restoring
    have bounded := h.bounded
    have announced : s.announced.storeLegal := by
      apply State.storeLegal_of_ready <;> rw [State.announced_store]
      · exact ⟨bounded.size, bounded.powered⟩
      · exact queue
      · exact writing
    have acted {u : State} (hu : u.storeLegal) :
        (if u.store.pfailActive then u.actOnPowerFail else u).storeLegal := by
      split
      · rename_i active; exact hu.actOnPowerFail active
      · exact hu
    rw [State.completeRestore_eq]
    refine acted ?_
    split
    · exact announced.requestCheckpoint
    · exact announced
  · exact h

/-! ### The statement -/

theorem storeLegal_keptByBooks : KeptByBooks State.storeLegal where
  of_eq h _ _ e := h.of_store e
  closeBatch cause overshoot b h := h.closeBatch cause overshoot b
  requestParameters h := h.requestParameters
  requestCheckpoint h := h.requestCheckpoint
  setCursor _ _ h _ := h
  clearLost _ h := h
  reset _ e := execReset_storeLegal e
  restoreComplete h e := execRestoreComplete_storeLegal h e
  jobComplete h e := execJobComplete_storeLegal h e
  powerFailWarning h e := execPowerFailWarning_storeLegal h e
  powerFailClear h e := execPowerFailClear_storeLegal h e

/-- Settles O15: a job joins where there is room, the first of the queue is the one that begins, and the store is HALTED at a
completion under the indication alone. -/
theorem stepKeepsWriteQueue : Obligations.StepKeepsWriteQueue := fun _ _ => storeLegal_keptByBooks.step

end

end Sys2Proof.Machine
end
